-- ==== Sys2Proof/Word.lean ====
section
/-! DEFINITION. The word types of the PX96: what the manual treats as bits. -/

namespace Sys2Proof

/-- One byte on a wire, the change counter of R1. -/
abbrev Byte := BitVec 8

/-- A 16-bit count that wraps: sequence number (R69), day number (R37), snapshot number (R194), CRC-16 (R186). -/
abbrev Half := BitVec 16

/-- A 32-bit count that wraps: epoch number (R39), frame counter (R109). -/
abbrev Word := BitVec 32

end Sys2Proof
end

