-- ==== Sys2Proof/Syntax.lean ====
section
/-! DEFINITION. The commands the PX96 takes: one constructor for each row of spec/opcode_table.json. -/

namespace Sys2Proof

/-- The two links: the operator link (OPL) and the service link (SVL). -/
inductive Link where
  | operator | service
deriving DecidableEq, Repr

/-- The three phases, in the order A, B, C of the conventions. -/
inductive Phase where
  | A | B | C
deriving DecidableEq, Repr

/-- The seven discrete inputs (R146), in the order of their numbers (R185). -/
inductive InputLine where
  | rlyBlock | rlyTrip | door | keyLocal | supplyWarn | aux1 | aux2
deriving DecidableEq, Repr

/-- Seven like things, one for each discrete input. -/
structure PerInput (α : Type) where
  rlyBlock : α
  rlyTrip : α
  door : α
  keyLocal : α
  supplyWarn : α
  aux1 : α
  aux2 : α
deriving DecidableEq, Repr

/-- The number of one of the four transfer slots (R86). -/
abbrev SlotId := Fin 4

/-- A message of a module as it arrives: its bytes (R190), and whether it, or a part of it, comes after the window of the
transaction it answers has closed (R113, log 37). -/
structure Arrival where
  late : Bool
  bytes : List Byte
deriving DecidableEq, Repr

/-- A command of the block. A link request is a complete frame with a good CRC whose command is the row's; it carries
the link it came over, its tag and its payload bytes (R186, R188). -/
inductive Instr where
  /-- POWER_ON_RESET (R2): the level of each input line, the first store reading in mV, and whether select is low. -/
  | powerOnReset (lines : PerInput Bool) (storeMilliVolts : Nat) (selectLow : Bool)
  | status (lk : Link) (tag : Byte) (payload : List Byte)
  | readConn (lk : Link) (tag : Byte) (payload : List Byte)
  | readTable (lk : Link) (tag : Byte) (payload : List Byte)
  | readPhases (lk : Link) (tag : Byte) (payload : List Byte)
  | readPlan (lk : Link) (tag : Byte) (payload : List Byte)
  | readQueue (lk : Link) (tag : Byte) (payload : List Byte)
  | readSlots (lk : Link) (tag : Byte) (payload : List Byte)
  | readHistory (lk : Link) (tag : Byte) (payload : List Byte)
  | readEvents (lk : Link) (tag : Byte) (payload : List Byte)
  | readInputs (lk : Link) (tag : Byte) (payload : List Byte)
  | getParam (lk : Link) (tag : Byte) (payload : List Byte)
  | queryModule (lk : Link) (tag : Byte) (payload : List Byte)
  | move (lk : Link) (tag : Byte) (payload : List Byte)
  | cancel (lk : Link) (tag : Byte) (payload : List Byte)
  | pin (lk : Link) (tag : Byte) (payload : List Byte)
  | unpin (lk : Link) (tag : Byte) (payload : List Byte)
  | hold (lk : Link) (tag : Byte) (payload : List Byte)
  | release (lk : Link) (tag : Byte) (payload : List Byte)
  | setAllowance (lk : Link) (tag : Byte) (payload : List Byte)
  | configConn (lk : Link) (tag : Byte) (payload : List Byte)
  | setClass (lk : Link) (tag : Byte) (payload : List Byte)
  | setParam (lk : Link) (tag : Byte) (payload : List Byte)
  | start (lk : Link) (tag : Byte) (payload : List Byte)
  | autoOn (lk : Link) (tag : Byte) (payload : List Byte)
  | autoOff (lk : Link) (tag : Byte) (payload : List Byte)
  | configure (lk : Link) (tag : Byte) (payload : List Byte)
  | resume (lk : Link) (tag : Byte) (payload : List Byte)
  | esRetry (lk : Link) (tag : Byte) (payload : List Byte)
  | clearEvents (lk : Link) (tag : Byte) (payload : List Byte)
  | clearInputs (lk : Link) (tag : Byte) (payload : List Byte)
  | setTime (lk : Link) (tag : Byte) (payload : List Byte)
  | restart (lk : Link) (tag : Byte) (payload : List Byte)
  /-- LINK_FRAME_DISCARDED (R175, R176): the byte whose arrival ends the frame. -/
  | linkFrameDiscarded (lk : Link) (byte : Byte)
  /-- LINK_GAP_TIMEOUT (R175): the 20 ms gap, or a byte with a framing error. -/
  | linkGapTimeout (lk : Link) (framingError : Bool)
  | replySent (lk : Link)
  /-- ACCEPTED_CROSSING (R28): the sample pair, in mV and mA, that accepts the crossing. -/
  | acceptedCrossing (p : Phase) (milliVolts milliAmps : Int)
  | noCrossingLoss (p : Phase)
  /-- NEUTRAL_WINDOW_END (R31): the neutral current samples of the window, in mA. -/
  | neutralWindowEnd (samples : List Int)
  | secondTick
  | dayRollover
  | epochEnd
  /-- DEBOUNCE_COMPLETE (R147): the sample of the line that completes the run. -/
  | debounceComplete (inp : InputLine) (lineHigh : Bool)
  | supplyClearingTimeout
  /-- STORE_VOLTAGE_RENEWAL (R134): the mean store voltage over the millisecond, in mV. -/
  | storeVoltageRenewal (milliVolts : Nat)
  | chargeTimeout
  | recoveryEnd
  | frameBoundary
  | unitStart
  | pollReply (msg : Arrival)
  | actuationReply (msg : Arrival)
  | passThroughReply (msg : Arrival)
  | transactionMissed
  | gapPoint (k : SlotId)
  | orphanDeadline (k : SlotId)
  | darkDeadline (k : SlotId)
  | admission
  | summarySelect
  | summaryDeselect
  /-- SAMPLE_PAIR (R28): one voltage-current sample pair, in mV and mA. -/
  | samplePair (p : Phase) (milliVolts milliAmps : Int)
  | inputSample (inp : InputLine) (lineHigh : Bool)
  | linkByteReceived (lk : Link) (byte : Byte)
  | unknownCommand (lk : Link) (code tag : Byte) (payload : List Byte)
  | summaryClockFallingEdge
deriving DecidableEq, Repr

end Sys2Proof
end

