-- ==== Sys2Proof/Config.lean ====
section
/-! DEFINITION. What one PX96 fixes, the units of the model, and the free values. -/

namespace Sys2Proof

/-- Ticks of the model's clock in one second. The unit is the model's (log 2): it makes a millisecond, both nominal
periods, their 128th and their 13th parts whole numbers of ticks. -/
def Config.ticksPerSecond : Nat := 319488000

/-- Ticks in one millisecond. -/
def Config.ticksPerMs : Nat := 319488

/-- Places of the Move Queue (R70). -/
def Config.queuePlaces : Nat := 16

/-- Places of the history (R82). -/
def Config.historyPlaces : Nat := 32

/-- Where the expiry of queued PLANNER records falls at one epoch end. -/
inductive ExpiryPlace where
  /-- before the planner run -/
  | beforeRun
  /-- between the planner run and the rescue pass -/
  | afterRun
  /-- after the rescue pass -/
  | afterPass
deriving DecidableEq, Repr, Inhabited

/-- FREE VALUE (log 3, R47, R75): the order of expiry and planner run at an epoch end may be either. No body: nothing
can be proved of it. The state's counter `free` gives a fresh argument at each epoch end. -/
opaque Config.expiryPlace : Nat → ExpiryPlace

end Sys2Proof
end

