-- ==== Sys2Proof/Machine/State.lean ====
section
/-! DEFINITION. Everything the spec gives the PX96, as plain data, and the state right after power-on reset. -/

namespace Sys2Proof.Machine

open Sys2Proof

/-! ### Containers -/

/-- Three like things, one for each phase. -/
structure PerPhase (α : Type) where
  a : α
  b : α
  c : α
deriving DecidableEq, Repr

/-- Two like things, one for each link. -/
structure PerLink (α : Type) where
  operator : α
  service : α
deriving DecidableEq, Repr

/-- A connection, or its module: connection number n (1 to 96) is the index n − 1. -/
abbrev ConnId := Fin 96

/-! ### Connection Table (R1) -/

inductive LinkState where
  | unseen | online | offline
deriving DecidableEq, Repr

/-- The confirmed phase: A, B, C, NONE (`off`, module open) or UNKNOWN. -/
inductive Confirmed where
  | on (p : Phase) | off | unknown
deriving DecidableEq, Repr

inductive PendingState where
  | accepted | unanswered
deriving DecidableEq, Repr

/-- The one actuation sent to the module whose effect has not been seen (R1, R7, R8). -/
structure PendingActuation where
  before : Confirmed
  intended : Confirmed
  state : PendingState
deriving DecidableEq, Repr

inductive HoldReason where
  | operator | chatter
deriving DecidableEq, Repr

/-- One connection record: the fields of R1. -/
structure Conn where
  present : Bool
  timing : Fin 4
  allowance : Nat
  link : LinkState
  phase : Confirmed
  expected : Byte
  pendingAct : Option PendingActuation
  dark : Bool
  pin : Bool
  hold : Option HoldReason
  chatterPending : Bool
  movesToday : Nat
  uncommanded : Nat
  lastMove : Option Word
  lastLoad : Option Int
  accSum : Int
  accCount : Nat
  /-- loads of replies that came after the tick that ended the epoch and before its EPOCH_END: they belong to the new
  epoch (R47, log 9) -/
  nextSum : Int
  nextCount : Nat
  epochLoad : Option Int
  missedRun : Nat
  fault : Bool
  localOp : Bool
  recordLink : Option Half
deriving DecidableEq, Repr

/-! ### Feeder Measurement Unit (R27 to R41) -/

inductive Health where
  | healthy | degraded | lost | recovering
deriving DecidableEq, Repr

/-- Running sums over sample pairs: how many, of v², of i² and of v·i, in mV and mA (R30). -/
structure Sums where
  n : Nat
  vv : Nat
  ii : Nat
  vi : Int
deriving DecidableEq, Repr

/-- A cycle in progress (R29): the place of the crossing that opened it and the sums of its samples so far. -/
structure OpenCycle where
  start : Nat
  sums : Sums
deriving DecidableEq, Repr

/-- The three per-cycle values of R30, in 0.1 V, 0.1 A and W. -/
structure CycleValues where
  rmsV : Nat
  rmsI : Nat
  power : Int
deriving DecidableEq, Repr

/-- One phase channel. -/
structure PhaseChannel where
  /-- accepted sign (R28): absent, or POSITIVE as true -/
  sign : Option Bool
  run : Nat
  /-- sign of the sample before, which R28 compares while there is no accepted sign -/
  lastSign : Option Bool
  /-- sample interval in ticks (R27) -/
  interval : Nat
  /-- that interval is the fallback, nominal period / 128, which follows a write of the nominal frequency (R27) -/
  fallback : Bool
  /-- instant of the latest sample -/
  sampledAt : Nat
  /-- instant and sums of the samples of the running run, the first of which is the place of a crossing -/
  runPlace : Nat
  runSums : Sums
  cycle : Option OpenCycle
  /-- place of the last accepted positive-going crossing, or power-on (R34) -/
  lastCrossing : Nat
  noCrossing : Bool
  latest : Option CycleValues
  health : Health
  lossRun : Nat
  outRun : Nat
  inRun : Nat
  started : Bool
  accSum : Int
  accCount : Nat
deriving DecidableEq, Repr

/-- The neutral channel (R31). -/
structure Neutral where
  latest : Option Nat
  overcurrent : Bool
  overRun : Nat
  underRun : Nat
  /-- start of the window in progress, when one is in progress whole -/
  windowStart : Option Nat
  /-- a complete window of the reference awaits NEUTRAL_WINDOW_END -/
  windowReady : Bool
  /-- the samples that window holds: one for each sample pair of the reference's completed cycle -/
  windowCount : Nat
deriving DecidableEq, Repr

/-- The epoch averages record (R40). -/
structure Averages where
  epoch : Word
  avg : PerPhase (Option Int)
deriving DecidableEq, Repr

structure Fmu where
  chan : PerPhase PhaseChannel
  neutral : Neutral
  averages : Option Averages
  disturbed : Bool
deriving DecidableEq, Repr

/-! ### Time Base (R37 to R39) -/

structure Tbs where
  timeOfDay : Nat
  day : Half
  epoch : Word
  epochLength : Nat
  pendingLength : Nat
  /-- instant of the last second tick or SET_TIME -/
  tickAt : Nat
  /-- the tick just taken reached a multiple of the epoch length and its EPOCH_END has not been taken (log 9) -/
  endDue : Bool
deriving DecidableEq, Repr

/-! ### Balancing Planner (R57, R65) -/

inductive PlanOutcome where
  | notAuto | disturbed | pending | queueFull | balanced | noCandidate | planned
deriving DecidableEq, Repr

structure PlanEntry where
  conn : ConnId
  source : Phase
  target : Phase
  gain : Int
deriving DecidableEq, Repr

structure PlanStatus where
  epoch : Word
  outcome : PlanOutcome
  before : Option Int
  after : Option Int
  entries : List PlanEntry
deriving DecidableEq, Repr

inductive RescueCause where
  | loss | epochEnd
deriving DecidableEq, Repr

structure RescueStatus where
  cause : RescueCause
  epoch : Word
  lost : PerPhase Bool
  accepted : Nat
  displaced : Nat
  deferred : Nat
  unplaced : Nat
deriving DecidableEq, Repr

structure Bpl where
  plan : Option PlanStatus
  rescue : Option RescueStatus
deriving DecidableEq, Repr

/-! ### Parameters (R184) and timing classes (R131) -/

inductive Nominal where
  | hz50 | hz60
deriving DecidableEq, Repr

structure Params where
  nominal : Nominal
  vLow : Nat
  vHigh : Nat
  vLoss : Nat
  restoreTime : Nat
  neutralLimit : Nat
  chatterLimit : Nat
  chatterHold : Bool
  wtrig : Nat
  wmin : Nat
  plim : Nat
  kmax : Nat
  restPeriod : Nat
  rescue : Bool
  readyLevel : Nat
  chargeTimeout : Nat
  haltMask : Byte
  alertMask : Half
  lampMask : Half
deriving DecidableEq, Repr

structure TimingClass where
  breakPulse : Nat
  makePulse : Nat
  settle : Nat
  recovery : Nat
  gap : Nat
  orphan : Nat
deriving DecidableEq, Repr

/-! ### Move Queue (R68 to R85) -/

inductive Origin where
  | planner | rescue | operator | service
deriving DecidableEq, Repr

inductive MoveClass where
  | rescue | manual | planner
deriving DecidableEq, Repr

inductive Result where
  | done | notOpened | returned | dark | reverted | wrongPhase | noReply | stale | blocked | moduleOffline
  | targetUnhealthy | limitReached | displaced | expired | cancelled | halted | abandoned
deriving DecidableEq, Repr

/-- A move record (R68). Its class follows from its origin, its slot and stage from where it stands. -/
structure MoveRec where
  seq : Half
  conn : ConnId
  source : Phase
  target : Phase
  origin : Origin
  load : Option Int
  acceptedEpoch : Word
  cancel : Bool
  breaks : Nat
  makes : Nat
  returns : Nat
  breakTime : Option Nat
  /-- acceptance order (R70: not the order of sequence numbers) -/
  order : Nat
deriving DecidableEq, Repr

/-- A history entry (R82). -/
structure HistEntry where
  seq : Half
  conn : ConnId
  source : Phase
  target : Phase
  origin : Origin
  result : Result
  epoch : Word
  timeOfDay : Nat
  breaks : Nat
  makes : Nat
  returns : Nat
  breakConfirmed : Bool
deriving DecidableEq, Repr

structure Mvq where
  queue : List MoveRec
  seqCounter : Half
  acceptCount : Nat
  history : List HistEntry
deriving DecidableEq, Repr

/-! ### Transfer Engine (R86) -/

inductive Stage where
  | waitBreak | breaking | gap | waitMake | making | waitReturn | returning | orphaned
deriving DecidableEq, Repr

/-- The kinds of request, grant and last actuation: BREAK, MAKE, RETURN. -/
inductive ActKind where
  | brk | make | ret
deriving DecidableEq, Repr

structure LastAct where
  kind : ActKind
  named : Option Phase
  frame : Word
  /-- the end of that frame, once it has ended (R87) -/
  frameEnd : Option Nat
deriving DecidableEq, Repr

structure Slot where
  record : MoveRec
  stage : Stage
  /-- admission order -/
  order : Nat
  lastAct : Option LastAct
  verifyDue : Option Word
  misses : Nat
deriving DecidableEq, Repr

structure Txe where
  slots : Vector (Option Slot) 4
  admitCount : Nat
deriving DecidableEq, Repr

/-! ### Selector Bus Controller (R109 to R120) -/

/-- What a transaction was made for (R112, R114). A verify poll and an actuation name their slot and the admission
order of the transfer they were made for. An actuation keeps what R7 and R8 record. -/
inductive Purpose where
  | survey
  | probe
  | verify (k : SlotId) (owner : Nat)
  | actuation (k : SlotId) (owner : Nat) (kind : ActKind) (before intended : Confirmed)
  | passThrough
deriving DecidableEq, Repr

structure Transaction where
  conn : ConnId
  purpose : Purpose
  lastUnit : Nat
deriving DecidableEq, Repr

/-- An entry of the pass-through pending list (R118). -/
structure Query where
  link : Link
  conn : ConnId
  onBus : Bool
  /-- RESTART has already answered the link BUSY -/
  answered : Bool
deriving DecidableEq, Repr

structure Sbc where
  frame : Word
  boundaryAt : Nat
  /-- the alignment phase; absent is the free-running timer (R110) -/
  alignment : Option Phase
  boundaryDue : Bool
  unit : Nat
  busyThrough : Nat
  unitLength : Nat
  /-- the nominal period in force since the latest boundary (R111) -/
  framePeriod : Nat
  txn : Option Transaction
  verifyPolls : List SlotId
  surveyPos : Nat
  surveyed : List ConnId
  surveyStopped : Bool
  probePos : Nat
  probed : Bool
  lastProbe : Vector (Option Word) 96
  queries : List Query
  /-- the messages sent at the latest frame boundary or unit start (log 25) -/
  sent : List (List Byte)
deriving DecidableEq, Repr

/-! ### Energy Store Monitor (R133) -/

structure Grant where
  slot : SlotId
  kind : ActKind
  conn : ConnId
  recovery : Nat
  frame : Word
deriving DecidableEq, Repr

/-- The store state with the fields that are present in it (R133): in CHARGING the instant the charge timer started
and the timeout it runs against (ms); in RECOVERY the recovery count and the current grant. -/
inductive StoreState where
  | charging (since timeout : Nat)
  | ready
  | recovery (count : Nat) (grant : Grant)
  | fault
deriving DecidableEq, Repr

structure Esm where
  store : StoreState
  voltage : Nat
  renewedAt : Nat
deriving DecidableEq, Repr

/-! ### Interlock Unit (R146 to R158) -/

structure InputRec where
  /-- polarity HIGH -/
  polarityHigh : Bool
  /-- type LEVEL -/
  level : Bool
  debounce : Nat
  sampled : Bool
  debounced : Bool
  run : Option Nat
  status : Bool
  sampledAt : Nat
deriving DecidableEq, Repr

inductive HaltSource where
  | rlyBlock | rlyTrip | door | aux1 | aux2 | neutralOc | esFault | mapFault
deriving DecidableEq, Repr

/-- The five names of the controller mode. -/
inductive ModeName where
  | config | manual | auto | halted | rideThrough
deriving DecidableEq, Repr

structure HaltEntry where
  source : HaltSource
  mode : ModeName
  epoch : Word
  timeOfDay : Nat
deriving DecidableEq, Repr

/-- The supply warning state; in CLEARING the instant the clearing timer started (R158). -/
inductive SupplyState where
  | clear
  | warning
  | clearing (since : Nat)
deriving DecidableEq, Repr

structure Ilu where
  inputs : PerInput InputRec
  mapFault : Bool
  haltRecord : List HaltEntry
  supply : SupplyState
deriving DecidableEq, Repr

/-! ### Mode Controller (R163, R165) -/

/-- The modes that can be saved. -/
inductive BaseMode where
  | config | manual | auto | halted
deriving DecidableEq, Repr

/-- The controller mode; RIDE_THROUGH holds the saved mode, which is present in no other (R165). -/
inductive Mode where
  | base (m : BaseMode)
  | rideThrough (saved : BaseMode)
deriving DecidableEq, Repr

structure Mdc where
  mode : Mode
  authority : Link
deriving DecidableEq, Repr

/-! ### Link ports (R174) -/

/-- The receiver: HUNT, or IN_FRAME with the bytes after the start byte and the instant of the last byte. -/
inductive Receiver where
  | hunt
  | inFrame (bytes : List Byte) (lastAt : Nat)
deriving DecidableEq, Repr

/-- The answer state: FREE, or ANSWERING with the command, the tag and, once known, the reply's payload. -/
inductive Answer where
  | free
  | answering (command tag : Byte) (reply : Option (List Byte))
deriving DecidableEq, Repr

structure Port where
  rx : Receiver
  answer : Answer
  /-- the last reply frame sent (log 25) -/
  lastReply : Option (List Byte)
deriving DecidableEq, Repr

/-! ### Event Unit (R191, R193) and Summary Port (R194, R195) -/

structure Evu where
  statuses : Half
  alert : Bool
  lamp : Bool
deriving DecidableEq, Repr

inductive StoreName where
  | charging | ready | recovery | fault
deriving DecidableEq, Repr

structure PhaseFigures where
  health : Health
  connected : Nat
  loadSum : Int
  average : Option Int
deriving DecidableEq, Repr

/-- The figures of the summary record (R189, R194). -/
structure Figures where
  mode : ModeName
  keyLocal : Bool
  store : StoreName
  depth : Nat
  present : Nat
  phases : PerPhase PhaseFigures
  countNone : Nat
  countUnknown : Nat
  countDark : Nat
deriving DecidableEq, Repr

/-- A summary record: its figures and its snapshot number. Its CRC is a function of them. -/
structure Published where
  figures : Figures
  number : Half
deriving DecidableEq, Repr

structure Smp where
  published : Published
  latched : Published
  /-- 0 to 511, or 512 for "past 511" -/
  bit : Nat
  selectLow : Bool
deriving DecidableEq, Repr

/-! ### The machine -/

/-- The whole block. `now` is the part's clock since power-on in ticks (log 1), `free` counts the free values taken
(log 3), `pending` is the queue of waiting commands. -/
structure State where
  now : Nat
  free : Nat
  params : Params
  classes : Vector TimingClass 4
  conns : Vector Conn 96
  fmu : Fmu
  tbs : Tbs
  bpl : Bpl
  mvq : Mvq
  txe : Txe
  sbc : Sbc
  esm : Esm
  ilu : Ilu
  mdc : Mdc
  ports : PerLink Port
  evu : Evu
  smp : Smp
  pending : List Instr
deriving DecidableEq, Repr

/-- No command stops the part with a fault (INVENTORY.md, Faults), so there is no constructor. -/
inductive Fault where
deriving DecidableEq, Repr

inductive Refusal where
  /-- Raised by exec's arms alone, for a command that has no meaning yet. Safe: the model stops. -/
  | notModelled (mnemonic : String)
deriving DecidableEq, Repr

/-! ### After power-on reset -/

/-- A record after power-on reset (R2). -/
def freshConn : Conn :=
  { present := false, timing := 0, allowance := 4, link := .unseen, phase := .unknown, expected := 0,
    pendingAct := none, dark := false, pin := false, hold := none, chatterPending := false, movesToday := 0,
    uncommanded := 0, lastMove := none, lastLoad := none, accSum := 0, accCount := 0, nextSum := 0, nextCount := 0,
    epochLoad := none, missedRun := 0, fault := false, localOp := false, recordLink := none }

/-- A phase channel at power-on (R27, R28, R29, R30, R32, R34, R40), at 50 Hz. -/
def freshChannel : PhaseChannel :=
  { sign := none, run := 0, lastSign := none, interval := 49920, fallback := true, sampledAt := 0, runPlace := 0,
    runSums := { n := 0, vv := 0, ii := 0, vi := 0 }, cycle := none, lastCrossing := 0, noCrossing := false,
    latest := none, health := .lost, lossRun := 0, outRun := 0, inRun := 0, started := false, accSum := 0,
    accCount := 0 }

/-- The parameters' defaults (R184). -/
def defaultParams : Params :=
  { nominal := .hz50, vLow := 2070, vHigh := 2530, vLoss := 1150, restoreTime := 5, neutralLimit := 1500,
    chatterLimit := 3, chatterHold := true, wtrig := 3000, wmin := 1000, plim := 80000, kmax := 1,
    restPeriod := 10, rescue := true, readyLevel := 600, chargeTimeout := 10, haltMask := 0xE3,
    alertMask := 0xFFFF, lampMask := 0x0223 }

/-- A timing class's defaults (R131). -/
def defaultClass : TimingClass :=
  { breakPulse := 20, makePulse := 20, settle := 2, recovery := 10, gap := 60, orphan := 2000 }

/-- An input record with the given configuration whose first sample found its line INACTIVE (R146, R148). -/
def quietInput (polarityHigh level : Bool) (debounce : Nat) : InputRec :=
  { polarityHigh := polarityHigh, level := level, debounce := debounce, sampled := false, debounced := false,
    run := none, status := false, sampledAt := 0 }

def freshPort : Port := { rx := .hunt, answer := .free, lastReply := none }

/-- The summary figures of the reset state (R194): CONFIG, REMOTE, CHARGING, all phases LOST, all counts 0. -/
def freshFigures : Figures :=
  let ph : PhaseFigures := { health := .lost, connected := 0, loadSum := 0, average := none }
  { mode := .config, keyLocal := false, store := .charging, depth := 0, present := 0,
    phases := { a := ph, b := ph, c := ph }, countNone := 0, countUnknown := 0, countDark := 0 }

/-- The part right after power-on reset. DESIGN CHOICE (log 8): every input line is found inactive, the first store
reading is 0.0 V, select is found high; POWER_ON_RESET carries other values. -/
def State.reset : State :=
  { now := 0
    free := 0
    params := defaultParams
    classes := Vector.replicate 4 defaultClass
    conns := Vector.replicate 96 freshConn
    fmu :=
      { chan := { a := freshChannel, b := freshChannel, c := freshChannel }
        neutral :=
          { latest := none, overcurrent := false, overRun := 0, underRun := 0, windowStart := some 0,
            windowReady := false, windowCount := 0 }
        averages := none
        disturbed := true }
    tbs :=
      { timeOfDay := 0, day := 0, epoch := 0, epochLength := 60, pendingLength := 60, tickAt := 0, endDue := false }
    bpl := { plan := none, rescue := none }
    mvq := { queue := [], seqCounter := 0, acceptCount := 0, history := [] }
    txe := { slots := Vector.replicate 4 none, admitCount := 0 }
    sbc :=
      { frame := 0, boundaryAt := 0, alignment := none, boundaryDue := false, unit := 0, busyThrough := 0,
        unitLength := 491520, framePeriod := 6389760, txn := none, verifyPolls := [], surveyPos := 0, surveyed := [],
        surveyStopped := false, probePos := 0, probed := false, lastProbe := Vector.replicate 96 none,
        queries := [], sent := [] }
    esm := { store := .charging 0 10000, voltage := 0, renewedAt := 0 }
    ilu :=
      { inputs :=
          { rlyBlock := quietInput true true 20, rlyTrip := quietInput true false 0,
            door := quietInput false false 100, keyLocal := quietInput true true 100,
            supplyWarn := quietInput true true 0, aux1 := quietInput true false 20,
            aux2 := quietInput true false 20 }
        mapFault := false
        haltRecord := []
        supply := .clear }
    mdc := { mode := .base .config, authority := .operator }
    ports := { operator := freshPort, service := freshPort }
    evu := { statuses := 0x8000, alert := true, lamp := false }
    smp :=
      { published := { figures := freshFigures, number := 0 }, latched := { figures := freshFigures, number := 0 },
        bit := 512, selectLow := false }
    pending := [] }

end Sys2Proof.Machine
end

