-- ==== Sys2Proof/Machine/Ops.lean ====
section
/-! DEFINITION. The named operations over the state that every block uses: reading and writing records, slots, phase
channels, inputs and ports, the clock, and what one block tells another. -/

namespace Sys2Proof.Machine

open Sys2Proof

/-! ### Containers -/

def PerPhase.get {α : Type} (t : PerPhase α) : Phase → α
  | .A => t.a
  | .B => t.b
  | .C => t.c

def PerPhase.set {α : Type} (t : PerPhase α) (p : Phase) (x : α) : PerPhase α :=
  match p with
  | .A => { t with a := x }
  | .B => { t with b := x }
  | .C => { t with c := x }

def PerPhase.map {α β : Type} (t : PerPhase α) (f : α → β) : PerPhase β := ⟨f t.a, f t.b, f t.c⟩

def PerLink.get {α : Type} (t : PerLink α) : Link → α
  | .operator => t.operator
  | .service => t.service

def PerLink.set {α : Type} (t : PerLink α) (lk : Link) (x : α) : PerLink α :=
  match lk with
  | .operator => { t with operator := x }
  | .service => { t with service := x }

/-- One member of seven (the container is declared beside Instr). -/
def inputOf {α : Type} (t : PerInput α) : InputLine → α
  | .rlyBlock => t.rlyBlock
  | .rlyTrip => t.rlyTrip
  | .door => t.door
  | .keyLocal => t.keyLocal
  | .supplyWarn => t.supplyWarn
  | .aux1 => t.aux1
  | .aux2 => t.aux2

def withInput {α : Type} (t : PerInput α) (i : InputLine) (x : α) : PerInput α :=
  match i with
  | .rlyBlock => { t with rlyBlock := x }
  | .rlyTrip => { t with rlyTrip := x }
  | .door => { t with door := x }
  | .keyLocal => { t with keyLocal := x }
  | .supplyWarn => { t with supplyWarn := x }
  | .aux1 => { t with aux1 := x }
  | .aux2 => { t with aux2 := x }

/-- A function applied to each of n like things. -/
def mapAll {α β : Type} {n : Nat} (f : α → β) (v : Vector α n) : Vector β n :=
  ⟨⟨v.toList.map f⟩, by simp⟩

/-- The phases in their order. -/
def phases : List Phase := [.A, .B, .C]

/-- The slots in their order. -/
def allSlots : List SlotId := [0, 1, 2, 3]

/-- The connections in ascending number. -/
def allConns : List ConnId := List.finRange 96

/-- The connection number, 1 to 96. -/
def connNumber (n : ConnId) : Nat := n.val + 1

/-- The connection of a number, if it lies in 1 to 96. -/
def connOf? (k : Nat) : Option ConnId :=
  if h : 1 ≤ k ∧ k ≤ 96 then some ⟨k - 1, by omega⟩ else none

/-! ### Records, slots, channels, inputs, ports -/

def State.conn (s : State) (n : ConnId) : Conn := s.conns[n]

def State.setConn (s : State) (n : ConnId) (c : Conn) : State := { s with conns := s.conns.set n c }

def State.slot (s : State) (k : SlotId) : Option Slot := s.txe.slots[k]

/-- The stage of an occupied slot. -/
def State.slotStage (s : State) (k : SlotId) : Option Stage :=
  match s.slot k with
  | some sl => some sl.stage
  | none => none

def State.setSlot (s : State) (k : SlotId) (x : Option Slot) : State :=
  { s with txe := { s.txe with slots := s.txe.slots.set k x } }

def State.chan (s : State) (p : Phase) : PhaseChannel := s.fmu.chan.get p

def State.setChan (s : State) (p : Phase) (c : PhaseChannel) : State :=
  { s with fmu := { s.fmu with chan := s.fmu.chan.set p c } }

def State.health (s : State) (p : Phase) : Health := (s.chan p).health

def State.port (s : State) (lk : Link) : Port := s.ports.get lk

def State.setPort (s : State) (lk : Link) (p : Port) : State := { s with ports := s.ports.set lk p }

def State.input (s : State) (i : InputLine) : InputRec := inputOf s.ilu.inputs i

def State.setInput (s : State) (i : InputLine) (r : InputRec) : State :=
  { s with ilu := { s.ilu with inputs := withInput s.ilu.inputs i r } }

/-- The timing class of a connection (R107, R131). -/
def State.timing (s : State) (n : ConnId) : TimingClass := s.classes[(s.conn n).timing]

/-- The key is at LOCAL (R160): the debounced level of KEY_LOCAL. -/
def State.keyLocal (s : State) : Bool := s.ilu.inputs.keyLocal.debounced

/-! ### The mode (R165) -/

def BaseMode.name : BaseMode → ModeName
  | .config => .config
  | .manual => .manual
  | .auto => .auto
  | .halted => .halted

def Mode.name : Mode → ModeName
  | .base m => m.name
  | .rideThrough _ => .rideThrough

def State.modeName (s : State) : ModeName := s.mdc.mode.name

def State.setMode (s : State) (m : Mode) : State := { s with mdc := { s.mdc with mode := m } }

/-- The mode is MANUAL or AUTO: moves are taken and admitted (R71, R78). -/
def State.movesAllowed (s : State) : Bool := s.modeName == .manual || s.modeName == .auto

/-! ### Time (log 1, log 2) -/

/-- The clock stands at or past an instant. -/
def State.atInstant (s : State) (t : Nat) : State := { s with now := max s.now t }

/-- The nominal period in ticks: 20 ms, or 16.67 ms. -/
def Nominal.period : Nominal → Nat
  | .hz50 => 6389760
  | .hz60 => 5324800

/-- The nominal frequency in Hz. -/
def Nominal.hertz : Nominal → Nat
  | .hz50 => 50
  | .hz60 => 60

def State.period (s : State) : Nat := s.params.nominal.period

/-- A duration of ticks in whole milliseconds, a part of one dropped (DESIGN CHOICE, log 36). -/
def ticksToMs (t : Nat) : Nat := t / Config.ticksPerMs

def msToTicks (ms : Nat) : Nat := ms * Config.ticksPerMs

/-! ### Event kinds (R185, R191) -/

inductive EventKind where
  | halt | phaseLost | phaseDegraded | phaseRestored | transferFailed | connectionDark | moduleOffline
  | uncommandedChange | chatterHold | esFault | planMade | rescueStarted | supplyWarn | keyChanged | dayRollover
  | restarted
deriving DecidableEq, Repr

def EventKind.bit : EventKind → Nat
  | .halt => 0
  | .phaseLost => 1
  | .phaseDegraded => 2
  | .phaseRestored => 3
  | .transferFailed => 4
  | .connectionDark => 5
  | .moduleOffline => 6
  | .uncommandedChange => 7
  | .chatterHold => 8
  | .esFault => 9
  | .planMade => 10
  | .rescueStarted => 11
  | .supplyWarn => 12
  | .keyChanged => 13
  | .dayRollover => 14
  | .restarted => 15

/-- The set with one member. -/
def EventKind.mask (e : EventKind) : Half := (1 : Half) <<< e.bit

/-- An edge kind is raised: its status becomes set (R191). -/
def State.raise (s : State) (e : EventKind) : State :=
  { s with evu := { s.evu with statuses := s.evu.statuses ||| e.mask } }

/-! ### What one block tells another -/

/-- The running epoch is marked disturbed (R41). -/
def State.disturb (s : State) : State := { s with fmu := { s.fmu with disturbed := true } }

/-- The reference phase of R31 and the alignment phase of R110: the first phase that is not LOST. -/
def firstNotLost (ch : PerPhase PhaseChannel) : Option Phase :=
  phases.find? fun p => (ch.get p).health != .lost

/-- The move record of a connection is in a slot: its record link names that slot's record (R17). -/
def State.slotOf (s : State) (n : ConnId) : Option SlotId :=
  match (s.conn n).recordLink with
  | none => none
  | some q => allSlots.find? fun k =>
      match s.slot k with
      | some sl => sl.record.seq == q && sl.record.conn == n
      | none => false

/-- The stage at which a connection's record stands in a slot, if it stands in one. -/
def State.stageOf (s : State) (n : ConnId) : Option Stage :=
  (s.slotOf n).bind fun k => s.slotStage k

/-- BREAKING, GAP, WAIT_MAKE, MAKING, WAIT_RETURN or RETURNING: the stages of R10 and R15. -/
def Stage.midTransfer : Stage → Bool
  | .breaking | .gap | .waitMake | .making | .waitReturn | .returning => true
  | .waitBreak | .orphaned => false

/-- The stages at which verify polls are made (R92). -/
def Stage.verifying : Stage → Bool
  | .breaking | .making | .returning | .orphaned => true
  | .waitBreak | .gap | .waitMake | .waitReturn => false

/-- The class of a record of an origin (R68). -/
def Origin.moveClass : Origin → MoveClass
  | .rescue => .rescue
  | .operator | .service => .manual
  | .planner => .planner

/-- Class order (R70): RESCUE, MANUAL, PLANNER. -/
def MoveClass.rank : MoveClass → Nat
  | .rescue => 0
  | .manual => 1
  | .planner => 2

def MoveRec.rank (r : MoveRec) : Nat := r.origin.moveClass.rank

def MoveRec.isPlanner (r : MoveRec) : Bool := r.origin == .planner

def Confirmed.ofClosed : Option Phase → Confirmed
  | some p => .on p
  | none => .off

def Confirmed.phase? : Confirmed → Option Phase
  | .on p => some p
  | .off | .unknown => none

/-- A slot is free (R86). -/
def State.freeSlot (s : State) : Option SlotId := allSlots.find? fun k => (s.slot k).isNone

/-- No slot is occupied. -/
def State.slotsEmpty (s : State) : Bool := allSlots.all fun k => (s.slot k).isNone

end Sys2Proof.Machine
end

