-- ==== Sys2Proof/Machine/Wire.lean ====
section
/-! DEFINITION. The codes and byte layouts of the wires: link frames, link payload fields, the summary record and the
selector bus (R180, R185 to R190). Multi-byte values are sent most significant byte first. -/

namespace Sys2Proof.Machine

open Sys2Proof

/-! ### Fields -/

def u8 (n : Nat) : List Byte := [BitVec.ofNat 8 n]

def be16 (w : Half) : List Byte := [w.extractLsb' 8 8, w.extractLsb' 0 8]

def be32 (w : Word) : List Byte :=
  [w.extractLsb' 24 8, w.extractLsb' 16 8, w.extractLsb' 8 8, w.extractLsb' 0 8]

def u16 (n : Nat) : List Byte := be16 (BitVec.ofNat 16 n)

def u32 (n : Nat) : List Byte := be32 (BitVec.ofNat 32 n)

def i16 (x : Int) : List Byte := be16 (BitVec.ofInt 16 x)

def i32 (x : Int) : List Byte := be32 (BitVec.ofInt 32 x)

def flag (b : Bool) : List Byte := [if b then 1 else 0]

/-- A load in 2 bytes, absence marked by −32,768 (R185). -/
def loadField (x : Option Int) : List Byte := i16 (x.getD (-32768))

/-- A power in 4 bytes, absence marked by −2,147,483,648 (R185). -/
def powerField (x : Option Int) : List Byte := i32 (x.getD (-2147483648))

/-- A "(P)" field of 2 bytes (R185). -/
def presentU16 : Option Nat → List Byte
  | some n => 1 :: u16 n
  | none => [0, 0, 0]

/-- A "(P)" field of 4 bytes (R185). -/
def presentI32 : Option Int → List Byte
  | some x => 1 :: i32 x
  | none => [0, 0, 0, 0, 0]

def half (hi lo : Byte) : Half := hi ++ lo

def word (b3 b2 b1 b0 : Byte) : Word := b3 ++ b2 ++ (b1 ++ b0)

/-! ### Codes of named values (R185) -/

def Phase.code : Phase → Nat
  | .A => 1
  | .B => 2
  | .C => 3

def phaseOfCode? : Nat → Option Phase
  | 1 => some .A
  | 2 => some .B
  | 3 => some .C
  | _ => none

def Confirmed.code : Confirmed → Nat
  | .on p => Phase.code p
  | .off => 4
  | .unknown => 5

def closedCode : Option Phase → Nat
  | some p => Phase.code p
  | none => 4

/-- A reported closed phase: 1 to 3, or 4 for NONE (R190). -/
def closedOfCode? : Nat → Option (Option Phase)
  | 1 => some (some .A)
  | 2 => some (some .B)
  | 3 => some (some .C)
  | 4 => some none
  | _ => none

def LinkState.code : LinkState → Nat
  | .unseen => 0
  | .online => 1
  | .offline => 2

def holdCode : Option HoldReason → Nat
  | none => 0
  | some .operator => 1
  | some .chatter => 2

def Health.code : Health → Nat
  | .healthy => 0
  | .degraded => 1
  | .lost => 2
  | .recovering => 3

def ModeName.code : ModeName → Nat
  | .config => 1
  | .manual => 2
  | .auto => 3
  | .halted => 4
  | .rideThrough => 5

def savedModeCode : Mode → Nat
  | .base _ => 0
  | .rideThrough m => ModeName.code m.name

def StoreState.name : StoreState → StoreName
  | .charging _ _ => .charging
  | .ready => .ready
  | .recovery _ _ => .recovery
  | .fault => .fault

def StoreName.code : StoreName → Nat
  | .charging => 0
  | .ready => 1
  | .recovery => 2
  | .fault => 3

def Origin.code : Origin → Nat
  | .planner => 1
  | .rescue => 2
  | .operator => 3
  | .service => 4

def MoveClass.code : MoveClass → Nat
  | .rescue => 1
  | .manual => 2
  | .planner => 3

def Stage.code : Stage → Nat
  | .waitBreak => 1
  | .breaking => 2
  | .gap => 3
  | .waitMake => 4
  | .making => 5
  | .waitReturn => 6
  | .returning => 7
  | .orphaned => 8

def ActKind.code : ActKind → Nat
  | .brk => 1
  | .make => 2
  | .ret => 3

def requestCode : Option ActKind → Nat
  | none => 0
  | some k => ActKind.code k

def Result.code : Result → Nat
  | .done => 1
  | .notOpened => 2
  | .returned => 3
  | .dark => 4
  | .reverted => 5
  | .wrongPhase => 6
  | .noReply => 7
  | .stale => 8
  | .blocked => 9
  | .moduleOffline => 10
  | .targetUnhealthy => 11
  | .limitReached => 12
  | .displaced => 13
  | .expired => 14
  | .cancelled => 15
  | .halted => 16
  | .abandoned => 17

def PlanOutcome.code : PlanOutcome → Nat
  | .notAuto => 1
  | .disturbed => 2
  | .pending => 3
  | .queueFull => 4
  | .balanced => 5
  | .noCandidate => 6
  | .planned => 7

def RescueCause.code : RescueCause → Nat
  | .loss => 1
  | .epochEnd => 2

def HaltSource.bit : HaltSource → Nat
  | .rlyBlock => 0
  | .rlyTrip => 1
  | .door => 2
  | .aux1 => 3
  | .aux2 => 4
  | .neutralOc => 5
  | .esFault => 6
  | .mapFault => 7

def SupplyState.code : SupplyState → Nat
  | .clear => 0
  | .warning => 1
  | .clearing _ => 2

/-- Input numbers 0 to 6 (R185). -/
def inputOfNumber? : Nat → Option InputLine
  | 0 => some .rlyBlock
  | 1 => some .rlyTrip
  | 2 => some .door
  | 3 => some .keyLocal
  | 4 => some .supplyWarn
  | 5 => some .aux1
  | 6 => some .aux2
  | _ => none

/-- A set of phases: bit 0 A, bit 1 B, bit 2 C. -/
def phaseSet (t : PerPhase Bool) : Nat := t.a.toNat + 2 * t.b.toNat + 4 * t.c.toNat

/-! ### Status codes (R180) -/

inductive Status where
  | ok | unknownCommand | badArg | notInControl | wrongMode | haltActive | notReady | busy | queueFull | duplicate
  | notPresent | notSupplied | samePhase | pinned | held | offline | targetUnhealthy | limit | noRecord | retry
deriving DecidableEq, Repr

def Status.code : Status → Byte
  | .ok => 0x00
  | .unknownCommand => 0x01
  | .badArg => 0x02
  | .notInControl => 0x03
  | .wrongMode => 0x04
  | .haltActive => 0x05
  | .notReady => 0x06
  | .busy => 0x07
  | .queueFull => 0x08
  | .duplicate => 0x09
  | .notPresent => 0x0A
  | .notSupplied => 0x0B
  | .samePhase => 0x0C
  | .pinned => 0x0D
  | .held => 0x0E
  | .offline => 0x0F
  | .targetUnhealthy => 0x10
  | .limit => 0x11
  | .noRecord => 0x12
  | .retry => 0x13

/-! ### CRC-16 (R186): x^16 + x^12 + x^5 + 1 from 0xFFFF, most significant bit first, no final inversion -/

def crcBit (c : Half) : Half := if c.msb then (c <<< 1) ^^^ 0x1021#16 else c <<< 1

def crcByte (c : Half) (b : Byte) : Half :=
  crcBit (crcBit (crcBit (crcBit (crcBit (crcBit (crcBit (crcBit (c ^^^ (b ++ 0#8)))))))))

def crc16 (bytes : List Byte) : Half := bytes.foldl crcByte 0xFFFF#16

/-- A message with its CRC after it, high byte first. -/
def withCrc (body : List Byte) : List Byte := body ++ be16 (crc16 body)

/-! ### Link frame (R186) -/

/-- A link frame with its start byte, length, command, tag, payload and CRC. -/
def linkFrame (command tag : Byte) (payload : List Byte) : List Byte :=
  0x7E :: withCrc (BitVec.ofNat 8 (payload.length + 2) :: command :: tag :: payload)

/-! ### Selector bus messages the part sends (R190) -/

def frameMarker : List Byte := withCrc [0, 0x0F]

def pollRequest (n : ConnId) : List Byte := withCrc (u8 (connNumber n) ++ [0x01])

def breakRequest (n : ConnId) (pulse : Nat) : List Byte := withCrc (u8 (connNumber n) ++ [0x02] ++ u8 pulse)

def makeRequest (n : ConnId) (p : Phase) (pulse : Nat) : List Byte :=
  withCrc (u8 (connNumber n) ++ [0x03] ++ u8 (Phase.code p) ++ u8 pulse)

def passThroughRequest (n : ConnId) : List Byte := withCrc (u8 (connNumber n) ++ [0x04])

/-! ### The summary record (R189) -/

def phaseFigureBytes (f : PhaseFigures) : List Byte :=
  u8 (Health.code f.health) ++ u8 f.connected ++ i32 f.loadSum ++ powerField f.average

/-- Bytes 0 to 61. -/
def summaryBody (p : Published) : List Byte :=
  be16 p.number ++ u8 (ModeName.code p.figures.mode) ++ flag p.figures.keyLocal
    ++ u8 (StoreName.code p.figures.store) ++ u8 p.figures.depth ++ u8 p.figures.present
    ++ phaseFigureBytes p.figures.phases.a ++ phaseFigureBytes p.figures.phases.b
    ++ phaseFigureBytes p.figures.phases.c ++ u8 p.figures.countNone ++ u8 p.figures.countUnknown
    ++ u8 p.figures.countDark ++ List.replicate 22 0

/-- The 64 bytes of a summary record. -/
def summaryBytes (p : Published) : List Byte := withCrc (summaryBody p)

/-- The relay's check of a record it has read (R196). -/
def relayAccepts (bytes : List Byte) : Bool :=
  bytes.length == 64 && be16 (crc16 (bytes.take 62)) == bytes.drop 62

end Sys2Proof.Machine
end

