-- ==== Sys2Proof/Machine/Flags.lean ====
section
/-! DEFINITION. Every flag the part computes: the halt sources and the halt active test, the condition statuses and the
two outputs, the summary figures, and `settle`, which brings the Event Unit and the Summary Port up to date at the end of
every operation (R193, R194). -/

namespace Sys2Proof.Machine

open Sys2Proof

/-! ### Halt sources (R152, R156) -/

/-- The status of a halt source, which is set while the source is asserted. -/
def State.asserted (s : State) : HaltSource → Bool
  | .rlyBlock => s.ilu.inputs.rlyBlock.status
  | .rlyTrip => s.ilu.inputs.rlyTrip.status
  | .door => s.ilu.inputs.door.status
  | .aux1 => s.ilu.inputs.aux1.status
  | .aux2 => s.ilu.inputs.aux2.status
  | .neutralOc => s.fmu.neutral.overcurrent
  | .esFault => s.esm.store == .fault
  | .mapFault => s.ilu.mapFault

def allSources : List HaltSource :=
  [.rlyBlock, .rlyTrip, .door, .aux1, .aux2, .neutralOc, .esFault, .mapFault]

/-- A source is a member of the halt mask (R154). -/
def State.masked (s : State) (h : HaltSource) : Bool := s.params.haltMask.getLsbD h.bit

/-- The halt active test (R156): some member of the halt mask is asserted. -/
def State.haltActive (s : State) : Bool := allSources.any fun h => s.masked h && s.asserted h

/-- The asserted sources as a set (R188). -/
def State.assertedSet (s : State) : Nat :=
  (allSources.map fun h => if s.asserted h then 2 ^ h.bit else 0).sum

/-! ### Condition statuses (R26, R35, R137, R165, R191) -/

/-- Whether the condition of a condition kind holds; false for the edge kinds. -/
def State.condition (s : State) : EventKind → Bool
  | .halt => s.modeName == .halted
  | .phaseLost => phases.any fun p => (s.chan p).started && s.health p == .lost
  | .phaseDegraded => phases.any fun p => s.health p == .degraded
  | .connectionDark => s.conns.toList.any fun c => c.present && c.dark
  | .moduleOffline => s.conns.toList.any fun c => c.present && c.link == .offline
  | .esFault => s.esm.store == .fault
  | .supplyWarn => s.modeName == .rideThrough
  | .phaseRestored | .transferFailed | .uncommandedChange | .chatterHold | .planMade | .rescueStarted
  | .keyChanged | .dayRollover | .restarted => false

/-- The condition kinds (R191). -/
def conditionKinds : List EventKind :=
  [.halt, .phaseLost, .phaseDegraded, .connectionDark, .moduleOffline, .esFault, .supplyWarn]

/-- Bits 0, 1, 2, 5, 6, 9 and 12. -/
def conditionMask : Half := 0x1267

/-- The condition statuses as the blocks stand. -/
def State.conditionBits (s : State) : Half :=
  (if s.condition .halt then EventKind.halt.mask else 0) |||
  (if s.condition .phaseLost then EventKind.phaseLost.mask else 0) |||
  (if s.condition .phaseDegraded then EventKind.phaseDegraded.mask else 0) |||
  (if s.condition .connectionDark then EventKind.connectionDark.mask else 0) |||
  (if s.condition .moduleOffline then EventKind.moduleOffline.mask else 0) |||
  (if s.condition .esFault then EventKind.esFault.mask else 0) |||
  (if s.condition .supplyWarn then EventKind.supplyWarn.mask else 0)

/-- All sixteen statuses: the edge statuses as they stand, the condition statuses as their conditions give them. -/
def State.statusesNow (s : State) : Half :=
  (s.evu.statuses &&& ~~~conditionMask) ||| s.conditionBits

/-- An output is asserted while a status that is a member of its mask is set (R193). -/
def outputOf (statuses mask : Half) : Bool := (statuses &&& mask) != 0

/-- The Event Unit brought up to date: condition statuses, ALERT and LAMP. -/
def State.judgeOutputs (s : State) : State :=
  { s with evu :=
      { statuses := s.statusesNow
        alert := outputOf s.statusesNow s.params.alertMask
        lamp := outputOf s.statusesNow s.params.lampMask } }

/-! ### Summary figures (R26, R194) -/

/-- Present records of a confirmed phase. -/
def countConfirmed (cs : List Conn) (c : Confirmed) : Nat := cs.countP fun x => x.present && x.phase == c

/-- Sum of epoch loads over present records of a confirmed phase, absent loads counting 0. -/
def loadSum (cs : List Conn) (c : Confirmed) : Int :=
  (cs.map fun x => if x.present && x.phase == c then x.epochLoad.getD 0 else 0).sum

def State.average (s : State) (p : Phase) : Option Int :=
  match s.fmu.averages with
  | some a => a.avg.get p
  | none => none

def State.phaseFigures (s : State) (p : Phase) : PhaseFigures :=
  { health := s.health p, connected := countConfirmed s.conns.toList (.on p),
    loadSum := loadSum s.conns.toList (.on p), average := s.average p }

/-- The figures formed afresh from the blocks. -/
def State.figures (s : State) : Figures :=
  { mode := s.modeName, keyLocal := s.keyLocal, store := s.esm.store.name, depth := s.mvq.queue.length,
    present := s.conns.toList.countP (·.present),
    phases := { a := s.phaseFigures .A, b := s.phaseFigures .B, c := s.phaseFigures .C },
    countNone := countConfirmed s.conns.toList .off, countUnknown := countConfirmed s.conns.toList .unknown,
    countDark := s.conns.toList.countP fun c => c.present && c.dark }

/-- The published record is renewed when a figure differs: new figures, the snapshot number up by 1 (R194). -/
def renewed (p : Published) (f : Figures) : Published :=
  if p.figures = f then p else { figures := f, number := p.number + 1 }

def State.renewSummary (s : State) : State :=
  { s with smp := { s.smp with published := renewed s.smp.published s.figures } }

/-- What ends every operation: the statuses and outputs judged (R193), the summary renewed when a figure differs
(R194). -/
def State.settle (s : State) : State := s.judgeOutputs.renewSummary

end Sys2Proof.Machine
end

