-- ==== Sys2Proof/Machine/Operands.lean ====
section
/-! DEFINITION. Every operand form: the request payloads of R188 and the selector-bus replies of R190. A parser answers
none where the length is wrong or an argument lies outside the range its rule requires (BAD_ARG, R178), or where a reply
fails its check (R113, R190). -/

namespace Sys2Proof.Machine

open Sys2Proof

/-- The nearest value within a range (Terms: "clamped"). -/
def clampNat (lo hi x : Nat) : Nat := max lo (min hi x)

def clampInt (lo hi x : Int) : Int := max lo (min hi x)

/-- A yes/no field (R185). -/
def yesNo? (b : Byte) : Option Bool := if b = 0 then some false else if b = 1 then some true else none

/-! ### Request payloads -/

/-- No payload. -/
def argNone : List Byte → Option Unit
  | [] => some ()
  | _ => none

/-- READ_CONN, QUERY_MODULE, PIN, UNPIN, HOLD, RELEASE: a connection number 1 to 96. -/
def argConn : List Byte → Option ConnId
  | [c] => connOf? c.toNat
  | _ => none

/-- READ_TABLE (R182): a start number 1 to 96 and a count 1 to 16. -/
def argTable : List Byte → Option (ConnId × Nat)
  | [c, k] =>
    match connOf? c.toNat with
    | some n => if 1 ≤ k.toNat ∧ k.toNat ≤ 16 then some (n, k.toNat) else none
    | none => none
  | _ => none

/-- READ_HISTORY (R83): absent for "the oldest entry", or the sequence number to start from. -/
def argHistory : List Byte → Option (Option Half)
  | [k, hi, lo] => if k = 0 then some none else if k = 1 then some (some (half hi lo)) else none
  | _ => none

/-- GET_PARAM: parameter number and index. -/
def argGetParam : List Byte → Option (Byte × Byte)
  | [p, i] => some (p, i)
  | _ => none

/-- MOVE: a connection number and a to phase A, B or C. -/
def argMove : List Byte → Option (ConnId × Phase)
  | [c, p] =>
    match connOf? c.toNat, phaseOfCode? p.toNat with
    | some n, some ph => some (n, ph)
    | _, _ => none
  | _ => none

/-- CANCEL: a sequence number. -/
def argCancel : List Byte → Option Half
  | [hi, lo] => some (half hi lo)
  | _ => none

/-- SET_ALLOWANCE: a connection number and an allowance, which is clamped by the command. -/
def argAllowance : List Byte → Option (ConnId × Nat)
  | [c, a] => (connOf? c.toNat).map fun n => (n, a.toNat)
  | _ => none

/-- CONFIG_CONN (R4): connection number, present, timing class 0 to 3. -/
def argConfig : List Byte → Option (ConnId × Bool × Fin 4)
  | [c, p, t] =>
    match connOf? c.toNat, yesNo? p with
    | some n, some pr => if h : t.toNat < 4 then some (n, pr, ⟨t.toNat, h⟩) else none
    | _, _ => none
  | _ => none

/-- SET_CLASS (R132): a class number 0 to 3 and the six field values as sent. -/
def argClass : List Byte → Option (Fin 4 × TimingClass)
  | [c, b1, b0, m1, m0, se, re, g1, g0, o1, o0] =>
    if h : c.toNat < 4 then
      some (⟨c.toNat, h⟩,
        { breakPulse := (half b1 b0).toNat, makePulse := (half m1 m0).toNat, settle := se.toNat,
          recovery := re.toNat, gap := (half g1 g0).toNat, orphan := (half o1 o0).toNat })
    else none
  | _ => none

/-- SET_PARAM: parameter number, index and signed value. -/
def argSetParam : List Byte → Option (Byte × Byte × Int)
  | [p, i, v3, v2, v1, v0] => some (p, i, (word v3 v2 v1 v0).toInt)
  | _ => none

/-- CLEAR_EVENTS: a selection of event kinds. -/
def argEvents : List Byte → Option Half
  | [hi, lo] => some (half hi lo)
  | _ => none

/-- CLEAR_INPUTS: a selection of halt sources. -/
def argSources : List Byte → Option Byte
  | [b] => some b
  | _ => none

/-- SET_TIME (R42): a time-of-day of at most 86,399 and any day number. -/
def argTime : List Byte → Option (Nat × Half)
  | [t3, t2, t1, t0, d1, d0] =>
    if (word t3 t2 t1 t0).toNat ≤ 86399 then some ((word t3 t2 t1 t0).toNat, half d1 d0) else none
  | _ => none

/-! ### Selector-bus replies -/

/-- A status reply (R121): closed phase, change counter, load, module fault, local operation. -/
structure StatusReport where
  closed : Option Phase
  counter : Byte
  load : Int
  fault : Bool
  localOp : Bool
deriving DecidableEq, Repr

/-- The three further fields of a pass-through reply (R124). -/
structure Particulars where
  typeCode : Byte
  serial : Word
  orphan : Half
  operations : Word
deriving DecidableEq, Repr

/-- Why a module refuses an actuation (R91, R122, R123). -/
inductive Reason where
  | notClosed | notOpen | phaseDead | localLockout
deriving DecidableEq, Repr

/-- The outcome of an actuation as the SBC reports it (R91). -/
inductive ActOutcome where
  | accept
  | reject (r : Reason)
  | missed
deriving DecidableEq, Repr

/-- The body of a message whose CRC is right. -/
def checkedBody? (msg : List Byte) : Option (List Byte) :=
  let body := msg.dropLast.dropLast
  if withCrc body = msg then some body else none

/-- The five status fields from their wire bytes; the load saturated to ±32,000, other flag bits ignored (R190). -/
def statusFields? (ph cnt l1 l0 fl : Byte) : Option StatusReport :=
  (closedOfCode? ph.toNat).map fun closed =>
    { closed := closed, counter := cnt, load := clampInt (-32000) 32000 (half l1 l0).toInt, fault := fl.getLsbD 0,
      localOp := fl.getLsbD 1 }

/-- A POLL reply of module n (R190). -/
def judgePoll (n : ConnId) (msg : List Byte) : Option StatusReport :=
  match checkedBody? msg with
  | some [a, k, ph, cnt, l1, l0, fl] =>
    if a.toNat = connNumber n ∧ k = 0x01 then statusFields? ph cnt l1 l0 fl else none
  | _ => none

/-- A pass-through reply of module n (R190). -/
def judgePassThrough (n : ConnId) (msg : List Byte) : Option (StatusReport × Particulars) :=
  match checkedBody? msg with
  | some [a, k, ph, cnt, l1, l0, fl, ty, s3, s2, s1, s0, o1, o0, c3, c2, c1, c0] =>
    if a.toNat = connNumber n ∧ k = 0x04 then
      (statusFields? ph cnt l1 l0 fl).map fun r =>
        (r, { typeCode := ty, serial := word s3 s2 s1 s0, orphan := half o1 o0, operations := word c3 c2 c1 c0 })
    else none
  | _ => none

/-- Outcome and reason bytes: a reason fits the kind of actuation (R190). -/
def outcomeOf? (isBreak : Bool) (outcome reason : Nat) : Option ActOutcome :=
  match outcome, reason with
  | 0, 0 => some .accept
  | 1, 1 => if isBreak then some (.reject .notClosed) else none
  | 1, 2 => if isBreak then none else some (.reject .notOpen)
  | 1, 3 => if isBreak then none else some (.reject .phaseDead)
  | 1, 4 => some (.reject .localLockout)
  | _, _ => none

/-- A BREAK or MAKE reply of module n (R190). -/
def judgeActuation (n : ConnId) (isBreak : Bool) (msg : List Byte) : Option ActOutcome :=
  match checkedBody? msg with
  | some [a, k, o, r, ph] =>
    if a.toNat = connNumber n ∧ k = (if isBreak then 0x02 else 0x03) ∧ (closedOfCode? ph.toNat).isSome then
      outcomeOf? isBreak o.toNat r.toNat
    else none
  | _ => none

end Sys2Proof.Machine
end

