-- ==== Sys2Proof/Machine/Request.lean ====
section
/-! DEFINITION. The command catalogue (R181), the answer state of a link port (R174, R176) and the checks every request
shares (R178, R179). -/

namespace Sys2Proof.Machine

open Sys2Proof

/-- The commands of the catalogue (R181). -/
inductive Command where
  | status | readConn | readTable | readPhases | readPlan | readQueue | readSlots | readHistory | readEvents
  | readInputs | getParam | queryModule | move | cancel | pin | hold | release | setAllowance | configConn | setClass
  | setParam | start | autoOn | autoOff | configure | resume | esRetry | clearEvents | clearInputs | setTime | restart
  | unpin
deriving DecidableEq, Repr

def Command.code : Command → Byte
  | .status => 0x01
  | .readConn => 0x02
  | .readTable => 0x03
  | .readPhases => 0x04
  | .readPlan => 0x05
  | .readQueue => 0x06
  | .readSlots => 0x07
  | .readHistory => 0x08
  | .readEvents => 0x09
  | .readInputs => 0x0A
  | .getParam => 0x0B
  | .queryModule => 0x0C
  | .move => 0x20
  | .cancel => 0x21
  | .pin => 0x22
  | .hold => 0x23
  | .release => 0x24
  | .setAllowance => 0x25
  | .configConn => 0x26
  | .setClass => 0x27
  | .setParam => 0x28
  | .start => 0x29
  | .autoOn => 0x2A
  | .autoOff => 0x2B
  | .configure => 0x2C
  | .resume => 0x2D
  | .esRetry => 0x2E
  | .clearEvents => 0x2F
  | .clearInputs => 0x30
  | .setTime => 0x31
  | .restart => 0x32
  | .unpin => 0x40

def allCommands : List Command :=
  [.status, .readConn, .readTable, .readPhases, .readPlan, .readQueue, .readSlots, .readHistory, .readEvents,
   .readInputs, .getParam, .queryModule, .move, .cancel, .pin, .hold, .release, .setAllowance, .configConn, .setClass,
   .setParam, .start, .autoOn, .autoOff, .configure, .resume, .esRetry, .clearEvents, .clearInputs, .setTime, .restart,
   .unpin]

/-- The command of a code, if the code is in the catalogue (R178 step 1). -/
def commandOf? (code : Byte) : Option Command := allCommands.find? fun c => c.code == code

/-- What carrying out a request leaves: the state, and the reply's payload; absent while the result is not yet known
(QUERY_MODULE, R176). -/
abbrev Answered := State × Option (List Byte)

/-- A refusal: the status alone (R179), nothing else changed. -/
def refuse (st : Status) (s : State) : Answered := (s, some [st.code])

/-- An OK reply with its payload (R179, R188). -/
def okWith (payload : List Byte) (s : State) : Answered := (s, some (Status.ok.code :: payload))

/-- The result of the request a port is answering becomes known. -/
def Port.answered (p : Port) (reply : List Byte) : Port :=
  match p.answer with
  | .answering c t _ => { p with answer := .answering c t (some reply) }
  | .free => p

def State.setReply (s : State) (lk : Link) (reply : List Byte) : State := s.setPort lk ((s.port lk).answered reply)

/-- The port starts answering: the receiver returns to HUNT, the answer state is ANSWERING with the request (R175,
R176). -/
def Port.asked (p : Port) (command tag : Byte) : Port :=
  { p with rx := .hunt, answer := .answering command tag none }

/-- The receiver drops what it holds and hunts (R175). -/
def Port.hunting (p : Port) : Port := { p with rx := .hunt }

/-- A complete frame with a good CRC reaches the answer state (R176): taken and carried out in one operation when FREE,
discarded without reply when ANSWERING. -/
def takeRequest (lk : Link) (command tag : Byte) (body : State → Answered) (s : State) : State :=
  match (s.port lk).answer with
  | .answering _ _ _ => s.setPort lk (s.port lk).hunting
  | .free =>
    let r := body (s.setPort lk ((s.port lk).asked command tag))
    match r.2 with
    | some reply => r.1.setReply lk reply
    | none => r.1

/-- The link is in control (R163, R178 step 2). -/
def State.inControl (s : State) (lk : Link) : Bool := s.mdc.authority == lk

/-- A command of the in-control link, taken in every mode, with a parsed argument (R178 steps 2 and 4). -/
def controlled {α : Type} (lk : Link) (arg : Option α) (effect : α → State → Answered) (s : State) : Answered :=
  if s.inControl lk then
    match arg with
    | some a => effect a s
    | none => refuse .badArg s
  else refuse .notInControl s

/-- A command of the in-control link with a mode gate between authority and arguments (R178 steps 2 to 4). -/
def gated {α : Type} (lk : Link) (gate : State → Option Status) (arg : Option α) (effect : α → State → Answered)
    (s : State) : Answered :=
  if s.inControl lk then
    match gate s with
    | some st => refuse st s
    | none =>
      match arg with
      | some a => effect a s
      | none => refuse .badArg s
  else refuse .notInControl s

/-- A read command: its arguments are its first check (R178). -/
def readWith {α : Type} (arg : Option α) (reply : α → State → List Byte) (s : State) : Answered :=
  match arg with
  | some a => okWith (reply a s) s
  | none => refuse .badArg s

/-- The gate of CONFIG_CONN, SET_CLASS and the CONFIG-only parameters: any mode but CONFIG is refused. -/
def configGate (s : State) : Option Status := if s.modeName = .config then none else some .wrongMode

end Sys2Proof.Machine
end

