-- ==== Sys2Proof/Machine/Table.lean ====
section
/-! DEFINITION. The Connection Table (chapter 1): how replies, misses, endings and the turn of day and epoch change a
record, and the per-connection commands. -/

namespace Sys2Proof.Machine

open Sys2Proof

/-! ### Chatter (R15) -/

/-- The chatter test. -/
def chatterTest (p : Params) (c : Conn) : Bool :=
  decide (p.chatterLimit ≤ c.uncommanded) && p.chatterHold && c.hold.isNone

/-- A CHATTER hold is set and CHATTER_HOLD raised. -/
def State.setChatterHold (s : State) (n : ConnId) : State :=
  (s.setConn n { s.conn n with hold := some .chatter }).raise .chatterHold

/-- The test after a reply that found uncommanded changes: the hold is deferred while the record is mid-transfer. -/
def State.chatterAfterReply (s : State) (n : ConnId) : State :=
  if chatterTest s.params (s.conn n) then
    if ((s.stageOf n).map Stage.midTransfer).getD false then
      s.setConn n { s.conn n with chatterPending := true }
    else s.setChatterHold n
  else s

/-- A deferred chatter hold is tested again at the ending of the transfer. -/
def State.deferredChatter (s : State) (n : ConnId) : State :=
  if (s.conn n).chatterPending then
    let s := s.setConn n { s.conn n with chatterPending := false }
    if chatterTest s.params (s.conn n) then s.setChatterHold n else s
  else s

/-! ### Status replies (R5, R6, R9, R10, R11) -/

/-- The pending actuation is one whose reply was missed. -/
def unanswered (c : Conn) : Bool :=
  match c.pendingAct with
  | some a => a.state == .unanswered
  | none => false

/-- Case 2 of R6: an unanswered actuation, and the reply shows its before phase or its intended phase. -/
def settlesUnanswered (c : Conn) (closed : Option Phase) : Bool :=
  match c.pendingAct with
  | some a => a.state == .unanswered && (Confirmed.ofClosed closed == a.before || Confirmed.ofClosed closed == a.intended)
  | none => false

/-- The number of uncommanded changes a status reply finds (R6). -/
def uncommandedFound (c : Conn) (r : StatusReport) : Nat :=
  if c.link = .unseen then 0
  else if settlesUnanswered c r.closed then 0
  else
    let d := (r.counter - c.expected).toNat
    let d := if unanswered c then d - 1 else d
    if d = 0 ∧ c.pendingAct.isNone ∧ c.phase ≠ .unknown ∧ c.phase ≠ Confirmed.ofClosed r.closed then 1 else d

/-- The dark flag after a status reply (R10). -/
def darkAfter (c : Conn) (stage : Option Stage) (closed : Option Phase) : Bool :=
  match closed with
  | some _ => false
  | none => if (stage.map Stage.midTransfer).getD false then c.dark else true

/-- The pending actuation after a status reply (R5 step 6): kept only when accepted and not yet carried out. -/
def pendingAfter (c : Conn) (closed : Option Phase) : Option PendingActuation :=
  match c.pendingAct with
  | some a => if a.state = .accepted ∧ a.before = Confirmed.ofClosed closed then some a else none
  | none => none

/-- Steps 1 to 6 of R5 on the record, less the epoch accumulator of step 5. -/
def recordReply (c : Conn) (stage : Option Stage) (r : StatusReport) : Conn :=
  { c with
    link := .online, missedRun := 0, expected := r.counter, phase := Confirmed.ofClosed r.closed,
    dark := darkAfter c stage r.closed, lastLoad := some r.load, fault := r.fault, localOp := r.localOp,
    pendingAct := pendingAfter c r.closed }

/-- The load of a reply counts in the running epoch (R11); one that comes between the tick that ended the epoch and its
EPOCH_END counts in the new epoch (R47, log 9). -/
def countLoad (endDue : Bool) (load : Int) (c : Conn) : Conn :=
  if endDue then { c with nextSum := c.nextSum + load, nextCount := c.nextCount + 1 }
  else { c with accSum := c.accSum + load, accCount := c.accCount + 1 }

/-- The consequences of d uncommanded changes, d at least 1, in the order of R9. -/
def State.uncommanded (s : State) (n : ConnId) (d : Nat) : State :=
  (((s.setConn n { s.conn n with uncommanded := min 15 ((s.conn n).uncommanded + d) }).raise
    .uncommandedChange).disturb).chatterAfterReply n

/-- A status reply is applied to its record, if the record is present (R5). -/
def State.applyReply (s : State) (n : ConnId) (r : StatusReport) : State :=
  let c := s.conn n
  if c.present then
    let d := uncommandedFound c r
    let s := s.setConn n (countLoad s.tbs.endDue r.load (recordReply c (s.stageOf n) r))
    if d = 0 then s else s.uncommanded n d
  else s

/-! ### Actuation replies and misses (R7, R8, R12) -/

/-- A taken actuation reply: link state and missed run, and for an ACCEPT the expected count and the pending actuation
(R7). A record that is UNSEEN or absent is not changed. -/
def actuationReplied (c : Conn) (before intended : Confirmed) (accepted : Bool) : Conn :=
  if c.present ∧ c.link ≠ .unseen then
    let c := { c with link := .online, missedRun := 0 }
    if accepted then
      { c with expected := c.expected + 1,
               pendingAct := some { before := before, intended := intended, state := .accepted } }
    else c
  else c

/-- A missed actuation reply (R8). -/
def actuationMissed (c : Conn) (before intended : Confirmed) : Conn :=
  { c with pendingAct := some { before := before, intended := intended, state := .unanswered } }

/-- The CTB takes the outcome of an actuation first (R91, R114). -/
def State.ctbOutcome (s : State) (n : ConnId) (before intended : Confirmed) (o : ActOutcome) : State :=
  match o with
  | .accept => s.setConn n (actuationReplied (s.conn n) before intended true)
  | .reject _ => s.setConn n (actuationReplied (s.conn n) before intended false)
  | .missed => s.setConn n (actuationMissed (s.conn n) before intended)

/-- A missed survey poll or probe raises the missed run; a third makes the connection OFFLINE (R12), which sets its
last probe frame (R120). -/
def State.pollMissed (s : State) (n : ConnId) : State :=
  let c := s.conn n
  if c.present then
    let run := min 3 (c.missedRun + 1)
    if run = 3 ∧ c.link ≠ .offline then
      let s := s.setConn n { c with missedRun := run, link := .offline }
      { s with sbc := { s.sbc with lastProbe := s.sbc.lastProbe.set n (some s.sbc.frame) } }
    else s.setConn n { c with missedRun := run }
  else s

/-! ### Epoch end, day rollover, endings, RESTART (R3, R13, R14, R25) -/

/-- The epoch of a record is closed (R13); the accumulator of a present record goes on with what already counted in the
new epoch. -/
def closeLoad (c : Conn) : Conn :=
  if c.present then
    { c with
      epochLoad := if 4 ≤ c.accCount then some (c.accSum.tdiv c.accCount) else none,
      accSum := c.nextSum, accCount := c.nextCount, nextSum := 0, nextCount := 0 }
  else { c with accSum := 0, accCount := 0, nextSum := 0, nextCount := 0 }

def State.closeLoads (s : State) : State := { s with conns := mapAll closeLoad s.conns }

/-- Daily counts cleared (R25). -/
def clearDaily (c : Conn) : Conn := { c with movesToday := 0, uncommanded := 0 }

/-- What an ending writes (R14), before any deferred chatter hold. -/
def endingWrites (c : Conn) (res : Result) (target : Phase) (epoch : Word) : Conn :=
  match res with
  | .done => { c with phase := .on target, lastMove := some epoch }
  | .noReply => { c with phase := .unknown }
  | .dark => { c with dark := true }
  | _ => c

def State.applyEnding (s : State) (n : ConnId) (res : Result) (target : Phase) : State :=
  (s.setConn n (endingWrites (s.conn n) res target s.tbs.epoch)).deferredChatter n

/-- What RESTART sets in every record, present or absent, once every record has ended (R3). -/
def restartConn (c : Conn) : Conn :=
  { c with link := .unseen, missedRun := 0, pendingAct := none, accSum := 0, accCount := 0, nextSum := 0,
           nextCount := 0, recordLink := none, chatterPending := false }

/-! ### The per-connection commands (R4, R16 to R22) -/

/-- The checks R16 gives in common: authority, connection number, presence. -/
def perConnection (lk : Link) (arg : Option ConnId) (effect : ConnId → State → Answered) (s : State) : Answered :=
  controlled lk arg (fun n s => if (s.conn n).present then effect n s else refuse .notPresent s) s

/-- Refused BUSY while the connection's record is in a slot (R17, R19, R21). -/
def unlessInSlot (n : ConnId) (effect : State → Answered) (s : State) : Answered :=
  if (s.slotOf n).isSome then refuse .busy s else effect s

/-- PIN (R17). -/
def doPin (lk : Link) (payload : List Byte) (s : State) : Answered :=
  perConnection lk (argConn payload)
    (fun n => unlessInSlot n fun s => okWith [] (s.setConn n { s.conn n with pin := true })) s

/-- UNPIN is taken from the service link while the key is at LOCAL (R18). -/
def doUnpin (lk : Link) (payload : List Byte) (s : State) : Answered :=
  if lk = .service ∧ s.keyLocal then
    match argConn payload with
    | some n =>
      if (s.conn n).present then okWith [] (s.setConn n { s.conn n with pin := false }) else refuse .notPresent s
    | none => refuse .badArg s
  else refuse .notInControl s

/-- HOLD (R19): a hold already present keeps its reason. -/
def doHold (lk : Link) (payload : List Byte) (s : State) : Answered :=
  perConnection lk (argConn payload)
    (fun n => unlessInSlot n fun s =>
      okWith [] (s.setConn n { s.conn n with hold := some ((s.conn n).hold.getD .operator) })) s

/-- The record after RELEASE (R21). -/
def released (c : Conn) : Conn :=
  match c.hold with
  | some .operator => { c with hold := none }
  | some .chatter => { c with hold := none, uncommanded := 0 }
  | none => c

/-- RELEASE (R21). -/
def doRelease (lk : Link) (payload : List Byte) (s : State) : Answered :=
  perConnection lk (argConn payload)
    (fun n => unlessInSlot n fun s => okWith [] (s.setConn n (released (s.conn n)))) s

/-- SET_ALLOWANCE (R22): a value above 15 is clamped to 15 and the stored value is echoed. -/
def doSetAllowance (lk : Link) (payload : List Byte) (s : State) : Answered :=
  controlled lk (argAllowance payload)
    (fun a s =>
      if (s.conn a.1).present then
        okWith (u8 (min 15 a.2)) (s.setConn a.1 { s.conn a.1 with allowance := min 15 a.2 })
      else refuse .notPresent s) s

/-- The record after an accepted CONFIG_CONN (R4). -/
def configured (c : Conn) (present : Bool) (timing : Fin 4) : Conn :=
  match c.present, present with
  | false, true =>
    { c with
      present := true, timing := timing, link := .unseen, phase := .unknown, expected := 0, pendingAct := none,
      dark := false, lastLoad := none, accSum := 0, accCount := 0, nextSum := 0, nextCount := 0, epochLoad := none,
      missedRun := 0, fault := false, localOp := false }
  | true, true => { c with timing := timing }
  | true, false => { c with present := false }
  | false, false => { c with timing := timing }

/-- CONFIG_CONN (R4). -/
def doConfigConn (lk : Link) (payload : List Byte) (s : State) : Answered :=
  gated lk configGate (argConfig payload)
    (fun a s => okWith [] (s.setConn a.1 (configured (s.conn a.1) a.2.1 a.2.2))) s

def execPin (lk : Link) (tag : Byte) (payload : List Byte) (s : State) : Host.Outcome State Fault Refusal :=
  .next (takeRequest lk Command.pin.code tag (doPin lk payload) s).settle

def execUnpin (lk : Link) (tag : Byte) (payload : List Byte) (s : State) : Host.Outcome State Fault Refusal :=
  .next (takeRequest lk Command.unpin.code tag (doUnpin lk payload) s).settle

def execHold (lk : Link) (tag : Byte) (payload : List Byte) (s : State) : Host.Outcome State Fault Refusal :=
  .next (takeRequest lk Command.hold.code tag (doHold lk payload) s).settle

def execRelease (lk : Link) (tag : Byte) (payload : List Byte) (s : State) : Host.Outcome State Fault Refusal :=
  .next (takeRequest lk Command.release.code tag (doRelease lk payload) s).settle

def execSetAllowance (lk : Link) (tag : Byte) (payload : List Byte) (s : State) : Host.Outcome State Fault Refusal :=
  .next (takeRequest lk Command.setAllowance.code tag (doSetAllowance lk payload) s).settle

def execConfigConn (lk : Link) (tag : Byte) (payload : List Byte) (s : State) : Host.Outcome State Fault Refusal :=
  .next (takeRequest lk Command.configConn.code tag (doConfigConn lk payload) s).settle

end Sys2Proof.Machine
end

