-- ==== Sys2Proof/Machine/Queue.lean ====
section
/-! DEFINITION. The Move Queue (chapter 4): the move record's acceptance, order, endings, history, MOVE and ADMISSION. -/

namespace Sys2Proof.Machine

open Sys2Proof

/-! ### Order (R70) -/

/-- Record x stands before record y: an earlier class, or the same class and accepted earlier. -/
def standsBefore (x y : MoveRec) : Bool :=
  decide (x.rank < y.rank) || (x.rank == y.rank && decide (x.order < y.order))

/-- A record is placed at the place its class and acceptance order give it. -/
def insertRec (r : MoveRec) : List MoveRec → List MoveRec
  | [] => [r]
  | x :: xs => if standsBefore r x then r :: x :: xs else x :: insertRec r xs

def State.setQueue (s : State) (q : List MoveRec) : State := { s with mvq := { s.mvq with queue := q } }

/-! ### Endings (R81, R82) -/

/-- The results that raise TRANSFER_FAILED (R81). -/
def Result.failed : Result → Bool
  | .notOpened | .returned | .dark | .reverted | .wrongPhase | .noReply => true
  | .done | .stale | .blocked | .moduleOffline | .targetUnhealthy | .limitReached | .displaced | .expired
  | .cancelled | .halted | .abandoned => false

/-- The history entry of an ending (R82). -/
def historyEntry (r : MoveRec) (res : Result) (epoch : Word) (timeOfDay : Nat) : HistEntry :=
  { seq := r.seq, conn := r.conn, source := r.source, target := r.target, origin := r.origin, result := res,
    epoch := epoch, timeOfDay := timeOfDay, breaks := r.breaks, makes := r.makes, returns := r.returns,
    breakConfirmed := r.breakTime.isSome }

/-- An entry is placed as the newest; with 32 held the oldest is removed (R82). -/
def pushHistory (h : List HistEntry) (e : HistEntry) : List HistEntry :=
  (h ++ [e]).drop (h.length + 1 - Config.historyPlaces)

/-- What every ending does once the record has left its place: the record link cleared, the history entry written,
TRANSFER_FAILED raised where due (R81). -/
def State.finishRecord (s : State) (r : MoveRec) (res : Result) : State :=
  let s := s.setConn r.conn { s.conn r.conn with recordLink := none }
  let s := { s with mvq := { s.mvq with
    history := pushHistory s.mvq.history (historyEntry r res s.tbs.epoch s.tbs.timeOfDay) } }
  if res.failed then s.raise .transferFailed else s

/-- A queued record ends (R81): it leaves its queue place and those behind it close up. -/
def State.endQueued (s : State) (r : MoveRec) (res : Result) : State :=
  (s.setQueue (s.mvq.queue.filter fun x => x.order != r.order)).finishRecord r res

/-! ### Acceptance (R68, R69, R72) -/

/-- A record is accepted: numbered, linked to its connection, placed in class order. -/
def State.accept (s : State) (n : ConnId) (source target : Phase) (origin : Origin) : State :=
  let r : MoveRec :=
    { seq := s.mvq.seqCounter, conn := n, source := source, target := target, origin := origin,
      load := (s.conn n).epochLoad, acceptedEpoch := s.tbs.epoch, cancel := false, breaks := 0, makes := 0,
      returns := 0, breakTime := none, order := s.mvq.acceptCount }
  let s := s.setConn n { s.conn n with recordLink := some r.seq }
  { s with mvq := { s.mvq with
      queue := insertRec r s.mvq.queue, seqCounter := s.mvq.seqCounter + 1, acceptCount := s.mvq.acceptCount + 1 } }

/-- The youngest queued PLANNER record: the last one in the queue (R72). -/
def State.youngestPlanner (s : State) : Option MoveRec := s.mvq.queue.reverse.find? MoveRec.isPlanner

def State.queueFull (s : State) : Bool := decide (Config.queuePlaces ≤ s.mvq.queue.length)

/-- Room for a MANUAL or RESCUE record: a full queue gives up its youngest PLANNER record (R72, R73). -/
def State.makeRoom (s : State) : State :=
  if s.queueFull then
    match s.youngestPlanner with
    | some r => s.endQueued r .displaced
    | none => s
  else s

/-! ### Flush, expiry, hand-back (R75, R76, R77) -/

/-- Every queued record ends with a result, in queue order from the head. -/
def State.endAllQueued (s : State) (res : Result) : State := s.mvq.queue.foldl (fun s r => s.endQueued r res) s

/-- A queued PLANNER record has waited two epochs past its accepted epoch when epoch e ends (R75). A record that the run
of this same end has accepted carries e + 1, has waited no epoch, and is not tested (R47, R66, R75; log 3). -/
def expires (e : Word) (r : MoveRec) : Bool :=
  r.isPlanner && r.acceptedEpoch != e + 1 && decide (2 ≤ (e - r.acceptedEpoch).toNat)

def State.expireQueued (s : State) (e : Word) : State :=
  (s.mvq.queue.filter (expires e)).foldl (fun s r => s.endQueued r .expired) s

/-- While the queue holds more than 16, the record that stands last ends DISPLACED (R77). -/
def State.trimQueue : Nat → State → State
  | 0, s => s
  | fuel + 1, s =>
    if s.mvq.queue.length ≤ Config.queuePlaces then s
    else
      match s.mvq.queue.getLast? with
      | some r => State.trimQueue fuel (s.endQueued r .displaced)
      | none => s

/-- A slot is freed; a verify poll collected for it is lost (R117). -/
def State.freeSlotOf (s : State) (k : SlotId) : State :=
  let s := s.setSlot k none
  { s with sbc := { s.sbc with verifyPolls := s.sbc.verifyPolls.filter fun j => j != k } }

/-- The record of a slot goes back to its place in the queue with its attempts reset (R77, R105). -/
def State.returnToQueue (s : State) (k : SlotId) : State :=
  match s.slot k with
  | some sl =>
    let r := { sl.record with cancel := false, breaks := 0, makes := 0, returns := 0, breakTime := none }
    (s.freeSlotOf k).setQueue (insertRec r s.mvq.queue)
  | none => s

/-- One record handed back, and the queue trimmed (R105). -/
def State.handBack (s : State) (k : SlotId) : State :=
  let s := s.returnToQueue k
  State.trimQueue s.mvq.queue.length s

/-- Ride-through begins: every WAIT_BREAK slot hands its record back, and the queue is trimmed to 16 (R77, R105). -/
def State.handBackAll (s : State) : State :=
  let s := allSlots.foldl (fun s k =>
    if s.slotStage k = some .waitBreak then s.returnToQueue k else s) s
  State.trimQueue s.mvq.queue.length s

/-! ### MOVE (R71) -/

/-- Checks 4 to 13 of R71: the first that fails gives the refusal. -/
def moveRefusal (s : State) (n : ConnId) (target : Phase) : Option Status :=
  let c := s.conn n
  if c.present = false then some .notPresent
  else if c.phase = .off ∨ c.phase = .unknown then some .notSupplied
  else if c.phase = .on target then some .samePhase
  else if c.pin then some .pinned
  else if c.hold.isSome then some .held
  else if c.recordLink.isSome then some .duplicate
  else if c.link ≠ .online then some .offline
  else if s.health target ≠ .healthy then some .targetUnhealthy
  else if 15 ≤ c.movesToday then some .limit
  else if s.queueFull && s.youngestPlanner.isNone then some .queueFull
  else none

/-- The mode check of MOVE (check 2 of R71). -/
def moveGate (s : State) : Option Status :=
  match s.modeName with
  | .manual | .auto => none
  | .halted => some .haltActive
  | .config | .rideThrough => some .wrongMode

/-- The origin of a MOVE (R71). -/
def Link.origin : Link → Origin
  | .operator => .operator
  | .service => .service

/-- An accepted MOVE: the displacement of R72 where the queue is full, then the acceptance; the reply carries the
sequence number. -/
def acceptMove (lk : Link) (n : ConnId) (source target : Phase) (s : State) : Answered :=
  let s := s.makeRoom
  okWith (be16 s.mvq.seqCounter) (s.accept n source target (Link.origin lk))

def doMove (lk : Link) (payload : List Byte) (s : State) : Answered :=
  gated lk moveGate (argMove payload)
    (fun a s =>
      match moveRefusal s a.1 a.2, (s.conn a.1).phase.phase? with
      | some st, _ => refuse st s
      | none, some source => acceptMove lk a.1 source a.2 s
      | none, none => refuse .notSupplied s) s

def execMove (lk : Link) (tag : Byte) (payload : List Byte) (s : State) : Host.Outcome State Fault Refusal :=
  .next (takeRequest lk Command.move.code tag (doMove lk payload) s).settle

/-! ### Admission (R78, R79, R80) -/

/-- The first failed admission check (R79). -/
def admissionFailure (s : State) (r : MoveRec) : Option Result :=
  let c := s.conn r.conn
  if c.present = false ∨ c.phase ≠ .on r.source then some .stale
  else if c.pin ∨ c.hold.isSome then some .blocked
  else if c.link ≠ .online then some .moduleOffline
  else if s.health r.target ≠ .healthy then some .targetUnhealthy
  else if (if r.isPlanner then c.allowance else 15) ≤ c.movesToday then some .limitReached
  else none

/-- A record enters a slot at WAIT_BREAK; moves today rises by 1 (R23, R80, R86). -/
def State.enterSlot (s : State) (k : SlotId) (r : MoveRec) : State :=
  let s := s.setConn r.conn { s.conn r.conn with movesToday := min 15 ((s.conn r.conn).movesToday + 1) }
  let s := s.setQueue (s.mvq.queue.filter fun x => x.order != r.order)
  let s := s.setSlot k (some
    { record := r, stage := .waitBreak, order := s.txe.admitCount, lastAct := none, verifyDue := none, misses := 0 })
  { s with txe := { s.txe with admitCount := s.txe.admitCount + 1 } }

/-- The head record is examined: it ends, or it enters the free slot. -/
def State.examineHead (s : State) (k : SlotId) (r : MoveRec) : State :=
  match admissionFailure s r with
  | some res => s.endQueued r res
  | none => s.enterSlot k r

/-- Head records are examined while the mode is MANUAL or AUTO, a slot is free and the queue is not empty (R78). -/
def State.examineHeads : Nat → State → State
  | 0, s => s
  | fuel + 1, s =>
    if s.movesAllowed then
      match s.freeSlot, s.mvq.queue with
      | some k, r :: _ => State.examineHeads fuel (s.examineHead k r)
      | _, _ => s
    else s

/-- An admission, taken whole (R78). -/
def State.takeAdmission (s : State) : State := State.examineHeads s.mvq.queue.length s

/-- A change of the controller mode with step 3 of R165: into MANUAL or AUTO the Move Queue takes an admission. -/
def State.enterMode (s : State) (m : BaseMode) : State := (s.setMode (.base m)).takeAdmission

/-- ADMISSION (R78): the admission that the acceptance of a record or the freeing of a slot makes due (log 4). -/
def execAdmission (s : State) : Host.Outcome State Fault Refusal := .next s.takeAdmission.settle

end Sys2Proof.Machine
end

