-- ==== Sys2Proof/Machine/Transfer.lean ====
section
/-! DEFINITION. The Transfer Engine (chapter 5): instants, the return phase, requests, the entry into each stage, the
endings, CANCEL, the halt treatment and the deadline events. Endings WRONG_PHASE, which set MAP_FAULT and may halt the
part, are completed in Interlock.lean and Verify.lean. -/

namespace Sys2Proof.Machine

open Sys2Proof

def State.modSlot (s : State) (k : SlotId) (f : Slot → Slot) : State :=
  match s.slot k with
  | some sl => s.setSlot k (some (f sl))
  | none => s

/-! ### Instants (R87) -/

/-- The gap point: break time + class gap. -/
def State.gapInstant (s : State) (r : MoveRec) : Option Nat :=
  r.breakTime.map fun t => t + msToTicks (s.timing r.conn).gap

/-- The orphan deadline: break time + class orphan time − 300 ms. -/
def State.orphanInstant (s : State) (r : MoveRec) : Option Nat :=
  r.breakTime.map fun t => t + msToTicks ((s.timing r.conn).orphan - 300)

/-- The dark deadline: break time + class orphan time + 1,000 ms. -/
def State.darkInstant (s : State) (r : MoveRec) : Option Nat :=
  r.breakTime.map fun t => t + msToTicks ((s.timing r.conn).orphan + 1000)

/-- An instant exists and has been reached. -/
def State.reached (s : State) (t : Option Nat) : Bool :=
  match t with
  | some t => decide (t ≤ s.now)
  | none => false

/-- An instant exists and lies behind. -/
def State.passed (s : State) (t : Option Nat) : Bool :=
  match t with
  | some t => decide (t < s.now)
  | none => false

/-! ### Return phase (R88) and requests (R89) -/

def State.returnPhase (s : State) (r : MoveRec) : Option Phase :=
  if s.health r.source ≠ .lost then some r.source
  else if s.health r.target = .healthy then some r.target
  else none

/-- The request a slot presents (R89). No MAKE or RETURN is presented past the orphan deadline, at which the stage is
left (R87, R90; log 20). -/
def State.request (s : State) (sl : Slot) : Option ActKind :=
  match sl.stage with
  | .waitBreak =>
    if (s.conn sl.record.conn).link = .online ∧ s.health sl.record.target = .healthy then some .brk else none
  | .waitMake => if s.passed (s.orphanInstant sl.record) then none else some .make
  | .waitReturn =>
    if s.reached (s.gapInstant sl.record) ∧ (s.returnPhase sl.record).isSome
        ∧ s.passed (s.orphanInstant sl.record) = false then some .ret
    else none
  | .breaking | .gap | .making | .returning | .orphaned => none

/-! ### Endings (R81, R102) -/

/-- The ending of a slot's record, less the MAP_FAULT of a WRONG_PHASE. -/
def State.endRecord (s : State) (k : SlotId) (res : Result) : State :=
  match s.slot k with
  | some sl =>
    ((s.applyEnding sl.record.conn res sl.record.target).freeSlotOf k).finishRecord sl.record res
  | none => s

/-! ### Entering stages -/

/-- ORPHANED (R101): polled from the next frame on; at or after the dark deadline the transfer ends DARK. -/
def State.enterOrphaned (s : State) (k : SlotId) : State :=
  match s.slot k with
  | some sl =>
    let s := s.setSlot k (some { sl with stage := .orphaned, verifyDue := some (s.sbc.frame + 1) })
    if s.reached (s.darkInstant sl.record) then s.endRecord k .dark else s
  | none => s

/-- At WAIT_RETURN with no return phase, or at or after the orphan deadline, the slot goes to ORPHANED (R87, R88). -/
def State.holdWaitReturn (s : State) (k : SlotId) : State :=
  match s.slot k with
  | some sl =>
    if (s.returnPhase sl.record).isNone ∨ s.reached (s.orphanInstant sl.record) then s.enterOrphaned k else s
  | none => s

/-- WAIT_RETURN (R99). -/
def State.enterWaitReturn (s : State) (k : SlotId) : State :=
  (s.modSlot k fun sl => { sl with stage := .waitReturn, verifyDue := none }).holdWaitReturn k

/-- WAIT_MAKE (R97): only while the to phase is HEALTHY, and not at or after the orphan deadline (R87). -/
def State.enterWaitMake (s : State) (k : SlotId) : State :=
  match s.slot k with
  | some sl =>
    let s := s.setSlot k (some { sl with stage := .waitMake, verifyDue := none })
    if s.health sl.record.target ≠ .healthy then s.enterWaitReturn k
    else if s.reached (s.orphanInstant sl.record) then s.enterOrphaned k
    else s
  | none => s

/-- The break is confirmed: the break time is the end of the frame of the last actuation (R95, log 31). -/
def State.confirmBreak (s : State) (k : SlotId) : State :=
  s.modSlot k fun sl =>
    { sl with record := { sl.record with
        breakTime := some ((sl.lastAct.bind (·.frameEnd)).getD s.sbc.boundaryAt) } }

/-- GAP (R96): a gap point already reached sends the slot on to WAIT_MAKE in the same operation. -/
def State.enterGap (s : State) (k : SlotId) : State :=
  let s := s.modSlot k fun sl => { sl with stage := .gap, verifyDue := none }
  match s.slot k with
  | some sl => if s.reached (s.gapInstant sl.record) then s.enterWaitMake k else s
  | none => s

/-- Back to WAIT_BREAK after a break that did not open (R94, R95): BLOCKED when a chatter hold is pending, handed back
to the queue in RIDE_THROUGH (R105). -/
def State.backToWaitBreak (s : State) (k : SlotId) : State :=
  match s.slot k with
  | some sl =>
    if (s.conn sl.record.conn).chatterPending then s.endRecord k .blocked
    else if s.modeName = .rideThrough then s.handBack k
    else s.setSlot k (some { sl with stage := .waitBreak, verifyDue := none })
  | none => s

/-! ### What reaches the slots from outside (5.5) -/

def State.requestCancel (s : State) (k : SlotId) : State :=
  s.modSlot k fun sl => { sl with record := { sl.record with cancel := true } }

/-- CANCEL of a record in a slot, by stage (R103). -/
def State.cancelSlot (s : State) (k : SlotId) : State :=
  let s := s.requestCancel k
  match s.slotStage k with
  | some .waitBreak => s.endRecord k .cancelled
  | some .gap | some .waitMake => s.enterWaitReturn k
  | some .breaking | some .making | some .waitReturn | some .returning | some .orphaned | none => s

/-- The halt treatment of one slot, by stage (R104). -/
def State.treatSlot (s : State) (k : SlotId) : State :=
  match s.slotStage k with
  | some .waitBreak => s.endRecord k .halted
  | some .breaking | some .making => s.requestCancel k
  | some .gap | some .waitMake => s.enterWaitReturn k
  | some .waitReturn | some .returning | some .orphaned | none => s

def State.haltTreatment (s : State) : State := allSlots.foldl State.treatSlot s

/-- What a phase health change does to one slot: a WAIT_MAKE whose to phase is not HEALTHY turns back (R97), a
WAIT_RETURN works out its return phase again (R88, R99). -/
def State.recheckSlot (s : State) (k : SlotId) : State :=
  match s.slot k with
  | some sl =>
    match sl.stage with
    | .waitMake => if s.health sl.record.target ≠ .healthy then s.enterWaitReturn k else s
    | .waitReturn => s.holdWaitReturn k
    | .waitBreak | .breaking | .gap | .making | .returning | .orphaned => s
  | none => s

def State.recheckSlots (s : State) : State := allSlots.foldl State.recheckSlot s

/-- Every record in a slot ends ABANDONED, in slot order (R85, R106). -/
def State.abandonSlots (s : State) : State := allSlots.foldl (fun s k => s.endRecord k .abandoned) s

/-! ### CANCEL (R74) -/

/-- The slot whose record has a sequence number. -/
def State.slotWithSeq (s : State) (q : Half) : Option SlotId :=
  allSlots.find? fun k => ((s.slot k).map (·.record.seq)) == some q

def doCancel (lk : Link) (payload : List Byte) (s : State) : Answered :=
  controlled lk (argCancel payload)
    (fun q s =>
      match s.mvq.queue.find? (fun r => r.seq == q) with
      | some r => okWith [] (s.endQueued r .cancelled)
      | none =>
        match s.slotWithSeq q with
        | some k => okWith [] (s.cancelSlot k)
        | none => refuse .noRecord s) s

def execCancel (lk : Link) (tag : Byte) (payload : List Byte) (s : State) : Host.Outcome State Fault Refusal :=
  .next (takeRequest lk Command.cancel.code tag (doCancel lk payload) s).settle

/-! ### The three instants as events (R87, R96, R101) -/

/-- The clock reaches one of a slot's instants, if it exists. -/
def State.toSlotInstant (s : State) (k : SlotId) (instant : State → MoveRec → Option Nat) : State :=
  match (s.slot k).bind fun sl => instant s sl.record with
  | some t => s.atInstant t
  | none => s

/-- GAP_POINT: a GAP slot goes to WAIT_MAKE; a WAIT_RETURN slot presents RETURN from here (R89, R96). -/
def execGapPoint (k : SlotId) (s : State) : Host.Outcome State Fault Refusal :=
  let s := s.toSlotInstant k State.gapInstant
  match s.slot k with
  | some sl =>
    if sl.stage = .gap ∧ s.reached (s.gapInstant sl.record) then .next (s.enterWaitMake k).settle else .next s.settle
  | none => .next s.settle

/-- ORPHAN_DEADLINE: a slot at WAIT_MAKE or WAIT_RETURN goes to ORPHANED (R87). -/
def execOrphanDeadline (k : SlotId) (s : State) : Host.Outcome State Fault Refusal :=
  let s := s.toSlotInstant k State.orphanInstant
  match s.slot k with
  | some sl =>
    if (sl.stage = .waitMake ∨ sl.stage = .waitReturn) ∧ s.reached (s.orphanInstant sl.record) then
      .next (s.enterOrphaned k).settle
    else .next s.settle
  | none => .next s.settle

/-- DARK_DEADLINE: a transfer at ORPHANED ends DARK (R101). -/
def execDarkDeadline (k : SlotId) (s : State) : Host.Outcome State Fault Refusal :=
  let s := s.toSlotInstant k State.darkInstant
  match s.slot k with
  | some sl =>
    if sl.stage = .orphaned ∧ s.reached (s.darkInstant sl.record) then .next (s.endRecord k .dark).settle
    else .next s.settle
  | none => .next s.settle

end Sys2Proof.Machine
end

