-- ==== Sys2Proof/Machine/Interlock.lean ====
section
/-! DEFINITION. The Interlock Unit (chapter 8) and what the Mode Controller does with what it is handed (R171, R172):
input conditioning, halt events, MAP_FAULT, the supply warning and the key. -/

namespace Sys2Proof.Machine

open Sys2Proof

/-! ### Halt events (R155, R157, R171) -/

/-- A source is entered in the halt record, if it has no entry there (R157). -/
def State.enterHalt (s : State) (h : HaltSource) : State :=
  if s.ilu.haltRecord.any fun e => e.source == h then s
  else { s with ilu := { s.ilu with haltRecord := s.ilu.haltRecord ++
    [{ source := h, mode := s.modeName, epoch := s.tbs.epoch, timeOfDay := s.tbs.timeOfDay }] } }

/-- The queue is flushed (R76) and the halt treatment applied to the slots (R104). -/
def State.flushAndTreat (s : State) : State := (s.endAllQueued .halted).haltTreatment

/-- The Mode Controller takes a halt event (R171). -/
def State.haltMode (s : State) : State :=
  match s.mdc.mode with
  | .base .manual | .base .auto => (s.setMode (.base .halted)).flushAndTreat
  | .rideThrough .manual | .rideThrough .auto => (s.setMode (.rideThrough .halted)).flushAndTreat
  | .base .config | .base .halted | .rideThrough .config | .rideThrough .halted => s

/-- A source has become asserted: a halt event when it is a member of the halt mask (R155). -/
def State.haltEvent (s : State) (h : HaltSource) : State :=
  if s.masked h then (s.enterHalt h).haltMode else s

/-! ### MAP_FAULT (R153) -/

/-- A WRONG_PHASE ending sets MAP_FAULT; one already set asserts nothing new. A masked MAP_FAULT halts the part here,
inside the command that ends the transfer, so before any admission into the freed slot: R102 allows either order, and this
one is the model's (DESIGN CHOICE, log 35). -/
def State.setMapFault (s : State) : State :=
  if s.ilu.mapFault then s
  else State.haltEvent { s with ilu := { s.ilu with mapFault := true } } .mapFault

/-- The ending of a transfer with a result, whole (R102). The halt of a masked MAP_FAULT is part of it (DESIGN CHOICE,
log 35). -/
def State.endTransfer (s : State) (k : SlotId) (res : Result) : State :=
  if res = .wrongPhase then (s.endRecord k res).setMapFault else s.endRecord k res

/-! ### Supply warning (R158, R159, R172) -/

/-- The Mode Controller takes the start of the supply warning (R172): the mode is saved, WAIT_BREAK records go back. -/
def State.supplyStart (s : State) : State :=
  match s.mdc.mode with
  | .base m => (s.setMode (.rideThrough m)).handBackAll
  | .rideThrough _ => s

/-- The Mode Controller takes the qualified clear (R172): the saved mode, and for MANUAL and AUTO the admission that
resumes at once (R165). -/
def State.qualifiedClear (s : State) : State :=
  match s.mdc.mode with
  | .rideThrough m => s.enterMode m
  | .base _ => s

def State.setSupply (s : State) (x : SupplyState) : State := { s with ilu := { s.ilu with supply := x } }

/-- The debounced level of SUPPLY_WARN has changed (R158). -/
def State.supplyChanged (s : State) (active : Bool) : State :=
  match s.ilu.supply, active with
  | .clear, true => (s.setSupply .warning).supplyStart
  | .warning, false => s.setSupply (.clearing s.now)
  | .clearing _, true => s.setSupply .warning
  | .clear, false | .warning, true | .clearing _, false => s

/-! ### The key (R160, R163) -/

/-- A change of key position: the authority passes, KEY_CHANGED is raised. -/
def State.keyChanged (s : State) : State :=
  State.raise { s with mdc := { s.mdc with authority := if s.keyLocal then .service else .operator } } .keyChanged

/-! ### Input conditioning (R147, R149) -/

/-- The halt source an input's status asserts (R149, R152). -/
def haltSourceOf : InputLine → Option HaltSource
  | .rlyBlock => some .rlyBlock
  | .rlyTrip => some .rlyTrip
  | .door => some .door
  | .aux1 => some .aux1
  | .aux2 => some .aux2
  | .keyLocal | .supplyWarn => none

/-- An input's status takes a value; one that becomes set asserts its halt source. -/
def State.setStatus (s : State) (i : InputLine) (v : Bool) : State :=
  let was := (s.input i).status
  let s := s.setInput i { s.input i with status := v }
  match haltSourceOf i with
  | some h => if v && !was then s.haltEvent h else s
  | none => s

/-- The status follows a change of the debounced level by the input's type (R149). -/
def State.followLevel (s : State) (i : InputLine) : State :=
  let r := s.input i
  if r.level then s.setStatus i r.debounced
  else if r.debounced then s.setStatus i true
  else s

/-- A change of the debounced level is judged at once (R147). -/
def State.debouncedChanged (s : State) (i : InputLine) : State :=
  let s := s.followLevel i
  match i with
  | .keyLocal => s.keyChanged
  | .supplyWarn => s.supplyChanged (s.input i).debounced
  | .rlyBlock | .rlyTrip | .door | .aux1 | .aux2 => s

/-- The run after a sample (R147): absent at the debounced level, else started at 0 or raised by 1. -/
def runAfter (r : InputRec) (sampled : Bool) : Option Nat :=
  if sampled = r.debounced then none
  else
    match r.run with
    | none => some 0
    | some m => some (m + 1)

/-- One millisecond sample of an input line (R147). -/
def State.sampleInput (s : State) (i : InputLine) (lineHigh : Bool) : State :=
  let r := s.input i
  let t := r.sampledAt + Config.ticksPerMs
  let sampled := lineHigh == r.polarityHigh
  let s := s.atInstant t
  match runAfter r sampled with
  | none => s.setInput i { r with sampled := sampled, sampledAt := t, run := none }
  | some m =>
    if r.debounce ≤ m then
      (s.setInput i { r with sampled := sampled, sampledAt := t, run := none, debounced := sampled }).debouncedChanged i
    else s.setInput i { r with sampled := sampled, sampledAt := t, run := some m }

/-- INPUT_SAMPLE (R147). -/
def execInputSample (i : InputLine) (lineHigh : Bool) (s : State) : Host.Outcome State Fault Refusal :=
  .next (s.sampleInput i lineHigh).settle

/-- DEBOUNCE_COMPLETE (R147): the sample that completes the run. -/
def execDebounceComplete (i : InputLine) (lineHigh : Bool) (s : State) : Host.Outcome State Fault Refusal :=
  .next (s.sampleInput i lineHigh).settle

/-- SUPPLY_CLEARING_TIMEOUT (R158): the clearing timer reaches 2,000 ms. -/
def execSupplyClearingTimeout (s : State) : Host.Outcome State Fault Refusal :=
  match s.ilu.supply with
  | .clearing since => .next (((s.atInstant (since + msToTicks 2000)).setSupply .clear).qualifiedClear).settle
  | .clear | .warning => .next s.settle

/-! ### CLEAR_INPUTS (R151) -/

/-- A selected status of type EDGE becomes clear. -/
def State.clearEdge (s : State) (selection : Byte) (i : InputLine) : State :=
  match haltSourceOf i with
  | some h =>
    if selection.getLsbD h.bit && !(s.input i).level then s.setInput i { s.input i with status := false } else s
  | none => s

def sourceInputs : List InputLine := [.rlyBlock, .rlyTrip, .door, .aux1, .aux2]

def State.clearInputs (s : State) (selection : Byte) : State :=
  let s := sourceInputs.foldl (fun s i => s.clearEdge selection i) s
  if selection.getLsbD HaltSource.mapFault.bit then { s with ilu := { s.ilu with mapFault := false } } else s

def doClearInputs (lk : Link) (payload : List Byte) (s : State) : Answered :=
  controlled lk (argSources payload)
    (fun sel s =>
      let s := s.clearInputs sel
      okWith (u8 s.assertedSet) s) s

def execClearInputs (lk : Link) (tag : Byte) (payload : List Byte) (s : State) : Host.Outcome State Fault Refusal :=
  .next (takeRequest lk Command.clearInputs.code tag (doClearInputs lk payload) s).settle

end Sys2Proof.Machine
end

