-- ==== Sys2Proof/Machine/Verify.lean ====
section
/-! DEFINITION. What the Transfer Engine does with replies: the verify decision of each stage (R92, R95, R98, R100,
R101), other status replies (R93, R94), actuation outcomes (R91) and missed verify polls (R92). -/

namespace Sys2Proof.Machine

open Sys2Proof

/-- Verify misses becomes 0 at any status reply of the connection (R92, R93). -/
def State.clearMisses (s : State) (k : SlotId) : State := s.modSlot k fun sl => { sl with misses := 0 }

/-- REVERTED on the from phase, WRONG_PHASE on any other closed phase. -/
def strayResult (r : MoveRec) (p : Phase) : Result := if p = r.source then .reverted else .wrongPhase

/-- BREAKING (R95). -/
def State.verifyBreaking (s : State) (k : SlotId) (sl : Slot) (closed : Option Phase) : State :=
  match closed with
  | none =>
    if sl.record.cancel then (s.confirmBreak k).enterWaitReturn k else (s.confirmBreak k).enterGap k
  | some p =>
    if p = sl.record.source then
      if sl.record.cancel then s.endTransfer k .cancelled
      else if sl.record.breaks < 3 then s.backToWaitBreak k
      else s.endTransfer k .notOpened
    else s.endTransfer k .wrongPhase

/-- MAKING (R98). -/
def State.verifyMaking (s : State) (k : SlotId) (sl : Slot) (closed : Option Phase) : State :=
  match closed with
  | none => if sl.record.makes < 3 ∧ sl.record.cancel = false then s.enterWaitMake k else s.enterWaitReturn k
  | some p => if p = sl.record.target then s.endTransfer k .done else s.endTransfer k (strayResult sl.record p)

/-- RETURNING, judged against the phase named in the last actuation (R100). -/
def State.verifyReturning (s : State) (k : SlotId) (sl : Slot) (closed : Option Phase) : State :=
  match closed with
  | none => if sl.record.returns < 3 then s.enterWaitReturn k else s.endTransfer k .dark
  | some p =>
    if sl.lastAct.bind (·.named) = some p then s.endTransfer k .returned
    else s.endTransfer k (strayResult sl.record p)

/-- A slot with an open module and no verify poll of its own, or at ORPHANED: a closed phase ends the transfer (R93,
R101). -/
def State.seeClosed (s : State) (k : SlotId) (sl : Slot) (closed : Option Phase) : State :=
  match closed with
  | none => s
  | some p => s.endTransfer k (strayResult sl.record p)

/-- WAIT_BREAK (R94). -/
def State.statusAtWaitBreak (s : State) (k : SlotId) (sl : Slot) (closed : Option Phase) : State :=
  if closed ≠ some sl.record.source then s.endTransfer k .stale
  else if (s.conn sl.record.conn).hold.isSome then s.endTransfer k .blocked
  else s

/-- A status reply other than the slot's own verify reply acts by stage (R93). -/
def State.statusToSlot (s : State) (k : SlotId) (closed : Option Phase) : State :=
  let s := s.clearMisses k
  match s.slot k with
  | some sl =>
    match sl.stage with
    | .waitBreak => s.statusAtWaitBreak k sl closed
    | .breaking | .making | .returning => s
    | .gap | .waitMake | .waitReturn | .orphaned => s.seeClosed k sl closed
  | none => s

/-- The reply to the slot's verify poll decides the stage (R92). At ORPHANED the poll is due again in the next frame. -/
def State.verifyDecision (s : State) (k : SlotId) (closed : Option Phase) : State :=
  let s := s.clearMisses k
  match s.slot k with
  | some sl =>
    match sl.stage with
    | .breaking => s.verifyBreaking k sl closed
    | .making => s.verifyMaking k sl closed
    | .returning => s.verifyReturning k sl closed
    | .orphaned => (s.setSlot k (some { sl with verifyDue := some (s.sbc.frame + 1) })).seeClosed k sl closed
    | .waitBreak => s.statusAtWaitBreak k sl closed
    | .gap | .waitMake | .waitReturn => s.seeClosed k sl closed
  | none => s

/-- A missed verify poll: due again in the next frame; the third in a row ends the transfer NO_REPLY (R92). -/
def State.verifyMissed (s : State) (k : SlotId) : State :=
  match s.slot k with
  | some sl =>
    if 3 ≤ sl.misses + 1 then s.endTransfer k .noReply
    else s.setSlot k (some { sl with misses := sl.misses + 1, verifyDue := some (s.sbc.frame + 1) })
  | none => s

/-- The verify poll becomes due f + s frames after the actuation of frame f, s the class settle frames (R92). -/
def State.setVerifyDue (s : State) (k : SlotId) (frame : Word) : State :=
  s.modSlot k fun sl =>
    { sl with verifyDue := some (frame + BitVec.ofNat 32 (s.timing sl.record.conn).settle) }

/-- The slot acts on the outcome of its actuation, sent in a frame (R91). -/
def State.slotOutcome (s : State) (k : SlotId) (kind : ActKind) (frame : Word) (o : ActOutcome) : State :=
  match s.slot k with
  | none => s
  | some sl =>
    match kind, o with
    | _, .accept | _, .missed => s.setVerifyDue k frame
    | .brk, .reject .localLockout => s.endTransfer k .blocked
    | .brk, .reject _ => s.endTransfer k .stale
    | .make, .reject .notOpen => s.setVerifyDue k frame
    | .make, .reject .phaseDead =>
      if sl.record.makes < 3 ∧ sl.record.cancel = false then s.enterWaitMake k else s.enterWaitReturn k
    | .make, .reject _ => s.enterWaitReturn k
    | .ret, .reject .notOpen => s.setVerifyDue k frame
    | .ret, .reject _ => if sl.record.returns < 3 then s.enterWaitReturn k else s.endTransfer k .dark

end Sys2Proof.Machine
end

