-- ==== Sys2Proof/Machine/Store.lean ====
section
/-! DEFINITION. The Energy Store Monitor (chapter 7): charging, readiness, fault, recovery, the choice of a grant and
ES_RETRY. The grant itself, one operation with the sending, is in Bus.lean. -/

namespace Sys2Proof.Machine

open Sys2Proof

def State.setStore (s : State) (x : StoreState) : State := { s with esm := { s.esm with store := x } }

/-- CHARGING is entered with a fresh timer; a store at or above the ready level is READY in the same operation (R135). -/
def State.enterCharging (s : State) : State :=
  if s.params.readyLevel ≤ s.esm.voltage then s.setStore .ready
  else s.setStore (.charging s.now (s.params.chargeTimeout * 1000))

/-- The charge timer in ms, present in CHARGING (R133); a part of a millisecond is dropped (DESIGN CHOICE, log 36). -/
def State.chargeTimer (s : State) : Option Nat :=
  match s.esm.store with
  | .charging since timeout => some (min timeout (ticksToMs (s.now - since)))
  | .ready | .recovery _ _ | .fault => none

/-- The current grant (R133). -/
def State.currentGrant (s : State) : Option Grant :=
  match s.esm.store with
  | .recovery _ g => some g
  | .charging _ _ | .ready | .fault => none

/-- The stored reading of a mean of millivolts: truncated to 0.1 V, saturated at 120.0 V (R134). -/
def storeReading (milliVolts : Nat) : Nat := min 1200 (milliVolts / 100)

/-- A renewal judged by the store state in force (R134, R135, R136). -/
def State.judgeVoltage (s : State) : State :=
  match s.esm.store with
  | .charging _ _ => if s.params.readyLevel ≤ s.esm.voltage then s.setStore .ready else s
  | .ready =>
    if s.esm.voltage + 20 < s.params.readyLevel then s.setStore (.charging s.now (s.params.chargeTimeout * 1000)) else s
  | .recovery _ _ | .fault => s

/-- STORE_VOLTAGE_RENEWAL, one millisecond after the last (R134). -/
def execStoreVoltageRenewal (milliVolts : Nat) (s : State) : Host.Outcome State Fault Refusal :=
  let t := s.esm.renewedAt + Config.ticksPerMs
  let s := s.atInstant t
  .next (State.judgeVoltage { s with esm := { s.esm with voltage := storeReading milliVolts, renewedAt := t } }).settle

/-- CHARGE_TIMEOUT in CHARGING: FAULT, and ES_FAULT becomes asserted (R135, R137, R152). -/
def execChargeTimeout (s : State) : Host.Outcome State Fault Refusal :=
  match s.esm.store with
  | .charging since timeout =>
    .next (((s.atInstant (since + msToTicks timeout)).setStore .fault).haltEvent .esFault).settle
  | .ready | .recovery _ _ | .fault => .next s.settle

/-- A frame boundary in RECOVERY: the count rises by 1; at the recovery frames the recovery is finished (R140). -/
def State.recoveryTick (s : State) : State :=
  match s.esm.store with
  | .recovery count g =>
    if g.recovery ≤ count + 1 then s.enterCharging else s.setStore (.recovery (count + 1) g)
  | .charging _ _ | .ready | .fault => s

/-- The outcome of the granted actuation: a REJECT drew nothing and the store is READY again (R139). The grant is known
by its connection and frame. -/
def State.storeOutcome (s : State) (n : ConnId) (frame : Word) (o : ActOutcome) : State :=
  match s.esm.store, o with
  | .recovery _ g, .reject _ => if g.conn = n ∧ g.frame = frame then s.setStore .ready else s
  | _, _ => s

/-! ### The choice (R138) -/

/-- RETURN first, then MAKE, then BREAK. -/
def ActKind.rank : ActKind → Nat
  | .ret => 0
  | .make => 1
  | .brk => 2

/-- A request presented by a slot. -/
structure Presented where
  slot : SlotId
  kind : ActKind
  order : Nat
deriving DecidableEq, Repr

def State.presented (s : State) : List Presented :=
  allSlots.filterMap fun k =>
    match s.slot k with
    | some sl => (s.request sl).map fun kind => { slot := k, kind := kind, order := sl.order }
    | none => none

/-- By kind, and within a kind by admission order, earliest first. -/
def outranks (x y : Presented) : Bool :=
  decide (x.kind.rank < y.kind.rank) || (x.kind.rank == y.kind.rank && decide (x.order < y.order))

def bestPresented : List Presented → Option Presented
  | [] => none
  | x :: xs =>
    match bestPresented xs with
    | some y => if outranks y x then some y else some x
    | none => some x

/-- The slot and kind granted at a frame boundary (R138). -/
def State.chosen (s : State) : Option Presented :=
  if s.esm.store = .ready then bestPresented s.presented else none

/-! ### ES_RETRY (R141) -/

def doEsRetry (lk : Link) (payload : List Byte) (s : State) : Answered :=
  controlled lk (argNone payload) (fun _ s => okWith [] (if s.esm.store = .fault then s.enterCharging else s)) s

def execEsRetry (lk : Link) (tag : Byte) (payload : List Byte) (s : State) : Host.Outcome State Fault Refusal :=
  .next (takeRequest lk Command.esRetry.code tag (doEsRetry lk payload) s).settle

end Sys2Proof.Machine
end

