-- ==== Sys2Proof/Machine/Bus.lean ====
section
/-! DEFINITION. The Selector Bus Controller (chapter 6): frame boundaries and the grant, the unit arbiter, replies and
misses, and QUERY_MODULE. -/

namespace Sys2Proof.Machine

open Sys2Proof

def State.setTxn (s : State) (t : Option Transaction) : State := { s with sbc := { s.sbc with txn := t } }

/-! ### Pass-through queries (R118) -/

/-- The entry a transaction with a module serves. -/
def Query.serves (q : Query) (n : ConnId) : Bool := q.onBus && q.conn == n

/-- A query ends: its entry leaves the list and its link is answered, unless RESTART has answered it (R118). -/
def State.finishQuery (s : State) (n : ConnId) (reply : List Byte) : State :=
  match s.sbc.queries.find? fun q => q.serves n with
  | some q =>
    let s := { s with sbc := { s.sbc with queries := s.sbc.queries.filter fun q => !q.serves n } }
    if q.answered then s else s.setReply q.link reply
  | none => s

/-- The OK payload of QUERY_MODULE (R188). -/
def moduleFigures (r : StatusReport) (x : Particulars) : List Byte :=
  u8 (closedCode r.closed) ++ [r.counter] ++ i16 r.load ++ flag r.fault ++ flag r.localOp ++ [x.typeCode]
    ++ be32 x.serial ++ be16 x.orphan ++ be32 x.operations

def doQueryModule (lk : Link) (payload : List Byte) (s : State) : Answered :=
  match argConn payload with
  | none => refuse .badArg s
  | some n =>
    if 2 ≤ s.sbc.queries.length ∨ s.sbc.queries.any (fun q => q.conn == n) then refuse .retry s
    else
      ({ s with sbc := { s.sbc with
          queries := s.sbc.queries ++ [{ link := lk, conn := n, onBus := false, answered := false }] } }, none)

/-- QUERY_MODULE (R118): answered when its transaction ends. -/
def execQueryModule (lk : Link) (tag : Byte) (payload : List Byte) (s : State) : Host.Outcome State Fault Refusal :=
  .next (takeRequest lk Command.queryModule.code tag (doQueryModule lk payload) s).settle

/-! ### Outcomes (R113, R114) -/

/-- A slot still holds the transfer a transaction was made for. -/
def State.owned (s : State) (k : SlotId) (owner : Nat) : Bool :=
  match s.slot k with
  | some sl => sl.order == owner
  | none => false

/-- A status reply is applied by the CTB and handed to the TXE when the connection's record is in a slot (R93, R114). -/
def State.statusTaken (s : State) (n : ConnId) (r : StatusReport) : State :=
  let s := s.applyReply n r
  match s.slotOf n with
  | some k => s.statusToSlot k r.closed
  | none => s

/-- The reply to a verify poll: the CTB, then the TXE decides the slot's stage (R92, R114). When the transfer it was made
for has ended, it is a status reply like any other (R93, R106). -/
def State.verifyTaken (s : State) (k : SlotId) (owner : Nat) (n : ConnId) (r : StatusReport) : State :=
  if s.owned k owner then (s.applyReply n r).verifyDecision k r.closed else s.statusTaken n r

/-- The outcome of an actuation: the CTB, then the TXE, then the ESM (R114). -/
def State.actuationOutcome (s : State) (n : ConnId) (k : SlotId) (owner : Nat) (kind : ActKind)
    (before intended : Confirmed) (o : ActOutcome) : State :=
  let s := s.ctbOutcome n before intended o
  let s := if s.owned k owner then s.slotOutcome k kind s.sbc.frame o else s
  s.storeOutcome n s.sbc.frame o

/-- The transaction in progress is missed, and the miss is handed on by its purpose (R113, R114). -/
def State.missTransaction (s : State) : State :=
  match s.sbc.txn with
  | none => s
  | some t =>
    let s := s.setTxn none
    match t.purpose with
    | .survey | .probe => s.pollMissed t.conn
    | .verify k owner => if s.owned k owner then s.verifyMissed k else s
    | .actuation k owner kind before intended => s.actuationOutcome t.conn k owner kind before intended .missed
    | .passThrough => s.finishQuery t.conn [Status.offline.code]

/-- The end of a transaction's reply window: the end of its last unit (R111, R113). -/
def State.windowEnd (s : State) (t : Transaction) : Nat := s.sbc.boundaryAt + t.lastUnit * s.sbc.unitLength

/-- A reply received whole inside the window of the transaction in progress, which says what it must be; one that fails
its check is missed (R113, R114, R190). -/
def State.takeReply (s : State) (t : Transaction) (msg : List Byte) : State :=
  let u := s.setTxn none
  match t.purpose with
  | .survey | .probe =>
    match judgePoll t.conn msg with
    | some r => u.statusTaken t.conn r
    | none => s.missTransaction
  | .verify k owner =>
    match judgePoll t.conn msg with
    | some r => u.verifyTaken k owner t.conn r
    | none => s.missTransaction
  | .actuation k owner kind before intended =>
    match judgeActuation t.conn (kind == .brk) msg with
    | some o => u.actuationOutcome t.conn k owner kind before intended o
    | none => s.missTransaction
  | .passThrough =>
    match judgePassThrough t.conn msg with
    | some (r, x) => (u.statusTaken t.conn r).finishQuery t.conn (Status.ok.code :: moduleFigures r x)
    | none => s.missTransaction

/-- A message of a module arrives (R113). One that comes, whole or in part, after the window it answers has closed is
discarded and not counted toward the next transaction; so is one with no transaction in progress. The transaction in
progress takes one received by the end of its window; past that end it is missed and the message discarded (log 37). -/
def State.takeMessage (s : State) (msg : Arrival) : State :=
  if msg.late then s
  else
    match s.sbc.txn with
    | none => s
    | some t => if s.now ≤ s.windowEnd t then s.takeReply t msg.bytes else s.missTransaction

/-- POLL_REPLY (R5, R113, R114). -/
def execPollReply (msg : Arrival) (s : State) : Host.Outcome State Fault Refusal :=
  .next (s.takeMessage msg).settle

/-- ACTUATION_REPLY (R7, R91, R114, R139). -/
def execActuationReply (msg : Arrival) (s : State) : Host.Outcome State Fault Refusal :=
  .next (s.takeMessage msg).settle

/-- PASS_THROUGH_REPLY (R5, R93, R118, R124). -/
def execPassThroughReply (msg : Arrival) (s : State) : Host.Outcome State Fault Refusal :=
  .next (s.takeMessage msg).settle

/-- TRANSACTION_MISSED (R113): the transaction in progress is missed, at the instant the clock shows. The clock does not move
to the end of the window: R113 gives no moment for a miss other than silence (DESIGN CHOICE, log 41). -/
def execTransactionMissed (s : State) : Host.Outcome State Fault Refusal := .next s.missTransaction.settle

/-! ### Frame boundaries (R109, R110) -/

/-- The instant of the frame boundary that can be taken now: the reported crossing, or one nominal period after the last
boundary under the free-running timer, at once when that has passed. None while a phase aligned to has not crossed. The
nominal period is the one in force for the frame (R111). -/
def State.boundaryInstant (s : State) : Option Nat :=
  if s.sbc.boundaryDue then some s.now
  else
    match s.sbc.alignment with
    | some _ => none
    | none => some (max s.now (s.sbc.boundaryAt + s.sbc.framePeriod))

/-- The TXE takes the frame end for the actuations of the frame that closes (R87, R109 step 2). -/
def noteFrameEnd (frame : Word) (t : Nat) (a : LastAct) : LastAct :=
  if a.frame = frame ∧ a.frameEnd.isNone then { a with frameEnd := some t } else a

def State.noteFrameEnds (s : State) : State :=
  allSlots.foldl (fun s k => s.modSlot k fun sl =>
    { sl with lastAct := sl.lastAct.map (noteFrameEnd s.sbc.frame s.now) }) s

/-- A frame number has been reached by the frame counter, which wraps. -/
def reachedFrame (frame due : Word) : Bool := decide ((frame - due).toNat < 2147483648)

/-- A slot's verify poll is due in a frame (R92, R117). -/
def duePoll (frame : Word) (sl : Slot) : Bool :=
  sl.stage.verifying && (match sl.verifyDue with
    | some d => reachedFrame frame d
    | none => false)

/-- A slot is placed in admission order. -/
def insertByOrder (x : SlotId × Nat) : List (SlotId × Nat) → List (SlotId × Nat)
  | [] => [x]
  | y :: ys => if x.2 ≤ y.2 then x :: y :: ys else y :: insertByOrder x ys

/-- The slots whose verify polls are due in a frame, in admission order (R115, R117). -/
def State.duePolls (s : State) (frame : Word) : List SlotId :=
  ((allSlots.filterMap fun k =>
    match s.slot k with
    | some sl => if duePoll frame sl then some (k, sl.order) else none
    | none => none).foldr insertByOrder []).map (·.1)

/-- Steps 1, 3 and 4 of R109: the marker is sent, the counter rises, the due verify polls are collected. -/
def State.openFrame (s : State) : State :=
  { s with sbc := { s.sbc with
      frame := s.sbc.frame + 1, boundaryAt := s.now, boundaryDue := false, unit := 0, busyThrough := 0,
      unitLength := s.period / 13, framePeriod := s.period, surveyed := [], surveyStopped := false,
      probed := false, sent := [frameMarker],
      verifyPolls := s.duePolls (s.sbc.frame + 1) } }

/-- The stage a grant of a kind brings (R90). -/
def ActKind.stage : ActKind → Stage
  | .brk => .breaking
  | .make => .making
  | .ret => .returning

/-- The attempt count a grant raises (R90). -/
def countAttempt (r : MoveRec) : ActKind → MoveRec
  | .brk => { r with breaks := r.breaks + 1 }
  | .make => { r with makes := r.makes + 1 }
  | .ret => { r with returns := r.returns + 1 }

/-- The phase an actuation names: none for a BREAK, the to phase for a MAKE, the return phase for a RETURN (R88, R90). -/
def State.namedPhase (s : State) (r : MoveRec) : ActKind → Option Phase
  | .brk => none
  | .make => some r.target
  | .ret => s.returnPhase r

/-- The message of an actuation: BREAK, or MAKE naming its phase (R90, R116, R190). -/
def actuationMessage (n : ConnId) (named : Option Phase) (c : TimingClass) : List Byte :=
  match named with
  | none => breakRequest n c.breakPulse
  | some p => makeRequest n p c.makePulse

/-- The slot after its grant (R90). -/
def grantedSlot (sl : Slot) (kind : ActKind) (named : Option Phase) (frame : Word) : Slot :=
  { sl with
    record := countAttempt sl.record kind, stage := kind.stage, verifyDue := none, misses := 0,
    lastAct := some { kind := kind, named := named, frame := frame, frameEnd := none } }

/-- A grant and the sending of its actuation in unit 1, one operation (R90, R116, R139). -/
def State.grant (s : State) (p : Presented) (sl : Slot) : State :=
  let n := sl.record.conn
  let named := s.namedPhase sl.record p.kind
  let t : Transaction :=
    { conn := n, lastUnit := 1,
      purpose := .actuation p.slot sl.order p.kind (s.conn n).phase (Confirmed.ofClosed named) }
  let g : Grant :=
    { slot := p.slot, kind := p.kind, conn := n, recovery := (s.timing n).recovery, frame := s.sbc.frame }
  let s := ((s.setStore (.recovery 0 g)).disturb).setSlot p.slot (some (grantedSlot sl p.kind named s.sbc.frame))
  { s with sbc := { s.sbc with
      unit := 1, busyThrough := 1, txn := some t,
      sent := s.sbc.sent ++ [actuationMessage n named (s.timing n)] } }

/-- Step 5 of R109: the ESM takes its grant for the new frame (R138). -/
def State.grantStep (s : State) : State :=
  match s.chosen with
  | some p =>
    match s.slot p.slot with
    | some sl => s.grant p sl
    | none => s
  | none => s

/-- A frame boundary: a transaction in progress is cut and missed (R111), the frame ends for TXE and ESM, the new frame
opens, the grant is made (R109). All of it is one operation, with at most one renewal of the summary, the end of a
recovery and the grant among it (DESIGN CHOICE, log 43). -/
def State.frameBoundary (s : State) : State := s.missTransaction.noteFrameEnds.recoveryTick.openFrame.grantStep

/-- FRAME_BOUNDARY (R109). -/
def execFrameBoundary (s : State) : Host.Outcome State Fault Refusal :=
  match s.boundaryInstant with
  | some t => .next (s.atInstant t).frameBoundary.settle
  | none => .next s.settle

/-- The next frame boundary finishes the recovery (R140). -/
def State.recoveryEnds (s : State) : Bool :=
  match s.esm.store with
  | .recovery count g => decide (g.recovery ≤ count + 1)
  | .charging _ _ | .ready | .fault => false

/-- RECOVERY_END (R140): step 2 of a frame boundary that finishes the recovery, taken by itself. The rest of that
boundary is FRAME_BOUNDARY, which then finds no recovery (log 11). The two are then two operations, each with a renewal of
its own (DESIGN CHOICE, log 43). -/
def execRecoveryEnd (s : State) : Host.Outcome State Fault Refusal :=
  match s.boundaryInstant with
  | some t => if s.recoveryEnds then .next (s.atInstant t).enterCharging.settle else .next s.settle
  | none => .next s.settle

/-! ### The unit arbiter (R115 to R120) -/

/-- The survey and the probes pass by a connection whose record is in a slot beyond WAIT_BREAK (R119, R120). -/
def State.pollable (s : State) (n : ConnId) : Bool :=
  (s.conn n).present && (match s.stageOf n with
    | none | some .waitBreak => true
    | some _ => false)

/-- Eligible for the survey (R119). A verify poll or a probe of the connection earlier in the frame does not make it
ineligible: R119's test does not name them, while its last sentence has a module polled in one frame by the survey or by a
verify poll. The model follows the test (DESIGN CHOICE, log 38). -/
def State.surveyable (s : State) (n : ConnId) : Bool := s.pollable n && (s.conn n).link != .offline

/-- Due for a probe (R120). -/
def State.probeDue (s : State) (n : ConnId) : Bool :=
  s.pollable n && (s.conn n).link == .offline && (match s.sbc.lastProbe[n] with
    | some f => decide (50 ≤ (s.sbc.frame - f).toNat)
    | none => true)

/-- The connections in rotation, from the one after a position. -/
def rotation (position : Nat) : List ConnId := allConns.drop position ++ allConns.take position

/-- A transaction starts in unit u and takes a number of units; its request goes out. -/
def State.startTxn (s : State) (u units : Nat) (n : ConnId) (purpose : Purpose) (request : List Byte) : State :=
  { s with sbc := { s.sbc with
      txn := some { conn := n, purpose := purpose, lastUnit := u + units - 1 }, busyThrough := u + units - 1,
      sent := [request] } }

/-- Claim 2: the first verify poll waiting (R117). -/
def State.claimVerify (s : State) : Option (SlotId × Slot) :=
  s.sbc.verifyPolls.findSome? fun k => (s.slot k).map fun sl => (k, sl)

def State.startVerify (s : State) (u : Nat) (k : SlotId) (sl : Slot) : State :=
  let s := { s with sbc := { s.sbc with verifyPolls := s.sbc.verifyPolls.filter fun j => j != k } }
  s.startTxn u 1 sl.record.conn (.verify k sl.order) (pollRequest sl.record.conn)

/-- Claim 3: the first waiting query, while two units are left (R111, R118). -/
def State.claimQuery (s : State) (u : Nat) : Option Query :=
  if u + 1 ≤ 12 then s.sbc.queries.find? fun q => !q.onBus else none

def State.startQuery (s : State) (u : Nat) (q : Query) : State :=
  let s := { s with sbc := { s.sbc with
    queries := s.sbc.queries.map fun x => if x = q then { x with onBus := true } else x } }
  s.startTxn u 2 q.conn .passThrough (passThroughRequest q.conn)

/-- Claim 4: the first due OFFLINE connection after the probe position, one probe a frame (R120). -/
def State.claimProbe (s : State) : Option ConnId :=
  if s.sbc.probed then none else (rotation s.sbc.probePos).find? s.probeDue

def State.startProbe (s : State) (u : Nat) (n : ConnId) : State :=
  let s := { s with sbc := { s.sbc with
    probed := true, probePos := connNumber n, lastProbe := s.sbc.lastProbe.set n (some s.sbc.frame) } }
  s.startTxn u 1 n .probe (pollRequest n)

/-- Claim 5: the first eligible connection after the survey position (R119). -/
def State.claimSurvey (s : State) : Option ConnId :=
  if s.sbc.surveyStopped then none else (rotation s.sbc.surveyPos).find? s.surveyable

/-- The survey polls a connection, or stops for the frame where the frame has polled it already (R119). -/
def State.startSurvey (s : State) (u : Nat) (n : ConnId) : State :=
  if s.sbc.surveyed.contains n then { s with sbc := { s.sbc with surveyStopped := true } }
  else
    let s := { s with sbc := { s.sbc with surveyPos := connNumber n, surveyed := s.sbc.surveyed ++ [n] } }
    s.startTxn u 1 n .survey (pollRequest n)

/-- The arbiter starts the first claim that is waiting and fits (R115). -/
def State.arbitrate (s : State) (u : Nat) : State :=
  match s.claimVerify, s.claimQuery u, s.claimProbe, s.claimSurvey with
  | some x, _, _, _ => s.startVerify u x.1 x.2
  | none, some q, _, _ => s.startQuery u q
  | none, none, some n, _ => s.startProbe u n
  | none, none, none, some n => s.startSurvey u n
  | none, none, none, none => s

/-- A unit begins: the window of a transaction whose last unit has ended is closed (R113). -/
def State.beginUnit (s : State) : State :=
  let u := s.sbc.unit + 1
  let s := s.atInstant (s.sbc.boundaryAt + s.sbc.unit * s.sbc.unitLength)
  let s :=
    match s.sbc.txn with
    | some t => if t.lastUnit < u then s.missTransaction else s
    | none => s
  { s with sbc := { s.sbc with unit := u, sent := [] } }

/-- UNIT_START (R111, R115): the next of units 1 to 12 begins. -/
def execUnitStart (s : State) : Host.Outcome State Fault Refusal :=
  if s.sbc.unit < 12 then
    let s := s.beginUnit
    if s.sbc.unit ≤ s.sbc.busyThrough then .next s.settle else .next (s.arbitrate s.sbc.unit).settle
  else .next s.settle

end Sys2Proof.Machine
end

