-- ==== Sys2Proof/Machine/Planner.lean ====
section
/-! DEFINITION. The Balancing Planner (chapter 3): planner runs and rescue passes. -/

namespace Sys2Proof.Machine

open Sys2Proof

/-! ### The arithmetic of balance (R48, R49, R51) -/

/-- S, the sum of three phase powers. -/
def powerSum (w : PerPhase Int) : Int := w.a + w.b + w.c

/-- D_p = 3·P_p − S. -/
def deviation (w : PerPhase Int) (p : Phase) : Int := 3 * w.get p - powerSum w

/-- U3, the largest of the three magnitudes. -/
def u3 (w : PerPhase Int) : Int := max (max |deviation w .A| |deviation w .B|) |deviation w .C|

/-- The working powers after a move of load l from x to y (R49). -/
def shifted (w : PerPhase Int) (x y : Phase) (l : Int) : PerPhase Int :=
  let w := w.set x (w.get x - l)
  w.set y (w.get y + l)

/-- The gain of a move (R51): working U3 less trial U3. -/
def gainOf (w : PerPhase Int) (x y : Phase) (l : Int) : Int := u3 w - u3 (shifted w x y l)

/-! ### Candidates (R50, R52, R53) -/

/-- The connection is rested at an epoch number (R24). -/
def rested (c : Conn) (current : Word) (rest : Nat) : Bool :=
  match c.lastMove with
  | none => true
  | some m => decide (rest ≤ (current - m).toNat)

/-- The from phase and the load of a candidate pair (R50); none when a condition fails. -/
def State.candidate (s : State) (current : Word) (w : PerPhase Int) (chosen : List ConnId) (k : ConnId) (y : Phase) :
    Option (Phase × Int) :=
  let c := s.conn k
  match c.phase, c.epochLoad with
  | .on x, some l =>
    if c.present ∧ c.link = .online ∧ c.pin = false ∧ c.hold.isNone ∧ c.dark = false ∧ c.recordLink.isNone
        ∧ c.movesToday < c.allowance ∧ rested c current s.params.restPeriod ∧ y ≠ x ∧ s.health y = .healthy
        ∧ |w.get y + l| ≤ (s.params.plim : Int) ∧ ¬ chosen.contains k then
      some (x, l)
    else none
  | _, _ => none

/-- A move of a batch: its entry in the status record and its load. -/
structure Choice where
  entry : PlanEntry
  load : Int
deriving DecidableEq, Repr

/-- A qualifying candidate pair with its gain (R51, R52). -/
def State.qualifying (s : State) (current : Word) (w : PerPhase Int) (chosen : List ConnId) (k : ConnId) (y : Phase) :
    Option Choice :=
  match s.candidate current w chosen k y with
  | some (x, l) =>
    let g := gainOf w x y l
    if 0 < g ∧ 3 * (s.params.wmin : Int) ≤ g then
      some { entry := { conn := k, source := x, target := y, gain := g }, load := l }
    else none
  | none => none

/-- Every qualifying pair, by ascending connection number and then target A, B, C. -/
def State.qualifiers (s : State) (current : Word) (w : PerPhase Int) (chosen : List ConnId) : List Choice :=
  allConns.flatMap fun k => phases.filterMap fun y => s.qualifying current w chosen k y

/-- The first of the largest gain (R53). -/
def bestChoice : List Choice → Option Choice
  | [] => none
  | x :: xs =>
    match bestChoice xs with
    | some y => if x.entry.gain < y.entry.gain then some y else some x
    | none => some x

/-- The batch, in at most the given number of steps, with the working powers it leaves (R54). -/
def State.batch (s : State) (current : Word) : Nat → PerPhase Int → List PlanEntry → List PlanEntry × PerPhase Int
  | 0, w, done => (done, w)
  | steps + 1, w, done =>
    match bestChoice (s.qualifiers current w (done.map (·.conn))) with
    | none => (done, w)
    | some ch =>
      State.batch s current steps (shifted w ch.entry.source ch.entry.target ch.load) (done ++ [ch.entry])

/-! ### Planner runs (R44 to R57) -/

/-- A record of origin PLANNER is in the queue or in a slot (check 3 of R46). -/
def State.plannerOutstanding (s : State) : Bool :=
  s.mvq.queue.any MoveRec.isPlanner || allSlots.any fun k =>
    match s.slot k with
    | some sl => sl.record.isPlanner
    | none => false

/-- The three epoch averages, when all are present (check 2 of R46). -/
def State.allAverages (s : State) : Option (PerPhase Int) :=
  match s.average .A, s.average .B, s.average .C with
  | some a, some b, some c => some ⟨a, b, c⟩
  | _, _, _ => none

/-- K of R54. -/
def State.stepLimit (s : State) : Nat := min s.params.kmax (Config.queuePlaces - s.mvq.queue.length)

def planStatus (e : Word) (o : PlanOutcome) (before after : Option Int) (entries : List PlanEntry) : PlanStatus :=
  { epoch := e, outcome := o, before := before, after := after, entries := entries }

def State.setPlan (s : State) (p : PlanStatus) : State := { s with bpl := { s.bpl with plan := some p } }

/-- The records of a batch are handed to the Move Queue in batch order (R55, R73). -/
def State.acceptBatch (s : State) (entries : List PlanEntry) : State :=
  entries.foldl (fun s e => s.accept e.conn e.source e.target .planner) s

/-- Checks 5 on and the batch, on the starting working powers (R46 to R55). -/
def State.planOn (s : State) (e : Word) (w : PerPhase Int) : State :=
  if u3 w ≤ 3 * (s.params.wtrig : Int) then s.setPlan (planStatus e .balanced (some (u3 w)) none [])
  else
    let b := s.batch s.tbs.epoch s.stepLimit w []
    if b.1.isEmpty then s.setPlan (planStatus e .noCandidate (some (u3 w)) none [])
    else
      ((s.acceptBatch b.1).setPlan (planStatus e .planned (some (u3 w)) (some (u3 b.2)) b.1)).raise .planMade

/-- One planner run at the end of epoch e, whose disturbed flag was handed over; the running epoch is e + 1 (R44 to
R46). -/
def State.plannerRun (s : State) (e : Word) (disturbed : Bool) : State :=
  if s.modeName ≠ .auto then s.setPlan (planStatus e .notAuto none none [])
  else
    match disturbed, s.allAverages with
    | false, some w =>
      if s.plannerOutstanding then s.setPlan (planStatus e .pending none none [])
      else if s.queueFull then s.setPlan (planStatus e .queueFull none none [])
      else s.planOn e w
    | _, _ => s.setPlan (planStatus e .disturbed none none [])

/-! ### Rescue passes (R59 to R65) -/

/-- The from phase of a rescue candidate (R61). -/
def State.rescueCandidate (s : State) (n : ConnId) : Option Phase :=
  let c := s.conn n
  match c.phase with
  | .on x =>
    if c.present ∧ c.link = .online ∧ s.health x = .lost ∧ c.pin = false ∧ c.hold.isNone ∧ c.recordLink.isNone
        ∧ c.movesToday < 15 then some x
    else none
  | .off | .unknown => none

/-- The load figure of R62. -/
def rescueLoad (c : Conn) : Int := (c.epochLoad.or c.lastLoad).getD 0

/-- The HEALTHY phases other than the candidate's own whose working power plus the load lies within the limit. -/
def State.rescueTargets (s : State) (w : PerPhase Int) (x : Phase) (l : Int) : List Phase :=
  phases.filter fun y => decide (y ≠ x ∧ s.health y = .healthy ∧ |w.get y + l| ≤ (s.params.plim : Int))

/-- The first of the lowest working power (R63). -/
def lowestPower (w : PerPhase Int) : List Phase → Option Phase
  | [] => none
  | y :: ys =>
    match lowestPower w ys with
    | some z => if w.get z < w.get y then some z else some y
    | none => some y

/-- A pass under way. -/
structure Pass where
  state : State
  powers : PerPhase Int
  accepted : Nat
  displaced : Nat
  deferred : Nat
  unplaced : Nat
  stopped : Bool

/-- A placed candidate is handed to the Move Queue (R64): accepted, with a displacement where the queue is full, or
deferred, which stops the pass. -/
def Pass.place (a : Pass) (n : ConnId) (x y : Phase) (l : Int) : Pass :=
  if a.state.queueFull && a.state.youngestPlanner.isNone then { a with deferred := a.deferred + 1, stopped := true }
  else
    { a with
      state := a.state.makeRoom.accept n x y .rescue
      powers := a.powers.set y (a.powers.get y + l)
      accepted := a.accepted + 1
      displaced := a.displaced + (if a.state.queueFull then 1 else 0) }

/-- One connection examined, in ascending number (R61 to R64). -/
def Pass.examine (a : Pass) (n : ConnId) : Pass :=
  match a.state.rescueCandidate n with
  | none => a
  | some x =>
    if a.stopped then { a with deferred := a.deferred + 1 }
    else
      let l := rescueLoad (a.state.conn n)
      match lowestPower a.powers (a.state.rescueTargets a.powers x l) with
      | none => { a with unplaced := a.unplaced + 1 }
      | some y => a.place n x y l

/-- The starting working powers of a pass (R63). -/
def State.passPowers (s : State) : PerPhase Int :=
  ⟨(s.average .A).getD 0, (s.average .B).getD 0, (s.average .C).getD 0⟩

def State.lostSet (s : State) : PerPhase Bool :=
  ⟨s.health .A == .lost, s.health .B == .lost, s.health .C == .lost⟩

/-- A rescue pass, whole (R59 to R65). -/
def State.rescuePass (s : State) (cause : RescueCause) : State :=
  let a := allConns.foldl Pass.examine
    { state := s, powers := s.passPowers, accepted := 0, displaced := 0, deferred := 0, unplaced := 0,
      stopped := false }
  let status : RescueStatus :=
    { cause := cause, epoch := s.tbs.epoch, lost := s.lostSet, accepted := a.accepted, displaced := a.displaced,
      deferred := a.deferred, unplaced := a.unplaced }
  let t := { a.state with bpl := { a.state.bpl with rescue := some status } }
  if a.accepted = 0 then t else t.raise .rescueStarted

/-- Passes are made in AUTO with the rescue parameter ON; otherwise the cause is dropped (R59). -/
def State.rescueAllowed (s : State) : Bool := s.modeName == .auto && s.params.rescue

end Sys2Proof.Machine
end

