-- ==== Sys2Proof/Machine/Feeder.lean ====
section
/-! DEFINITION. The Feeder Measurement Unit and the Time Base (chapter 2): sampling and crossings, cycles and their values,
phase health, the neutral condition, ticks, epochs and SET_TIME. -/

namespace Sys2Proof.Machine

open Sys2Proof

/-! ### Per-cycle values (R30) -/

/-- The greatest r below 2^14 with r² at most x, built from its highest bit down. -/
def isqrtFrom (x : Nat) : List Nat → Nat → Nat
  | [], r => r
  | b :: bs, r => if (r + b) * (r + b) ≤ x then isqrtFrom x bs (r + b) else isqrtFrom x bs r

def isqrt14 (x : Nat) : Nat :=
  isqrtFrom x [8192, 4096, 2048, 1024, 512, 256, 128, 64, 32, 16, 8, 4, 2, 1] 0

/-- RMS of n samples in thousandths, in tenths, truncated, saturated at a cap below 2^14. -/
def rmsTenths (cap sumSq n : Nat) : Nat := min cap (isqrt14 (sumSq / (n * 10000)))

def noSums : Sums := { n := 0, vv := 0, ii := 0, vi := 0 }

def sumsOf (v i : Int) : Sums := { n := 1, vv := v.natAbs * v.natAbs, ii := i.natAbs * i.natAbs, vi := v * i }

def addSums (x y : Sums) : Sums := { n := x.n + y.n, vv := x.vv + y.vv, ii := x.ii + y.ii, vi := x.vi + y.vi }

/-- The values of a completed cycle: RMS voltage up to 400.0 V, RMS current up to 1,500.0 A, mean power within
±250,000 W, each formed, truncated, then saturated. -/
def cycleValues (x : Sums) : CycleValues :=
  { rmsV := rmsTenths 4000 x.vv x.n, rmsI := rmsTenths 15000 x.ii x.n,
    power := clampInt (-250000) 250000 (x.vi.tdiv (x.n * 1000000)) }

/-! ### Health (R32, R33, R34, R35) -/

def Params.restoreCount (p : Params) : Nat := p.restoreTime * p.nominal.hertz

def inBand (p : Params) (rms : Nat) : Bool := decide (p.vLow ≤ rms ∧ rms ≤ p.vHigh)

/-- The runs brought up to date by a completed cycle (R33). -/
def bandRuns (p : Params) (ch : PhaseChannel) (rms : Nat) : PhaseChannel :=
  if inBand p rms then
    { ch with lossRun := 0, outRun := 0, inRun := min p.restoreCount (ch.inRun + 1) }
  else
    { ch with
      inRun := 0, outRun := min 10 (ch.outRun + 1),
      lossRun := if rms < p.vLoss then min 3 (ch.lossRun + 1) else 0 }

/-- The first row of R33's table that applies, the runs being up to date. -/
def nextHealth (p : Params) (ch : PhaseChannel) (rms : Nat) : Health :=
  if ch.health ≠ .lost ∧ ch.lossRun = 3 then .lost
  else if ch.health ≠ .degraded ∧ ch.outRun = 10 ∧ ch.lossRun < 3 then .degraded
  else if (ch.health = .degraded ∨ ch.health = .lost) ∧ inBand p rms then .recovering
  else if ch.health = .recovering ∧ p.restoreCount ≤ ch.inRun then .healthy
  else ch.health

/-- A channel enters a health state: LOST clears two runs, RECOVERING starts the in-band run at 1 (R33). -/
def enterHealth (ch : PhaseChannel) (h : Health) : PhaseChannel :=
  if ch.health = h then ch
  else
    match h with
    | .lost => { ch with health := h, outRun := 0, inRun := 0 }
    | .recovering => { ch with health := h, inRun := 1 }
    | .healthy | .degraded => { ch with health := h }

/-- A completed cycle is evaluated once (R33). -/
def evaluate (p : Params) (ch : PhaseChannel) (rms : Nat) : PhaseChannel :=
  let ch := bandRuns p ch rms
  enterHealth ch (nextHealth p ch rms)

/-- The alignment phase and the neutral reference are worked out again (R31, R110). A change of the reference drops the
neutral window in progress; with all phases LOST windows run from the part's own clock. R31 does not say where they begin:
the first one begins at the instant of the health change that leaves no reference (DESIGN CHOICE, log 42). -/
def State.realign (s : State) : State :=
  let ref := firstNotLost s.fmu.chan
  if ref = s.sbc.alignment then s
  else
    { s with
      sbc := { s.sbc with alignment := ref }
      fmu := { s.fmu with neutral := { s.fmu.neutral with windowStart := if ref.isNone then some s.now else none } } }

/-- The Balancing Planner is told that a started phase has been lost (R35, R59). -/
def State.reportLoss (s : State) : State := if s.rescueAllowed then s.rescuePass .loss else s

/-- A phase enters HEALTHY: started for the first time, or PHASE_RESTORED (R35). -/
def State.enteredHealthy (s : State) (p : Phase) : State :=
  if (s.chan p).started then s.raise .phaseRestored else s.setChan p { s.chan p with started := true }

/-- A change of a phase's health from an old state is handed on at once (R35): the disturbed flag, the loss report, the
events, the alignment, the slots. The summary and the conditions follow at the end of the operation. -/
def State.healthChanged (s : State) (p : Phase) (old : Health) : State :=
  if s.health p = old then s
  else
    let s := if old = .healthy then s.disturb else s
    let s := if s.health p = .lost ∧ (s.chan p).started then s.reportLoss else s
    let s := if s.health p = .healthy then s.enteredHealthy p else s
    s.realign.recheckSlots

/-! ### Cycles (R27, R28, R29) -/

/-- A completed cycle forms its values, is accumulated and is evaluated for health (R29, R30, R40). -/
def State.completeCycle (s : State) (p : Phase) (x : Sums) : State :=
  let ch := s.chan p
  let v := cycleValues x
  let ch' := { ch with latest := some v, accSum := ch.accSum + v.power, accCount := ch.accCount + 1 }
  (s.setChan p (evaluate s.params ch' v.rmsV)).healthChanged p ch.health

def State.setNeutral (s : State) (n : Neutral) : State := { s with fmu := { s.fmu with neutral := n } }

/-- The neutral window of the reference ends with its cycle: complete when the cycle is, with as many samples as the cycle
has sample pairs, and dropped when the cycle is discarded (R31). -/
def State.closeNeutralWindow (s : State) (p : Phase) (completed : Option OpenCycle) : State :=
  match completed with
  | some c =>
    if firstNotLost s.fmu.chan = some p ∧ s.fmu.neutral.windowStart.isSome then
      s.setNeutral { s.fmu.neutral with windowReady := true, windowCount := c.sums.n }
    else s
  | none => s

/-- A crossing of the reference opens a neutral window at its place. So does a crossing that makes its own phase the
reference, its cycle's first three sample intervals having passed before the change: R31 does not say whether this
cycle is already the first complete window of the new reference, and the model takes it as one (DESIGN CHOICE, log 40). -/
def State.openNeutralWindow (s : State) (p : Phase) (place : Nat) : State :=
  if firstNotLost s.fmu.chan = some p then s.setNeutral { s.fmu.neutral with windowStart := some place } else s

/-- An accepted positive-going crossing is reported to the SBC: one of the alignment phase makes a boundary due when at
least half a nominal period, the one in force for the frame (R111), has passed since the last (R28, R109). -/
def State.reportCrossing (s : State) (p : Phase) : State :=
  if s.sbc.alignment = some p ∧ s.sbc.framePeriod ≤ 2 * (s.now - s.sbc.boundaryAt) then
    { s with sbc := { s.sbc with boundaryDue := true } }
  else s

/-- The cycle that a crossing at a place completes: one at least half the nominal period long (R29). -/
def completedCycle (period : Nat) (c : Option OpenCycle) (place : Nat) : Option OpenCycle :=
  match c with
  | some c => if period ≤ 2 * (place - c.start) then some c else none
  | none => none

/-- The sample interval set at a crossing (R27). -/
def intervalAfter (period : Nat) (c : Option OpenCycle) (place : Nat) : Nat :=
  match completedCycle period c place with
  | some c => (place - c.start) / 128
  | none => period / 128

/-- An accepted positive-going crossing, placed at the first of its four samples, whose sums open the next cycle. A
completed cycle of the reference that at this crossing takes its own phase LOST still serves as a neutral window, which is
made ready before health is evaluated: R31 gives no order (DESIGN CHOICE, log 14). -/
def State.positiveCrossing (s : State) (p : Phase) (place : Nat) (sums : Sums) : State :=
  let ch := s.chan p
  let done := completedCycle s.period ch.cycle place
  let s := s.closeNeutralWindow p done
  let s := s.setChan p
    { ch with
      interval := intervalAfter s.period ch.cycle place, fallback := done.isNone,
      cycle := some { start := place, sums := sums },
      lastCrossing := place, noCrossing := false }
  let s :=
    match done with
    | some c => s.completeCycle p c.sums
    | none => s
  (s.openNeutralWindow p place).reportCrossing p

/-- Samples added to the cycle in progress, if one is. -/
def addToCycle (c : Option OpenCycle) (x : Sums) : Option OpenCycle :=
  match c with
  | some c => some { c with sums := addSums c.sums x }
  | none => none

/-- One sample pair through the glitch filter (R28). -/
def State.takeSample (s : State) (p : Phase) (v i : Int) : State :=
  let ch := s.chan p
  let t := ch.sampledAt + ch.interval
  let pos := decide (0 < v)
  let x := sumsOf v i
  let s := s.atInstant t
  let ch := { ch with sampledAt := t, lastSign := some pos }
  match ch.sign with
  | none =>
    let run := if (s.chan p).lastSign = some pos then ch.run + 1 else 1
    if 4 ≤ run then s.setChan p { ch with sign := some pos, run := 0 } else s.setChan p { ch with run := run }
  | some sign =>
    if pos = sign then
      s.setChan p { ch with run := 0, runSums := noSums, cycle := addToCycle ch.cycle (addSums ch.runSums x) }
    else
      let place := if ch.run = 0 then t else ch.runPlace
      let sums := if ch.run = 0 then x else addSums ch.runSums x
      if 4 ≤ ch.run + 1 then
        let ch := { ch with sign := some pos, run := 0, runSums := noSums }
        if pos then (s.setChan p ch).positiveCrossing p place sums
        else s.setChan p { ch with cycle := addToCycle ch.cycle sums }
      else s.setChan p { ch with run := ch.run + 1, runPlace := place, runSums := sums }

/-- SAMPLE_PAIR (R28). -/
def execSamplePair (p : Phase) (milliVolts milliAmps : Int) (s : State) : Host.Outcome State Fault Refusal :=
  .next (s.takeSample p milliVolts milliAmps).settle

/-- ACCEPTED_CROSSING (R28): the sample pair that accepts the crossing. -/
def execAcceptedCrossing (p : Phase) (milliVolts milliAmps : Int) (s : State) : Host.Outcome State Fault Refusal :=
  .next (s.takeSample p milliVolts milliAmps).settle

/-- The channel when the no-crossing condition begins (R34): the cycle abandoned, a phase not LOST made LOST with all
three runs 0. -/
def lossOfCrossings (ch : PhaseChannel) : PhaseChannel :=
  let ch := { ch with noCrossing := true, cycle := none }
  if ch.health = .lost then ch else { ch with health := .lost, lossRun := 0, outRun := 0, inRun := 0 }

/-- NO_CROSSING_LOSS (R34): two nominal periods after the last accepted positive-going crossing, or power-on. -/
def execNoCrossingLoss (p : Phase) (s : State) : Host.Outcome State Fault Refusal :=
  let ch := s.chan p
  if ch.noCrossing then .next s.settle
  else
    .next ((((s.atInstant (ch.lastCrossing + 2 * s.period)).setChan p (lossOfCrossings ch)).healthChanged p
      ch.health).settle)

/-! ### The neutral condition (R31) -/

def neutralRms (samples : List Int) : Nat :=
  rmsTenths 15000 (samples.map fun i => i.natAbs * i.natAbs).sum samples.length

/-- 90 % of the neutral limit, truncated to 0.1 A. -/
def clearLevel (limit : Nat) : Nat := limit * 9 / 10

/-- The runs and the condition at the end of a window. -/
def neutralStep (limit : Nat) (n : Neutral) (rms : Nat) : Neutral :=
  let n := { n with latest := some rms }
  if n.overcurrent then
    let run := if rms < clearLevel limit then n.underRun + 1 else 0
    if 50 ≤ run then { n with overcurrent := false, overRun := 0, underRun := 0 } else { n with underRun := run }
  else
    let run := if limit < rms then n.overRun + 1 else 0
    if 50 ≤ run then { n with overcurrent := true, overRun := 0, underRun := 0 } else { n with overRun := run }

/-- A window is evaluated; a condition that becomes set asserts NEUTRAL_OC (R31, R152). -/
def State.neutralWindow (s : State) (rms : Nat) : State :=
  let was := s.fmu.neutral.overcurrent
  let s := s.setNeutral (neutralStep s.params.neutralLimit s.fmu.neutral rms)
  if s.fmu.neutral.overcurrent && !was then s.haltEvent .neutralOc else s

/-- How many samples the window at its end holds (R31): for a complete window of the reference phase, sampled at that
phase's sample interval, one for each sample pair of the cycle; with all phases LOST 128, at a 128th of the nominal period.
None when no window is at its end. -/
def State.windowLength (s : State) : Option Nat :=
  if s.fmu.neutral.windowReady then some s.fmu.neutral.windowCount
  else if (firstNotLost s.fmu.chan).isNone then some 128
  else none

/-- The window at its end is taken: the ready one of the reference phase, or with all phases LOST one nominal period of
the part's own clock, at whose end the next begins. -/
def State.takeWindow (s : State) : State :=
  let n := s.fmu.neutral
  if n.windowReady then s.setNeutral { n with windowReady := false }
  else
    let t := n.windowStart.getD s.now + s.period
    (s.atInstant t).setNeutral { n with windowStart := some t }

/-- NEUTRAL_WINDOW_END (R31): it carries the samples of the window at its end. Any other number of samples is no window of
this state and changes nothing (log 6, log 14). -/
def execNeutralWindowEnd (samples : List Int) (s : State) : Host.Outcome State Fault Refusal :=
  if s.windowLength = some samples.length then
    .next (s.takeWindow.neutralWindow (neutralRms samples)).settle
  else .next s.settle

/-! ### Epochs (R39, R40, R41) -/

/-- An epoch average: the sum divided by the count, truncated; absent with no cycle (R40). -/
def averageOf (ch : PhaseChannel) : Option Int := if ch.accCount = 0 then none else some (ch.accSum.tdiv ch.accCount)

def clearAccumulator (ch : PhaseChannel) : PhaseChannel := { ch with accSum := 0, accCount := 0 }

def State.clearAccumulators (s : State) : State :=
  { s with fmu := { s.fmu with chan := s.fmu.chan.map clearAccumulator } }

/-- Some phase is short of HEALTHY. -/
def State.shortOfHealthy (s : State) : Bool := phases.any fun p => s.health p != .healthy

/-- The FMU closes its accumulators into the averages of the running epoch and starts the flag of the new one (R40,
R41). -/
def State.closeAverages (s : State) : State :=
  let t := s.clearAccumulators
  { t with fmu := { t.fmu with
      averages := some { epoch := s.tbs.epoch, avg := s.fmu.chan.map averageOf }
      disturbed := s.shortOfHealthy } }

/-- The epoch number rises and the pending length comes into effect (R39 step 3). -/
def State.advanceEpoch (s : State) : State :=
  { s with tbs := { s.tbs with
      epoch := s.tbs.epoch + 1, epochLength := s.tbs.pendingLength, endDue := false } }

/-- The rescue pass of an epoch end, when a phase is LOST then (R59). -/
def State.epochRescue (s : State) : State :=
  if s.rescueAllowed && phases.any fun p => s.health p == .lost then s.rescuePass .epochEnd else s

/-- The signal of the ended epoch to the planner and the queue, expiry at its place (R39 step 2, R44, R59, R75). -/
def State.signalEnd (s : State) (e : Word) (disturbed : Bool) (place : ExpiryPlace) : State :=
  match place with
  | .beforeRun => ((s.expireQueued e).plannerRun e disturbed).epochRescue
  | .afterRun => ((s.plannerRun e disturbed).expireQueued e).epochRescue
  | .afterPass => ((s.plannerRun e disturbed).epochRescue).expireQueued e

/-- The running epoch ends (R39). What the signal's work records is the number of the epoch that begins, so the number
is raised before that work. -/
def State.endEpoch (s : State) : State :=
  let t := s.closeAverages.closeLoads.advanceEpoch
  State.signalEnd { t with free := s.free + 1 } s.tbs.epoch s.fmu.disturbed (Config.expiryPlace s.free)

/-- An epoch end the last tick made and that has not been taken yet (log 9). -/
def State.takeOwedEnd (s : State) : State := if s.tbs.endDue then s.endEpoch else s

/-- EPOCH_END (R39): the tick just taken brought time-of-day to a multiple of the epoch length. -/
def execEpochEnd (s : State) : Host.Outcome State Fault Refusal := .next s.takeOwedEnd.settle

/-! ### The clock of the day (R37, R42) -/

/-- The day rollover (R37, R25). -/
def State.rollDay (s : State) : State :=
  State.raise { s with
    tbs := { s.tbs with timeOfDay := 0, day := s.tbs.day + 1 }, conns := mapAll clearDaily s.conns } .dayRollover

/-- Time-of-day passes to the next second (R37). -/
def State.nextSecond (s : State) : State :=
  if 86399 ≤ s.tbs.timeOfDay then s.rollDay
  else { s with tbs := { s.tbs with timeOfDay := s.tbs.timeOfDay + 1 } }

/-- The tick brought time-of-day to a multiple of the epoch length: its epoch end is due (R39). -/
def State.markEnd (s : State) : State :=
  if s.tbs.timeOfDay % s.tbs.epochLength = 0 then { s with tbs := { s.tbs with endDue := true } } else s

/-- One tick, one second after the last (R37). -/
def State.tick (s : State) : State :=
  let s := s.takeOwedEnd
  let t := s.tbs.tickAt + Config.ticksPerSecond
  let s := s.atInstant t
  (State.nextSecond { s with tbs := { s.tbs with tickAt := t } }).markEnd

/-- SECOND_TICK (R37). -/
def execSecondTick (s : State) : Host.Outcome State Fault Refusal := .next s.tick.settle

/-- DAY_ROLLOVER (R37): the tick that takes time-of-day from 86,399 to 0. -/
def execDayRollover (s : State) : Host.Outcome State Fault Refusal :=
  if 86399 ≤ s.tbs.timeOfDay then .next s.tick.settle else .next s.settle

/-- SET_TIME (R42): the running epoch ends disturbed, the written time stands, the tick restarts, the new epoch is
disturbed. -/
def State.setTime (s : State) (timeOfDay : Nat) (day : Half) : State :=
  let s := s.takeOwedEnd.disturb.endEpoch
  State.disturb { s with tbs := { s.tbs with timeOfDay := timeOfDay, day := day, tickAt := s.now } }

def doSetTime (lk : Link) (payload : List Byte) (s : State) : Answered :=
  controlled lk (argTime payload) (fun a s => okWith [] (s.setTime a.1 a.2)) s

def execSetTime (lk : Link) (tag : Byte) (payload : List Byte) (s : State) : Host.Outcome State Fault Refusal :=
  .next (takeRequest lk Command.setTime.code tag (doSetTime lk payload) s).settle

end Sys2Proof.Machine
end

