-- ==== Sys2Proof/Machine/Modes.lean ====
section
/-! DEFINITION. The mode commands and RESTART (chapter 9). Halts, the supply warning and the key, which change the mode
from inside, are in Interlock.lean. -/

namespace Sys2Proof.Machine

open Sys2Proof

/-! ### The mode check (R166) -/

def startGate (s : State) : Option Status :=
  match s.modeName with
  | .config => none
  | .manual | .auto | .halted | .rideThrough => some .wrongMode

def autoOnGate (s : State) : Option Status :=
  match s.modeName with
  | .manual | .auto => none
  | .halted => some .haltActive
  | .config | .rideThrough => some .wrongMode

def autoOffGate (s : State) : Option Status :=
  match s.modeName with
  | .manual | .auto => none
  | .config | .halted | .rideThrough => some .wrongMode

def configureGate (s : State) : Option Status :=
  match s.modeName with
  | .config | .manual | .auto => none
  | .halted | .rideThrough => some .wrongMode

def resumeGate (s : State) : Option Status :=
  match s.modeName with
  | .halted => none
  | .config | .manual | .auto | .rideThrough => some .wrongMode

/-! ### START, AUTO_ON, AUTO_OFF, CONFIGURE, RESUME (R167 to R170)

AUTO_ON in AUTO, AUTO_OFF in MANUAL and CONFIGURE in CONFIG are answered OK, unchanged (R166). -/

/-- The halt record is emptied (R157). -/
def State.emptyHaltRecord (s : State) : State := { s with ilu := { s.ilu with haltRecord := [] } }

/-- Some present connection has link state UNSEEN (R167). -/
def State.someUnseen (s : State) : Bool := s.conns.toList.any fun c => c.present && c.link == .unseen

def doStart (lk : Link) (payload : List Byte) (s : State) : Answered :=
  gated lk startGate (argNone payload)
    (fun _ s =>
      if s.haltActive then refuse .haltActive s
      else if s.someUnseen then refuse .notReady s
      else okWith [] (s.emptyHaltRecord.enterMode .manual)) s

def execStart (lk : Link) (tag : Byte) (payload : List Byte) (s : State) : Host.Outcome State Fault Refusal :=
  .next (takeRequest lk Command.start.code tag (doStart lk payload) s).settle

def doAutoOn (lk : Link) (payload : List Byte) (s : State) : Answered :=
  gated lk autoOnGate (argNone payload) (fun _ s => okWith [] (if s.modeName = .auto then s else s.enterMode .auto)) s

def execAutoOn (lk : Link) (tag : Byte) (payload : List Byte) (s : State) : Host.Outcome State Fault Refusal :=
  .next (takeRequest lk Command.autoOn.code tag (doAutoOn lk payload) s).settle

def doAutoOff (lk : Link) (payload : List Byte) (s : State) : Answered :=
  gated lk autoOffGate (argNone payload) (fun _ s => okWith [] (if s.modeName = .manual then s else s.enterMode .manual)) s

def execAutoOff (lk : Link) (tag : Byte) (payload : List Byte) (s : State) : Host.Outcome State Fault Refusal :=
  .next (takeRequest lk Command.autoOff.code tag (doAutoOff lk payload) s).settle

def doConfigure (lk : Link) (payload : List Byte) (s : State) : Answered :=
  gated lk configureGate (argNone payload)
    (fun _ s =>
      if s.modeName = .config then okWith [] s
      else if s.mvq.queue.isEmpty && s.slotsEmpty then okWith [] (s.setMode (.base .config))
      else refuse .busy s) s

def execConfigure (lk : Link) (tag : Byte) (payload : List Byte) (s : State) : Host.Outcome State Fault Refusal :=
  .next (takeRequest lk Command.configure.code tag (doConfigure lk payload) s).settle

def doResume (lk : Link) (payload : List Byte) (s : State) : Answered :=
  gated lk resumeGate (argNone payload)
    (fun _ s =>
      if s.haltActive then refuse .haltActive s else okWith [] (s.emptyHaltRecord.enterMode .manual)) s

def execResume (lk : Link) (tag : Byte) (payload : List Byte) (s : State) : Host.Outcome State Fault Refusal :=
  .next (takeRequest lk Command.resume.code tag (doResume lk payload) s).settle

/-! ### RESTART (R173) -/

/-- The link of a query is answered BUSY, once (R118). -/
def State.answerBusy (s : State) (q : Query) : State :=
  if q.answered then s else s.setReply q.link [Status.busy.code]

/-- RESTART acts on the pass-through pending list (R118): WAITING entries leave, ON_BUS entries stay answered. -/
def State.restartQueries (s : State) : State :=
  let t := s.sbc.queries.foldl State.answerBusy s
  { t with sbc := { t.sbc with
      queries := (s.sbc.queries.filter (·.onBus)).map fun q => { q with answered := true } } }

/-- RESTART's part of the SBC's probes (R120): last probe frames cleared, position 0. -/
def State.clearProbes (s : State) : State :=
  { s with sbc := { s.sbc with probePos := 0, lastProbe := Vector.replicate 96 none } }

/-- A fresh start of the supply warning, when it is WARNING or CLEARING (R159, R173 step 7). -/
def State.freshSupplyStart (s : State) : State :=
  match s.ilu.supply with
  | .clear => s
  | .warning | .clearing _ => s.supplyStart

/-- Steps 1 to 8 of R173. -/
def State.restart (s : State) : State :=
  let s := ((s.setMode (.base .config)).abandonSlots).endAllQueued .abandoned
  let s := State.clearProbes { s with conns := mapAll restartConn s.conns }
  let s := s.clearAccumulators.disturb
  let s := State.restartQueries { s with bpl := { plan := none, rescue := none } }
  s.freshSupplyStart.raise .restarted

def doRestart (lk : Link) (payload : List Byte) (s : State) : Answered :=
  controlled lk (argNone payload) (fun _ s => okWith [] s.restart) s

def execRestart (lk : Link) (tag : Byte) (payload : List Byte) (s : State) : Host.Outcome State Fault Refusal :=
  .next (takeRequest lk Command.restart.code tag (doRestart lk payload) s).settle

end Sys2Proof.Machine
end

