-- ==== Sys2Proof/Machine/Parameters.lean ====
section
/-! DEFINITION. Parameters (R183, R184) and timing classes (R131, R132): GET_PARAM, SET_PARAM, SET_CLASS. -/

namespace Sys2Proof.Machine

open Sys2Proof

/-- The parameters of R184; the three input parameters have an index. -/
inductive Param where
  | nominal | epochLength | vLow | vHigh | vLoss | restoreTime | neutralLimit | chatterLimit | chatterHold | wtrig
  | wmin | plim | kmax | restPeriod | rescue | readyLevel | chargeTimeout
  | polarity (i : InputLine)
  | inputType (i : InputLine)
  | debounce (i : InputLine)
  | haltMask | alertMask | lampMask
deriving DecidableEq, Repr

/-- The parameter of a number and an index; none for a number not in the table, or an index outside 0 to 6 for an input
parameter. The index is ignored for the others (R183). -/
def paramOf? (number index : Nat) : Option Param :=
  match number with
  | 0x01 => some .nominal
  | 0x02 => some .epochLength
  | 0x03 => some .vLow
  | 0x04 => some .vHigh
  | 0x05 => some .vLoss
  | 0x06 => some .restoreTime
  | 0x07 => some .neutralLimit
  | 0x08 => some .chatterLimit
  | 0x09 => some .chatterHold
  | 0x0A => some .wtrig
  | 0x0B => some .wmin
  | 0x0C => some .plim
  | 0x0D => some .kmax
  | 0x0E => some .restPeriod
  | 0x0F => some .rescue
  | 0x10 => some .readyLevel
  | 0x11 => some .chargeTimeout
  | 0x12 => (inputOfNumber? index).map .polarity
  | 0x13 => (inputOfNumber? index).map .inputType
  | 0x14 => (inputOfNumber? index).map .debounce
  | 0x15 => some .haltMask
  | 0x16 => some .alertMask
  | 0x17 => some .lampMask
  | _ => none

/-- The one CONFIG-only parameter (R184). -/
def Param.configOnly (p : Param) : Bool := p == .nominal

def codeOf (b : Bool) : Int := if b then 1 else 0

/-- The stored value on the wire (R183); for the epoch length the pending length. -/
def State.stored (s : State) : Param → Int
  | .nominal => s.params.nominal.hertz
  | .epochLength => s.tbs.pendingLength
  | .vLow => s.params.vLow
  | .vHigh => s.params.vHigh
  | .vLoss => s.params.vLoss
  | .restoreTime => s.params.restoreTime
  | .neutralLimit => s.params.neutralLimit
  | .chatterLimit => s.params.chatterLimit
  | .chatterHold => codeOf s.params.chatterHold
  | .wtrig => s.params.wtrig
  | .wmin => s.params.wmin
  | .plim => s.params.plim
  | .kmax => s.params.kmax
  | .restPeriod => s.params.restPeriod
  | .rescue => codeOf s.params.rescue
  | .readyLevel => s.params.readyLevel
  | .chargeTimeout => s.params.chargeTimeout
  | .polarity i => codeOf (s.input i).polarityHigh
  | .inputType i => codeOf (s.input i).level
  | .debounce i => (s.input i).debounce
  | .haltMask => s.params.haltMask.toNat
  | .alertMask => s.params.alertMask.toNat
  | .lampMask => s.params.lampMask.toNat

/-! ### Values (R183) -/

/-- A numeric value clamped to its range, a negative one to the bottom. -/
def clampValue (lo hi : Nat) (v : Int) : Nat := clampNat lo hi v.toNat

/-- A value of a two-member enumeration. -/
def yesNoValue? (v : Int) : Option Bool := if v = 0 then some false else if v = 1 then some true else none

def nominalOf? (v : Int) : Option Nominal := if v = 50 then some .hz50 else if v = 60 then some .hz60 else none

/-- The member of an ascending set that a value rounds down to; the lowest for a value below it. -/
def roundDown (lowest : Nat) (members : List Nat) (v : Int) : Nat :=
  members.foldl (fun (a m : Nat) => if (m : Int) ≤ v then m else a) lowest

/-- The members of R38. -/
def epochLengths : List Nat := [10, 15, 20, 30, 60, 120, 180, 300, 600]

/-- The members of R150. -/
def debounceTimes : List Nat := [0, 20, 100, 500]

def State.setParams (s : State) (p : Params) : State := { s with params := p }

/-- A type is written (R150): from EDGE to LEVEL the status takes the debounced level at once. -/
def State.writeType (s : State) (i : InputLine) (level : Bool) : State :=
  let was := (s.input i).level
  let s := s.setInput i { s.input i with level := level }
  if level && !was then s.setStatus i (s.input i).debounced else s

/-- The neutral limit is written: both runs become 0 (R31). -/
def State.writeNeutralLimit (s : State) (v : Nat) : State :=
  { s with
    params := { s.params with neutralLimit := v }
    fmu := { s.fmu with neutral := { s.fmu.neutral with overRun := 0, underRun := 0 } } }

/-- The nominal frequency is written: at once for every figure derived from it, the fallback sample interval of a channel
that samples at it among them; cycles in progress go on (R27). The frame keeps its period up to the next boundary (R111). -/
def State.writeNominal (s : State) (x : Nominal) : State :=
  { s with
    params := { s.params with nominal := x }
    fmu := { s.fmu with chan := s.fmu.chan.map fun ch =>
      if ch.fallback then { ch with interval := x.period / 128 } else ch } }

/-- A value is written to a parameter; none where it is refused BAD_ARG (R183, R184). -/
def State.writeParam (s : State) (p : Param) (v : Int) : Option State :=
  match p with
  | .nominal => (nominalOf? v).map s.writeNominal
  | .epochLength => some { s with tbs := { s.tbs with pendingLength := roundDown 10 epochLengths v } }
  | .vLow => some (s.setParams { s.params with vLow := clampValue 1960 2300 v })
  | .vHigh => some (s.setParams { s.params with vHigh := clampValue 2300 2650 v })
  | .vLoss => some (s.setParams { s.params with vLoss := clampValue 500 1800 v })
  | .restoreTime => some (s.setParams { s.params with restoreTime := clampValue 1 60 v })
  | .neutralLimit => some (s.writeNeutralLimit (clampValue 100 10000 v))
  | .chatterLimit => some (s.setParams { s.params with chatterLimit := clampValue 1 15 v })
  | .chatterHold => (yesNoValue? v).map fun x => s.setParams { s.params with chatterHold := x }
  | .wtrig => some (s.setParams { s.params with wtrig := clampValue 0 100000 v })
  | .wmin => some (s.setParams { s.params with wmin := clampValue 0 100000 v })
  | .plim => some (s.setParams { s.params with plim := clampValue 1000 250000 v })
  | .kmax => some (s.setParams { s.params with kmax := clampValue 1 4 v })
  | .restPeriod => some (s.setParams { s.params with restPeriod := clampValue 0 255 v })
  | .rescue => (yesNoValue? v).map fun x => s.setParams { s.params with rescue := x }
  | .readyLevel => some (s.setParams { s.params with readyLevel := clampValue 240 900 v })
  | .chargeTimeout => some (s.setParams { s.params with chargeTimeout := clampValue 1 30 v })
  | .polarity i => (yesNoValue? v).map fun x => s.setInput i { s.input i with polarityHigh := x }
  | .inputType .keyLocal => some (s.writeType .keyLocal true)
  | .inputType .supplyWarn => some (s.writeType .supplyWarn true)
  | .inputType i => (yesNoValue? v).map fun x => s.writeType i x
  | .debounce i => some (s.setInput i { s.input i with debounce := roundDown 0 debounceTimes v })
  | .haltMask => some (s.setParams { s.params with haltMask := BitVec.ofInt 8 v })
  | .alertMask => some (s.setParams { s.params with alertMask := BitVec.ofInt 16 v })
  | .lampMask => some (s.setParams { s.params with lampMask := BitVec.ofInt 16 v })

/-! ### GET_PARAM and SET_PARAM -/

/-- The reply payload of both commands (R188). -/
def State.paramReply (s : State) (number index : Byte) (p : Param) : List Byte :=
  [number, index] ++ i32 (s.stored p)

def doGetParam (payload : List Byte) (s : State) : Answered :=
  match argGetParam payload with
  | some (n, i) =>
    match paramOf? n.toNat i.toNat with
    | some p => okWith (s.paramReply n i p) s
    | none => refuse .badArg s
  | none => refuse .badArg s

def execGetParam (lk : Link) (tag : Byte) (payload : List Byte) (s : State) : Host.Outcome State Fault Refusal :=
  .next (takeRequest lk Command.getParam.code tag (doGetParam payload) s).settle

/-- The parameter a request names by its first two bytes. -/
def argParam : List Byte → Option Param
  | n :: i :: _ => paramOf? n.toNat i.toNat
  | _ => none

/-- The value of a request is checked and stored, and the stored value is echoed. -/
def storeValue (payload : List Byte) (p : Param) (s : State) : Answered :=
  match argSetParam payload with
  | some (n, i, v) =>
    match s.writeParam p v with
    | some t => okWith (t.paramReply n i p) t
    | none => refuse .badArg s
  | none => refuse .badArg s

/-- SET_PARAM (R183): authority, parameter number and index, CONFIG-only gate, then the value (log 19). -/
def doSetParam (lk : Link) (payload : List Byte) (s : State) : Answered :=
  controlled lk (argParam payload)
    (fun p s =>
      if p.configOnly ∧ s.modeName ≠ .config then refuse .wrongMode s else storeValue payload p s) s

def execSetParam (lk : Link) (tag : Byte) (payload : List Byte) (s : State) : Host.Outcome State Fault Refusal :=
  .next (takeRequest lk Command.setParam.code tag (doSetParam lk payload) s).settle

/-! ### SET_CLASS (R131, R132) -/

/-- Each field clamped to its range, the orphan time first, and the gap then to at most the orphan time less 300 ms. -/
def clampClass (c : TimingClass) : TimingClass :=
  let orphan := clampNat 500 5000 c.orphan
  { breakPulse := clampNat 5 100 c.breakPulse, makePulse := clampNat 5 100 c.makePulse,
    settle := clampNat 1 10 c.settle, recovery := clampNat 2 100 c.recovery,
    gap := min (clampNat 20 1000 c.gap) (orphan - 300), orphan := orphan }

def classBytes (k : Fin 4) (c : TimingClass) : List Byte :=
  u8 k.val ++ u16 c.breakPulse ++ u16 c.makePulse ++ u8 c.settle ++ u8 c.recovery ++ u16 c.gap ++ u16 c.orphan

def State.setClass (s : State) (k : Fin 4) (c : TimingClass) : State := { s with classes := s.classes.set k c }

def doSetClass (lk : Link) (payload : List Byte) (s : State) : Answered :=
  gated lk configGate (argClass payload)
    (fun a s => okWith (classBytes a.1 (clampClass a.2)) (s.setClass a.1 (clampClass a.2))) s

def execSetClass (lk : Link) (tag : Byte) (payload : List Byte) (s : State) : Host.Outcome State Fault Refusal :=
  .next (takeRequest lk Command.setClass.code tag (doSetClass lk payload) s).settle

end Sys2Proof.Machine
end

