-- ==== Sys2Proof/Machine/Reads.lean ====
section
/-! DEFINITION. The read commands: their replies, byte by byte (R187, R188). None changes anything but the answer state of
its port. -/

namespace Sys2Proof.Machine

open Sys2Proof

/-- A packed byte. -/
def packed (n : Nat) : List Byte := [BitVec.ofNat 8 n]

def zeros (n : Nat) : List Byte := List.replicate n 0

/-! ### STATUS -/

/-- Recovery count and recovery frames (P) [1, 1]; slot and kind of the current grant (P) [1, 1]. -/
def grantFields : StoreState → List Byte
  | .recovery count g => 1 :: u8 count ++ u8 g.recovery ++ 1 :: u8 g.slot.val ++ u8 (ActKind.code g.kind)
  | .charging _ _ | .ready | .fault => zeros 6

/-- Occupied slots as a count (log 18). -/
def State.occupiedCount (s : State) : Nat := allSlots.countP fun k => (s.slot k).isSome

def statusReply (s : State) : List Byte :=
  u8 (ModeName.code s.modeName) ++ u8 (savedModeCode s.mdc.mode) ++ flag s.keyLocal ++ u8 s.mvq.queue.length
    ++ u8 s.occupiedCount ++ u8 (StoreName.code s.esm.store.name) ++ u16 s.esm.voltage ++ presentU16 s.chargeTimer
    ++ grantFields s.esm.store ++ u32 s.tbs.timeOfDay ++ be16 s.tbs.day ++ be32 s.tbs.epoch ++ u16 s.tbs.epochLength
    ++ be16 s.mvq.seqCounter ++ be32 s.sbc.frame ++ flag s.haltActive

def execStatus (lk : Link) (tag : Byte) (payload : List Byte) (s : State) : Host.Outcome State Fault Refusal :=
  .next (takeRequest lk Command.status.code tag (readWith (argNone payload) fun _ s => statusReply s) s).settle

/-! ### READ_CONN and READ_TABLE (R182, R187) -/

/-- Epochs since the last move, saturating at 65,535; 0 when absent. -/
def epochsSince (current : Word) : Option Word → Nat
  | some m => min 65535 (current - m).toNat
  | none => 0

/-- The connection entry of R187. -/
def connEntry (s : State) (n : ConnId) : List Byte :=
  let c := s.conn n
  u8 (connNumber n)
    ++ packed (128 * c.present.toNat + 32 * c.timing.val + 8 * LinkState.code c.link + Confirmed.code c.phase)
    ++ packed (128 * c.dark.toNat + 64 * c.pin.toNat + 16 * holdCode c.hold + 8 * c.fault.toNat + 4 * c.localOp.toNat
        + c.missedRun)
    ++ [c.expected] ++ packed (16 * c.movesToday + c.uncommanded)
    ++ packed (16 * c.allowance + 8 * c.recordLink.isSome.toNat + 4 * c.lastMove.isSome.toNat)
    ++ loadField c.lastLoad ++ loadField c.epochLoad ++ be16 (c.recordLink.getD 0)
    ++ u16 (epochsSince s.tbs.epoch c.lastMove)

def connReply (n : ConnId) (s : State) : List Byte := connEntry s n ++ be32 ((s.conn n).lastMove.getD 0)

def execReadConn (lk : Link) (tag : Byte) (payload : List Byte) (s : State) : Host.Outcome State Fault Refusal :=
  .next (takeRequest lk Command.readConn.code tag (readWith (argConn payload) connReply) s).settle

/-- Records from a start number upward, up to a count or record 96. -/
def tableReply (a : ConnId × Nat) (s : State) : List Byte :=
  let ns := (allConns.drop a.1.val).take a.2
  u8 ns.length ++ ns.flatMap (connEntry s)

def execReadTable (lk : Link) (tag : Byte) (payload : List Byte) (s : State) : Host.Outcome State Fault Refusal :=
  .next (takeRequest lk Command.readTable.code tag (readWith (argTable payload) tableReply) s).settle

/-! ### READ_PHASES -/

/-- One phase; absent per-cycle values are shown as 0, 0 and the mark of an absent power (log 16). -/
def phaseReply (s : State) (p : Phase) : List Byte :=
  let ch := s.chan p
  u8 (Health.code ch.health) ++ flag ch.started ++ flag ch.latest.isSome
    ++ u16 ((ch.latest.map (·.rmsV)).getD 0) ++ u16 ((ch.latest.map (·.rmsI)).getD 0)
    ++ powerField (ch.latest.map (·.power)) ++ powerField (s.average p)

/-- A "(P)" field of a 32-bit number. -/
def presentWord : Option Word → List Byte
  | some w => 1 :: be32 w
  | none => zeros 5

def phasesReply (s : State) : List Byte :=
  phases.flatMap (phaseReply s) ++ presentU16 s.fmu.neutral.latest ++ flag s.fmu.neutral.overcurrent
    ++ presentWord (s.fmu.averages.map (·.epoch))

def execReadPhases (lk : Link) (tag : Byte) (payload : List Byte) (s : State) : Host.Outcome State Fault Refusal :=
  .next (takeRequest lk Command.readPhases.code tag (readWith (argNone payload) fun _ s => phasesReply s) s).settle

/-! ### READ_PLAN -/

def planEntryBytes (e : PlanEntry) : List Byte :=
  u8 (connNumber e.conn) ++ u8 (Phase.code e.source) ++ u8 (Phase.code e.target) ++ i32 e.gain

/-- A list in a number of places of a width; unused places are zero (R185). -/
def inPlaces (places width : Nat) (entries : List (List Byte)) : List Byte :=
  entries.flatten ++ zeros ((places - entries.length) * width)

/-- The planner status record; all zero when absent (log 17). -/
def planBytes : Option PlanStatus → List Byte
  | some p =>
    1 :: be32 p.epoch ++ u8 (PlanOutcome.code p.outcome) ++ presentI32 p.before ++ presentI32 p.after
      ++ u8 p.entries.length ++ inPlaces 4 7 (p.entries.map planEntryBytes)
  | none => zeros 45

/-- The rescue status record; all zero when absent (log 17). -/
def rescueBytes : Option RescueStatus → List Byte
  | some r =>
    1 :: u8 (RescueCause.code r.cause) ++ be32 r.epoch ++ u8 (phaseSet r.lost) ++ u8 r.accepted ++ u8 r.displaced
      ++ u8 r.deferred ++ u8 r.unplaced
  | none => zeros 11

def planReply (s : State) : List Byte := planBytes s.bpl.plan ++ rescueBytes s.bpl.rescue

def execReadPlan (lk : Link) (tag : Byte) (payload : List Byte) (s : State) : Host.Outcome State Fault Refusal :=
  .next (takeRequest lk Command.readPlan.code tag (readWith (argNone payload) fun _ s => planReply s) s).settle

/-! ### READ_QUEUE (R84) -/

def queueEntry (r : MoveRec) : List Byte :=
  be16 r.seq ++ u8 (connNumber r.conn) ++ u8 (Phase.code r.source) ++ u8 (Phase.code r.target)
    ++ u8 (Origin.code r.origin) ++ u8 (MoveClass.code r.origin.moveClass) ++ loadField r.load ++ be32 r.acceptedEpoch

def queueReply (s : State) : List Byte := u8 s.mvq.queue.length ++ s.mvq.queue.flatMap queueEntry

def execReadQueue (lk : Link) (tag : Byte) (payload : List Byte) (s : State) : Host.Outcome State Fault Refusal :=
  .next (takeRequest lk Command.readQueue.code tag (readWith (argNone payload) fun _ s => queueReply s) s).settle

/-! ### READ_SLOTS (R108) -/

/-- The return phase shown: at WAIT_RETURN as worked out, 4 for none; at RETURNING the phase named in the last actuation;
0 at other stages. -/
def shownReturn (s : State) (sl : Slot) : Nat :=
  match sl.stage with
  | .waitReturn => closedCode (s.returnPhase sl.record)
  | .returning => closedCode (sl.lastAct.bind (·.named))
  | .waitBreak | .breaking | .gap | .waitMake | .making | .orphaned => 0

/-- Time since the break in ms, saturating at 65,535; 0 when the break is not confirmed (R108, R188). R108 gives whole ms
and no rounding: a part of a millisecond is dropped (DESIGN CHOICE, log 36). -/
def sinceBreak (s : State) (r : MoveRec) : Nat :=
  match r.breakTime with
  | some t => min 65535 (ticksToMs (s.now - t))
  | none => 0

def slotEntry (s : State) (k : SlotId) : List Byte :=
  match s.slot k with
  | none => zeros 19
  | some sl =>
    let r := sl.record
    1 :: be16 r.seq ++ u8 (connNumber r.conn) ++ u8 (Phase.code r.source) ++ u8 (Phase.code r.target)
      ++ u8 (Origin.code r.origin) ++ u8 (MoveClass.code r.origin.moveClass) ++ u8 (Stage.code sl.stage)
      ++ flag r.cancel ++ u8 r.breaks ++ u8 r.makes ++ u8 r.returns ++ flag r.breakTime.isSome ++ u16 (sinceBreak s r)
      ++ u8 (shownReturn s sl) ++ u8 (requestCode (s.request sl)) ++ u8 sl.misses

def slotsReply (s : State) : List Byte := allSlots.flatMap (slotEntry s)

def execReadSlots (lk : Link) (tag : Byte) (payload : List Byte) (s : State) : Host.Outcome State Fault Refusal :=
  .next (takeRequest lk Command.readSlots.code tag (readWith (argNone payload) fun _ s => slotsReply s) s).settle

/-! ### READ_HISTORY (R83) -/

def histEntryBytes (e : HistEntry) : List Byte :=
  be16 e.seq ++ u8 (connNumber e.conn) ++ u8 (Phase.code e.source) ++ u8 (Phase.code e.target)
    ++ u8 (Origin.code e.origin) ++ u8 (Result.code e.result) ++ be32 e.epoch ++ u32 e.timeOfDay ++ u8 e.breaks
    ++ u8 e.makes ++ u8 e.returns ++ flag e.breakConfirmed

/-- The entries from the newest one with a sequence number on; none where no entry has it. -/
def fromNewest (q : Half) : List HistEntry → Option (List HistEntry)
  | [] => none
  | e :: es =>
    match fromNewest q es with
    | some later => some later
    | none => if e.seq = q then some (e :: es) else none

/-- Start-held flag and the entries from the start. -/
def historyFrom (h : List HistEntry) : Option Half → Bool × List HistEntry
  | none => (true, h)
  | some q =>
    match fromNewest q h with
    | some es => (true, es)
    | none => (false, h)

def historyReply (start : Option Half) (s : State) : List Byte :=
  let found := historyFrom s.mvq.history start
  let es := found.2.take 8
  u8 s.mvq.history.length ++ flag found.1 ++ u8 es.length ++ es.flatMap histEntryBytes

def execReadHistory (lk : Link) (tag : Byte) (payload : List Byte) (s : State) : Host.Outcome State Fault Refusal :=
  .next (takeRequest lk Command.readHistory.code tag (readWith (argHistory payload) historyReply) s).settle

/-! ### READ_EVENTS (R193) and READ_INPUTS (R161) -/

def eventsReply (s : State) : List Byte :=
  be16 s.evu.statuses ++ be16 s.params.alertMask ++ be16 s.params.lampMask ++ flag s.evu.alert ++ flag s.evu.lamp

def execReadEvents (lk : Link) (tag : Byte) (payload : List Byte) (s : State) : Host.Outcome State Fault Refusal :=
  .next (takeRequest lk Command.readEvents.code tag (readWith (argNone payload) fun _ s => eventsReply s) s).settle

def inputEntry (r : InputRec) : List Byte :=
  flag r.polarityHigh ++ flag r.level ++ u16 r.debounce ++ flag r.sampled ++ flag r.debounced ++ presentU16 r.run
    ++ flag r.status

def allInputs : List InputLine := [.rlyBlock, .rlyTrip, .door, .keyLocal, .supplyWarn, .aux1, .aux2]

/-- The clearing timer in ms, present in CLEARING (R158); a part of a millisecond is dropped (DESIGN CHOICE, log 36). -/
def State.clearingTimer (s : State) : Option Nat :=
  match s.ilu.supply with
  | .clearing since => some (min 2000 (ticksToMs (s.now - since)))
  | .clear | .warning => none

def haltEntryBytes (e : HaltEntry) : List Byte :=
  u8 e.source.bit ++ u8 (ModeName.code e.mode) ++ be32 e.epoch ++ u32 e.timeOfDay

def inputsReply (s : State) : List Byte :=
  allInputs.flatMap (fun i => inputEntry (s.input i)) ++ u8 s.assertedSet ++ [s.params.haltMask] ++ flag s.haltActive
    ++ u8 (SupplyState.code s.ilu.supply) ++ presentU16 s.clearingTimer ++ flag s.keyLocal
    ++ u8 s.ilu.haltRecord.length ++ inPlaces 8 10 (s.ilu.haltRecord.map haltEntryBytes)

def execReadInputs (lk : Link) (tag : Byte) (payload : List Byte) (s : State) : Host.Outcome State Fault Refusal :=
  .next (takeRequest lk Command.readInputs.code tag (readWith (argNone payload) fun _ s => inputsReply s) s).settle

end Sys2Proof.Machine
end

