-- ==== Sys2Proof/Machine/Summary.lean ====
section
/-! DEFINITION. CLEAR_EVENTS (R192) and the Summary Port (R194, R195). -/

namespace Sys2Proof.Machine

open Sys2Proof

/-! ### CLEAR_EVENTS (R192) -/

/-- The statuses after a selection is cleared: condition statuses are left as they are. -/
def clearedStatuses (statuses selection : Half) : Half := statuses &&& ~~~(selection &&& ~~~conditionMask)

def State.clearEvents (s : State) (selection : Half) : State :=
  { s with evu := { s.evu with statuses := clearedStatuses s.evu.statuses selection } }

def doClearEvents (lk : Link) (payload : List Byte) (s : State) : Answered :=
  controlled lk (argEvents payload)
    (fun sel s => okWith (be16 (clearedStatuses s.evu.statuses sel)) (s.clearEvents sel)) s

def execClearEvents (lk : Link) (tag : Byte) (payload : List Byte) (s : State) : Host.Outcome State Fault Refusal :=
  .next (takeRequest lk Command.clearEvents.code tag (doClearEvents lk payload) s).settle

/-! ### The port (R195) -/

/-- The bit of a record at a bit position: byte 0 first, most significant bit first, 0 past 511. -/
def recordBit (p : Published) (bit : Nat) : Bool :=
  match (summaryBytes p)[bit / 8]? with
  | some b => b.getLsbD (7 - bit % 8)
  | none => false

/-- The data output: not driven while select is high, else the latched copy's bit at the bit position (R195). -/
def State.dataOut (s : State) : Option Bool :=
  if s.smp.selectLow then some (if s.smp.bit ≤ 511 then recordBit s.smp.latched s.smp.bit else false) else none

/-- SUMMARY_SELECT: a falling edge of select latches the published record and goes to bit 0. Select already low has no
falling edge. -/
def State.select (s : State) : State :=
  if s.smp.selectLow then s
  else { s with smp := { s.smp with latched := s.smp.published, bit := 0, selectLow := true } }

def execSummarySelect (s : State) : Host.Outcome State Fault Refusal := .next s.select.settle

/-- SUMMARY_DESELECT: select goes high; the output is no longer driven. -/
def State.deselect (s : State) : State := { s with smp := { s.smp with selectLow := false } }

def execSummaryDeselect (s : State) : Host.Outcome State Fault Refusal := .next s.deselect.settle

/-- SUMMARY_CLOCK_FALLING_EDGE: the next bit position, up to past 511; nothing while select is high. -/
def State.clockFall (s : State) : State :=
  if s.smp.selectLow then { s with smp := { s.smp with bit := min 512 (s.smp.bit + 1) } } else s

def execSummaryClockFallingEdge (s : State) : Host.Outcome State Fault Refusal := .next s.clockFall.settle

end Sys2Proof.Machine
end

