-- ==== Sys2Proof/Machine/Links.lean ====
section
/-! DEFINITION. The link ports (chapter 10.1): the receiver, the carrying out of any request by its code, and the end of a
reply. -/

namespace Sys2Proof.Machine

open Sys2Proof

/-- The request of a command of the catalogue, carried out (R178, R179, R181). -/
def commandBody (lk : Link) (payload : List Byte) : Command → State → Answered
  | .status => readWith (argNone payload) fun _ s => statusReply s
  | .readConn => readWith (argConn payload) connReply
  | .readTable => readWith (argTable payload) tableReply
  | .readPhases => readWith (argNone payload) fun _ s => phasesReply s
  | .readPlan => readWith (argNone payload) fun _ s => planReply s
  | .readQueue => readWith (argNone payload) fun _ s => queueReply s
  | .readSlots => readWith (argNone payload) fun _ s => slotsReply s
  | .readHistory => readWith (argHistory payload) historyReply
  | .readEvents => readWith (argNone payload) fun _ s => eventsReply s
  | .readInputs => readWith (argNone payload) fun _ s => inputsReply s
  | .getParam => doGetParam payload
  | .queryModule => doQueryModule lk payload
  | .move => doMove lk payload
  | .cancel => doCancel lk payload
  | .pin => doPin lk payload
  | .hold => doHold lk payload
  | .release => doRelease lk payload
  | .setAllowance => doSetAllowance lk payload
  | .configConn => doConfigConn lk payload
  | .setClass => doSetClass lk payload
  | .setParam => doSetParam lk payload
  | .start => doStart lk payload
  | .autoOn => doAutoOn lk payload
  | .autoOff => doAutoOff lk payload
  | .configure => doConfigure lk payload
  | .resume => doResume lk payload
  | .esRetry => doEsRetry lk payload
  | .clearEvents => doClearEvents lk payload
  | .clearInputs => doClearInputs lk payload
  | .setTime => doSetTime lk payload
  | .restart => doRestart lk payload
  | .unpin => doUnpin lk payload

/-- A request of any code: one not in the catalogue is answered UNKNOWN_COMMAND (R178 step 1). -/
def requestBody (lk : Link) (code : Byte) (payload : List Byte) (s : State) : Answered :=
  match commandOf? code with
  | some c => commandBody lk payload c s
  | none => refuse .unknownCommand s

/-- A frame with a good CRC is handed to the answer state (R176). -/
def takeFrame (lk : Link) (code tag : Byte) (payload : List Byte) (s : State) : State :=
  takeRequest lk code tag (requestBody lk code payload) s

/-- UNKNOWN_COMMAND (R178 step 1, R180). -/
def execUnknownCommand (lk : Link) (code tag : Byte) (payload : List Byte) (s : State) :
    Host.Outcome State Fault Refusal :=
  .next (takeFrame lk code tag payload s).settle

/-! ### The receiver (R175) -/

/-- What the receiver makes of a byte. -/
inductive Received where
  /-- the receiver after a byte that completes nothing -/
  | receiving (rx : Receiver)
  /-- a complete frame with a good CRC -/
  | frame (code tag : Byte) (payload : List Byte)
deriving DecidableEq, Repr

/-- A byte in HUNT: only a start byte starts a frame. -/
def huntByte (b : Byte) (now : Nat) : Received :=
  .receiving (if b = 0x7E then .inFrame [] now else .hunt)

/-- A complete frame is judged by its CRC: one that does not match is discarded. -/
def judgeFrame (bytes : List Byte) : Received :=
  match checkedBody? bytes with
  | some (_ :: code :: tag :: payload) => .frame code tag payload
  | _ => .receiving .hunt

/-- The bytes of a frame after its start byte, judged as they stand: length, then as many bytes, then two CRC bytes. -/
def frameSoFar (bytes : List Byte) (now : Nat) : Received :=
  match bytes with
  | [] => .receiving (.inFrame [] now)
  | len :: rest =>
    if len.toNat < 2 ∨ 242 < len.toNat then .receiving .hunt
    else if rest.length < len.toNat + 2 then .receiving (.inFrame bytes now)
    else judgeFrame bytes

/-- One byte. A gap of more than 20 ms since the last byte has ended the frame, and the byte is hunted. -/
def receive (rx : Receiver) (b : Byte) (now : Nat) : Received :=
  match rx with
  | .hunt => huntByte b now
  | .inFrame bytes lastAt =>
    if msToTicks 20 < now - lastAt then huntByte b now else frameSoFar (bytes ++ [b]) now

def State.setReceiver (s : State) (lk : Link) (rx : Receiver) : State := s.setPort lk { s.port lk with rx := rx }

/-- A byte arrives on a link. -/
def State.takeByte (s : State) (lk : Link) (b : Byte) : State :=
  match receive (s.port lk).rx b s.now with
  | .receiving rx => s.setReceiver lk rx
  | .frame code tag payload => takeFrame lk code tag payload s

/-- LINK_BYTE_RECEIVED (R175). -/
def execLinkByteReceived (lk : Link) (b : Byte) (s : State) : Host.Outcome State Fault Refusal :=
  .next (s.takeByte lk b).settle

/-- LINK_FRAME_DISCARDED (R175, R176): the byte that ends the frame is received; a length out of range, a CRC that does
not match, or a port that is ANSWERING drops the frame. -/
def execLinkFrameDiscarded (lk : Link) (b : Byte) (s : State) : Host.Outcome State Fault Refusal :=
  .next (s.takeByte lk b).settle

/-- The instant at which a frame in progress has been silent for 20 ms. -/
def Receiver.gapInstant : Receiver → Option Nat
  | .hunt => none
  | .inFrame _ lastAt => some (lastAt + msToTicks 20)

/-- A gap, or a byte with a framing error, ends the frame in progress (R175). -/
def State.takeGap (s : State) (lk : Link) (framingError : Bool) : State :=
  match (s.port lk).rx.gapInstant with
  | none => s
  | some t => (if framingError then s else s.atInstant t).setReceiver lk .hunt

/-- LINK_GAP_TIMEOUT (R175). -/
def execLinkGapTimeout (lk : Link) (framingError : Bool) (s : State) : Host.Outcome State Fault Refusal :=
  .next (s.takeGap lk framingError).settle

/-! ### The reply (R177) -/

/-- The port after the last byte of its reply has been sent; a reply not yet known cannot have been sent. -/
def Port.replied (p : Port) : Port :=
  match p.answer with
  | .answering c t (some reply) => { p with answer := .free, lastReply := some (linkFrame c t reply) }
  | .answering _ _ none | .free => p

/-- REPLY_SENT (R177). -/
def execReplySent (lk : Link) (s : State) : Host.Outcome State Fault Refusal :=
  .next (s.setPort lk (s.port lk).replied).settle

end Sys2Proof.Machine
end

