-- ==== Sys2Proof/Machine/Module.lean ====
section
/-! DEFINITION. What the part relies on from a selector module (R121 to R130): an environment model. A module is another
agent and is no part of State (log 23); no command uses this file. The messages it sends are laid out as R190 gives. -/

namespace Sys2Proof.Machine

open Sys2Proof

/-- An actuation a module has accepted and not yet executed. -/
inductive ModuleAct where
  | opening
  | closing (p : Phase)
deriving DecidableEq, Repr

/-- A MAKE under execution: the phase whose next crossing closes the switch, and the instant of the marker (R128). -/
structure Closing where
  phase : Phase
  markerAt : Nat
deriving DecidableEq, Repr

/-- One module. Energy is summed in milliwatts times ticks since the last status reply (R130). -/
structure Module where
  address : ConnId
  switch : Option Phase
  lastClosed : Phase
  counter : Byte
  localOp : Bool
  fault : Bool
  accepted : Option ModuleAct
  closing : Option Closing
  /-- start of the orphan timer, which an opening by an accepted BREAK starts (R127, R129) -/
  openedAt : Option Nat
  orphanMs : Half
  energy : Int
  averagedFrom : Nat
  typeCode : Byte
  serial : Word
  operations : Word
deriving DecidableEq, Repr

/-! ### Status (R121, R124, R130) -/

/-- The average load since the last status reply, in W, truncated toward zero, saturated. -/
def Module.load (m : Module) (now : Nat) : Int :=
  clampInt (-32000) 32000 (m.energy.tdiv ((now - m.averagedFrom) * 1000))

def Module.report (m : Module) (now : Nat) : StatusReport :=
  { closed := m.switch, counter := m.counter, load := m.load now, fault := m.fault, localOp := m.localOp }

def Module.particulars (m : Module) : Particulars :=
  { typeCode := m.typeCode, serial := m.serial, orphan := m.orphanMs, operations := m.operations }

/-- A status reply closes the averaging interval and opens the next. -/
def Module.replied (m : Module) (now : Nat) : Module := { m with energy := 0, averagedFrom := now }

/-- The flags byte of a status reply (R190). -/
def flagsByte (r : StatusReport) : Byte := BitVec.ofNat 8 (r.fault.toNat + 2 * r.localOp.toNat)

/-- The five status fields on the wire. -/
def statusBytes (r : StatusReport) : List Byte := u8 (closedCode r.closed) ++ [r.counter] ++ i16 r.load ++ [flagsByte r]

/-- A POLL reply (R190). -/
def pollReplyMessage (n : ConnId) (r : StatusReport) : List Byte :=
  withCrc (u8 (connNumber n) ++ [0x01] ++ statusBytes r)

/-- A pass-through reply (R190). -/
def passThroughReplyMessage (n : ConnId) (r : StatusReport) (x : Particulars) : List Byte :=
  withCrc (u8 (connNumber n) ++ [0x04] ++ statusBytes r ++ [x.typeCode] ++ be32 x.serial ++ be16 x.orphan
    ++ be32 x.operations)

/-- Outcome and reason bytes (R190). -/
def outcomeBytes : ActOutcome → List Byte
  | .accept => [0, 0]
  | .reject .notClosed => [1, 1]
  | .reject .notOpen => [1, 2]
  | .reject .phaseDead => [1, 3]
  | .reject .localLockout => [1, 4]
  | .missed => []

/-- A BREAK or MAKE reply (R190). -/
def actuationReplyMessage (n : ConnId) (isBreak : Bool) (o : ActOutcome) (closed : Option Phase) : List Byte :=
  withCrc (u8 (connNumber n) ++ [if isBreak then 0x02 else 0x03] ++ outcomeBytes o ++ u8 (closedCode closed))

/-! ### Actuations (R122, R123, R125, R127, R128) -/

/-- An accepted actuation is counted at its acceptance. -/
def Module.accept (m : Module) (a : ModuleAct) : Module := { m with counter := m.counter + 1, accepted := some a }

/-- BREAK (R122). -/
def Module.onBreak (m : Module) : Module × ActOutcome :=
  if m.localOp then (m, .reject .localLockout)
  else if m.switch.isNone then (m, .reject .notClosed)
  else (m.accept .opening, .accept)

/-- MAKE (R123); `live` says whether the module sees voltage on the named phase. -/
def Module.onMake (m : Module) (p : Phase) (live : Bool) : Module × ActOutcome :=
  if m.localOp then (m, .reject .localLockout)
  else if m.switch.isSome then (m, .reject .notOpen)
  else if live = false then (m, .reject .phaseDead)
  else (m.accept (.closing p), .accept)

/-- The number of switch changes, saturating (R124). -/
def oneMore (w : Word) : Word := if w = 0xFFFFFFFF#32 then w else w + 1

/-- The switch opens. -/
def Module.opened (m : Module) : Module := { m with switch := none, operations := oneMore m.operations }

/-- The switch closes onto a phase; the orphan timer and a MAKE under way stop. -/
def Module.closed (m : Module) (p : Phase) : Module :=
  { m with switch := some p, lastClosed := p, closing := none, openedAt := none, operations := oneMore m.operations }

/-- The frame marker executes what was accepted in the frame (R127, R128). -/
def Module.onMarker (m : Module) (now : Nat) : Module :=
  match m.accepted with
  | some .opening => { m.opened with accepted := none, openedAt := some now }
  | some (.closing p) => { m with accepted := none, closing := some { phase := p, markerAt := now } }
  | none => m

/-- A zero crossing of a phase: a MAKE under execution closes at the first of its phase within two nominal periods of the
marker, and is abandoned after that (R128). -/
def Module.onCrossing (m : Module) (p : Phase) (now period : Nat) : Module :=
  match m.closing with
  | some c =>
    if c.markerAt + 2 * period < now then { m with closing := none }
    else if c.phase = p then m.closed p
    else m
  | none => m

/-! ### Changes of the module's own (R125, R126, R129) -/

/-- A change not commanded: by hand, or by the module's own protection (R125, R126, R129). No orphan timer starts. -/
def Module.ownChange (m : Module) (next : Option Phase) : Module :=
  match next with
  | some p => { m.closed p with counter := m.counter + 1 }
  | none => { m.opened with counter := m.counter + 1, openedAt := none }

/-- The orphan revert (R129): open for the orphan time after an accepted BREAK, with the last phase live. -/
def Module.revert (m : Module) (now : Nat) (live : Bool) : Module :=
  match m.openedAt with
  | some t =>
    if m.switch.isNone ∧ t + msToTicks m.orphanMs.toNat ≤ now ∧ live then
      { m.closed m.lastClosed with counter := m.counter + 1 }
    else m
  | none => m

/-- Power in milliwatts measured over a time; while the switch is open it counts as 0 (R130). -/
def Module.measure (m : Module) (milliWatts : Int) (ticks : Nat) : Module :=
  if m.switch.isSome then { m with energy := m.energy + milliWatts * ticks } else m

/-- A POLL answered. -/
def Module.onPoll (m : Module) (now : Nat) : Module × List Byte :=
  (m.replied now, pollReplyMessage m.address (m.report now))

/-- A pass-through query answered. -/
def Module.onQuery (m : Module) (now : Nat) : Module × List Byte :=
  (m.replied now, passThroughReplyMessage m.address (m.report now) m.particulars)

end Sys2Proof.Machine
end

