-- ==== Sys2Proof/Machine/PowerOn.lean ====
section
/-! DEFINITION. POWER_ON_RESET (R2, R69, R85, R133, R148, R163, R165, R191, R194, R195). -/

namespace Sys2Proof.Machine

open Sys2Proof

/-- The first sample of an input sets both levels, without a debounce run; a LEVEL input found ACTIVE has its status set
(R148). -/
def firstSample (r : InputRec) (lineHigh : Bool) : InputRec :=
  let active := lineHigh == r.polarityHigh
  { r with sampled := active, debounced := active, run := none, status := r.level && active }

def firstSamples (r : PerInput InputRec) (lines : PerInput Bool) : PerInput InputRec :=
  { rlyBlock := firstSample r.rlyBlock lines.rlyBlock
    rlyTrip := firstSample r.rlyTrip lines.rlyTrip
    door := firstSample r.door lines.door
    keyLocal := firstSample r.keyLocal lines.keyLocal
    supplyWarn := firstSample r.supplyWarn lines.supplyWarn
    aux1 := firstSample r.aux1 lines.aux1
    aux2 := firstSample r.aux2 lines.aux2 }

/-- The Interlock Unit at power-on (R148, R158, R162). -/
def powerOnInputs (lines : PerInput Bool) : Ilu :=
  let inputs := firstSamples State.reset.ilu.inputs lines
  { inputs := inputs, mapFault := false, haltRecord := [],
    supply := if inputs.supplyWarn.debounced then .warning else .clear }

/-- The Mode Controller takes the first settings of the key and of the supply warning (R163, R165). -/
def powerOnMode (u : Ilu) : Mdc :=
  { mode := if u.supply = .warning then .rideThrough .config else .base .config,
    authority := if u.inputs.keyLocal.debounced then .service else .operator }

/-- Every block at its defaults, with what the power-on samples found; the statuses and outputs judged, RESTARTED set;
the summary record formed with snapshot number 0. The waiting commands and the free-value counter belong to the model
and stay. -/
def powerOn (lines : PerInput Bool) (storeMilliVolts : Nat) (selectLow : Bool) (s : State) : State :=
  let ilu := powerOnInputs lines
  let t := State.judgeOutputs { State.reset with
    free := s.free, pending := s.pending, ilu := ilu, mdc := powerOnMode ilu,
    esm := { State.reset.esm with voltage := storeReading storeMilliVolts } }
  let p : Published := { figures := t.figures, number := 0 }
  { t with smp := { published := p, latched := p, bit := 512, selectLow := selectLow } }

/-- POWER_ON_RESET. -/
def execPowerOnReset (lines : PerInput Bool) (storeMilliVolts : Nat) (selectLow : Bool) (s : State) :
    Host.Outcome State Fault Refusal :=
  .next (powerOn lines storeMilliVolts selectLow s).settle

end Sys2Proof.Machine
end

