-- ==== Sys2Proof/Machine/Dispatch.lean ====
section
/-! DEFINITION. One arm for each command of the table. -/

namespace Sys2Proof.Machine

open Sys2Proof

def exec (i : Instr) (s : State) : Host.Outcome State Fault Refusal :=
  match i with
  | .powerOnReset lines storeMilliVolts selectLow => Sys2Proof.Machine.execPowerOnReset lines storeMilliVolts selectLow s
  | .status lk tag payload => Sys2Proof.Machine.execStatus lk tag payload s
  | .readConn lk tag payload => Sys2Proof.Machine.execReadConn lk tag payload s
  | .readTable lk tag payload => Sys2Proof.Machine.execReadTable lk tag payload s
  | .readPhases lk tag payload => Sys2Proof.Machine.execReadPhases lk tag payload s
  | .readPlan lk tag payload => Sys2Proof.Machine.execReadPlan lk tag payload s
  | .readQueue lk tag payload => Sys2Proof.Machine.execReadQueue lk tag payload s
  | .readSlots lk tag payload => Sys2Proof.Machine.execReadSlots lk tag payload s
  | .readHistory lk tag payload => Sys2Proof.Machine.execReadHistory lk tag payload s
  | .readEvents lk tag payload => Sys2Proof.Machine.execReadEvents lk tag payload s
  | .readInputs lk tag payload => Sys2Proof.Machine.execReadInputs lk tag payload s
  | .getParam lk tag payload => Sys2Proof.Machine.execGetParam lk tag payload s
  | .queryModule lk tag payload => Sys2Proof.Machine.execQueryModule lk tag payload s
  | .move lk tag payload => Sys2Proof.Machine.execMove lk tag payload s
  | .cancel lk tag payload => Sys2Proof.Machine.execCancel lk tag payload s
  | .pin lk tag payload => Sys2Proof.Machine.execPin lk tag payload s
  | .unpin lk tag payload => Sys2Proof.Machine.execUnpin lk tag payload s
  | .hold lk tag payload => Sys2Proof.Machine.execHold lk tag payload s
  | .release lk tag payload => Sys2Proof.Machine.execRelease lk tag payload s
  | .setAllowance lk tag payload => Sys2Proof.Machine.execSetAllowance lk tag payload s
  | .configConn lk tag payload => Sys2Proof.Machine.execConfigConn lk tag payload s
  | .setClass lk tag payload => Sys2Proof.Machine.execSetClass lk tag payload s
  | .setParam lk tag payload => Sys2Proof.Machine.execSetParam lk tag payload s
  | .start lk tag payload => Sys2Proof.Machine.execStart lk tag payload s
  | .autoOn lk tag payload => Sys2Proof.Machine.execAutoOn lk tag payload s
  | .autoOff lk tag payload => Sys2Proof.Machine.execAutoOff lk tag payload s
  | .configure lk tag payload => Sys2Proof.Machine.execConfigure lk tag payload s
  | .resume lk tag payload => Sys2Proof.Machine.execResume lk tag payload s
  | .esRetry lk tag payload => Sys2Proof.Machine.execEsRetry lk tag payload s
  | .clearEvents lk tag payload => Sys2Proof.Machine.execClearEvents lk tag payload s
  | .clearInputs lk tag payload => Sys2Proof.Machine.execClearInputs lk tag payload s
  | .setTime lk tag payload => Sys2Proof.Machine.execSetTime lk tag payload s
  | .restart lk tag payload => Sys2Proof.Machine.execRestart lk tag payload s
  | .linkFrameDiscarded lk byte => Sys2Proof.Machine.execLinkFrameDiscarded lk byte s
  | .linkGapTimeout lk framingError => Sys2Proof.Machine.execLinkGapTimeout lk framingError s
  | .replySent lk => Sys2Proof.Machine.execReplySent lk s
  | .acceptedCrossing p milliVolts milliAmps => Sys2Proof.Machine.execAcceptedCrossing p milliVolts milliAmps s
  | .noCrossingLoss p => Sys2Proof.Machine.execNoCrossingLoss p s
  | .neutralWindowEnd samples => Sys2Proof.Machine.execNeutralWindowEnd samples s
  | .secondTick => Sys2Proof.Machine.execSecondTick s
  | .dayRollover => Sys2Proof.Machine.execDayRollover s
  | .epochEnd => Sys2Proof.Machine.execEpochEnd s
  | .debounceComplete inp lineHigh => Sys2Proof.Machine.execDebounceComplete inp lineHigh s
  | .supplyClearingTimeout => Sys2Proof.Machine.execSupplyClearingTimeout s
  | .storeVoltageRenewal milliVolts => Sys2Proof.Machine.execStoreVoltageRenewal milliVolts s
  | .chargeTimeout => Sys2Proof.Machine.execChargeTimeout s
  | .recoveryEnd => Sys2Proof.Machine.execRecoveryEnd s
  | .frameBoundary => Sys2Proof.Machine.execFrameBoundary s
  | .unitStart => Sys2Proof.Machine.execUnitStart s
  | .pollReply msg => Sys2Proof.Machine.execPollReply msg s
  | .actuationReply msg => Sys2Proof.Machine.execActuationReply msg s
  | .passThroughReply msg => Sys2Proof.Machine.execPassThroughReply msg s
  | .transactionMissed => Sys2Proof.Machine.execTransactionMissed s
  | .gapPoint k => Sys2Proof.Machine.execGapPoint k s
  | .orphanDeadline k => Sys2Proof.Machine.execOrphanDeadline k s
  | .darkDeadline k => Sys2Proof.Machine.execDarkDeadline k s
  | .admission => Sys2Proof.Machine.execAdmission s
  | .summarySelect => Sys2Proof.Machine.execSummarySelect s
  | .summaryDeselect => Sys2Proof.Machine.execSummaryDeselect s
  | .samplePair p milliVolts milliAmps => Sys2Proof.Machine.execSamplePair p milliVolts milliAmps s
  | .inputSample inp lineHigh => Sys2Proof.Machine.execInputSample inp lineHigh s
  | .linkByteReceived lk byte => Sys2Proof.Machine.execLinkByteReceived lk byte s
  | .unknownCommand lk code tag payload => Sys2Proof.Machine.execUnknownCommand lk code tag payload s
  | .summaryClockFallingEdge => Sys2Proof.Machine.execSummaryClockFallingEdge s

end Sys2Proof.Machine
end

