-- ==== Sys2Proof/Safety.lean ====
section
/-! DEFINITION. What counts as a sound state and a sound run, in the terms the statements use. -/

namespace Sys2Proof.Machine

open Sys2Proof

/-! ### Requests and answers -/

/-- The link, code, tag and payload of a link request. -/
def requestOf? : Instr → Option (Link × Byte × Byte × List Byte)
  | .status lk tag pl => some (lk, Command.status.code, tag, pl)
  | .readConn lk tag pl => some (lk, Command.readConn.code, tag, pl)
  | .readTable lk tag pl => some (lk, Command.readTable.code, tag, pl)
  | .readPhases lk tag pl => some (lk, Command.readPhases.code, tag, pl)
  | .readPlan lk tag pl => some (lk, Command.readPlan.code, tag, pl)
  | .readQueue lk tag pl => some (lk, Command.readQueue.code, tag, pl)
  | .readSlots lk tag pl => some (lk, Command.readSlots.code, tag, pl)
  | .readHistory lk tag pl => some (lk, Command.readHistory.code, tag, pl)
  | .readEvents lk tag pl => some (lk, Command.readEvents.code, tag, pl)
  | .readInputs lk tag pl => some (lk, Command.readInputs.code, tag, pl)
  | .getParam lk tag pl => some (lk, Command.getParam.code, tag, pl)
  | .queryModule lk tag pl => some (lk, Command.queryModule.code, tag, pl)
  | .move lk tag pl => some (lk, Command.move.code, tag, pl)
  | .cancel lk tag pl => some (lk, Command.cancel.code, tag, pl)
  | .pin lk tag pl => some (lk, Command.pin.code, tag, pl)
  | .unpin lk tag pl => some (lk, Command.unpin.code, tag, pl)
  | .hold lk tag pl => some (lk, Command.hold.code, tag, pl)
  | .release lk tag pl => some (lk, Command.release.code, tag, pl)
  | .setAllowance lk tag pl => some (lk, Command.setAllowance.code, tag, pl)
  | .configConn lk tag pl => some (lk, Command.configConn.code, tag, pl)
  | .setClass lk tag pl => some (lk, Command.setClass.code, tag, pl)
  | .setParam lk tag pl => some (lk, Command.setParam.code, tag, pl)
  | .start lk tag pl => some (lk, Command.start.code, tag, pl)
  | .autoOn lk tag pl => some (lk, Command.autoOn.code, tag, pl)
  | .autoOff lk tag pl => some (lk, Command.autoOff.code, tag, pl)
  | .configure lk tag pl => some (lk, Command.configure.code, tag, pl)
  | .resume lk tag pl => some (lk, Command.resume.code, tag, pl)
  | .esRetry lk tag pl => some (lk, Command.esRetry.code, tag, pl)
  | .clearEvents lk tag pl => some (lk, Command.clearEvents.code, tag, pl)
  | .clearInputs lk tag pl => some (lk, Command.clearInputs.code, tag, pl)
  | .setTime lk tag pl => some (lk, Command.setTime.code, tag, pl)
  | .restart lk tag pl => some (lk, Command.restart.code, tag, pl)
  | .unknownCommand lk code tag pl => some (lk, code, tag, pl)
  | .powerOnReset _ _ _ | .linkFrameDiscarded _ _ | .linkGapTimeout _ _ | .replySent _ | .acceptedCrossing _ _ _
  | .noCrossingLoss _ | .neutralWindowEnd _ | .secondTick | .dayRollover | .epochEnd | .debounceComplete _ _
  | .supplyClearingTimeout | .storeVoltageRenewal _ | .chargeTimeout | .recoveryEnd | .frameBoundary | .unitStart
  | .pollReply _ | .actuationReply _ | .passThroughReply _ | .transactionMissed | .gapPoint _ | .orphanDeadline _
  | .darkDeadline _ | .admission | .summarySelect | .summaryDeselect | .samplePair _ _ _ | .inputSample _ _
  | .linkByteReceived _ _ | .summaryClockFallingEdge => none

/-- The commands "of the in-control link" (R181). -/
def controlledCommands : List Command :=
  [.move, .cancel, .pin, .hold, .release, .setAllowance, .configConn, .setClass, .setParam, .start, .autoOn, .autoOff,
   .configure, .resume, .esRetry, .clearEvents, .clearInputs, .setTime, .restart]

/-- A link port takes requests. -/
abbrev State.portFree (s : State) (lk : Link) : Prop := (s.port lk).answer = .free

/-- The state in which a port has been asked a request whose result is not known yet, its receiver hunting. -/
def State.asking (s : State) (lk : Link) (code tag : Byte) : State := s.setPort lk ((s.port lk).asked code tag)

/-- The state in which a port answers a request with a payload, its receiver hunting. -/
def State.answering (s : State) (lk : Link) (code tag : Byte) (reply : List Byte) : State :=
  s.setPort lk { s.port lk with rx := .hunt, answer := .answering code tag (some reply) }

/-- Several commands one after another, each on the state the one before it leaves. -/
def execAll : List Instr → State → Host.Outcome State Fault Refusal
  | [], s => .next s
  | c :: cs, s =>
    match exec c s with
    | .next t => execAll cs t
    | .fault r => .fault r
    | .refused r => .refused r

/-- The state at step 5 of a frame boundary taken at an instant: the miss of a cut transaction (log 34), the frame
end, the recovery count and the new frame are behind it, the grant is to come (R109). -/
def State.beforeGrant (s : State) (i : Nat) : State :=
  (s.atInstant i).missTransaction.noteFrameEnds.recoveryTick.openFrame

/-- How far a connection stands behind a rotation position, from 0 for the next one (R119, R120). -/
def turnsAway (position : Nat) (n : ConnId) : Nat := (n.val + 96 - position) % 96

/-- A WAIT_RETURN entered now is kept: the slot's record has a return phase (R88), and its orphan deadline, which a
confirmed break gives, lies ahead (R87). -/
abbrev State.returnable (s : State) (r : MoveRec) (breakTime : Nat) : Prop :=
  (s.health r.source ≠ .lost ∨ s.health r.target = .healthy)
    ∧ s.now < breakTime + msToTicks ((s.timing r.conn).orphan - 300)

/-! ### The course of a transfer, by the instants of its break time -/

/-- A slot goes to WAIT_RETURN (R99): kept there, or on to ORPHANED in the same operation with no return phase or at its
orphan deadline (R87, R88), or ended DARK at its dark deadline (R101). -/
def State.turnBack (s : State) (k : SlotId) (sl : Slot) (breakTime : Nat) : State :=
  if s.returnable sl.record breakTime then s.setSlot k (some { sl with stage := .waitReturn, verifyDue := none })
  else if s.now < breakTime + msToTicks ((s.timing sl.record.conn).orphan + 1000) then
    s.setSlot k (some { sl with stage := .orphaned, verifyDue := some (s.sbc.frame + 1) })
  else (s.setSlot k (some sl)).endRecord k .dark

/-- A slot goes to WAIT_MAKE (R97): kept there while its to phase is HEALTHY and its orphan deadline lies ahead (R87),
else turned back. -/
def State.goToMake (s : State) (k : SlotId) (sl : Slot) (breakTime : Nat) : State :=
  if s.health sl.record.target = .healthy
      ∧ s.now < breakTime + msToTicks ((s.timing sl.record.conn).orphan - 300) then
    s.setSlot k (some { sl with stage := .waitMake, verifyDue := none })
  else s.turnBack k sl breakTime

/-- A status reply other than the slot's own verify reply, acting by stage (the tables of R93 and R94); a WRONG_PHASE
ending sets MAP_FAULT (R102). -/
def State.seenBySlot (s : State) (k : SlotId) (sl : Slot) (closed : Option Phase) : State :=
  let v := s.setSlot k (some { sl with misses := 0 })
  match sl.stage, closed with
  | .waitBreak, _ =>
    if closed ≠ some sl.record.source then v.endRecord k .stale
    else if (s.conn sl.record.conn).hold ≠ none then v.endRecord k .blocked
    else v
  | .breaking, _ | .making, _ | .returning, _ => v
  | .gap, none | .waitMake, none | .waitReturn, none | .orphaned, none => v
  | .gap, some p | .waitMake, some p | .waitReturn, some p | .orphaned, some p =>
    if p = sl.record.source then v.endRecord k .reverted else (v.endRecord k .wrongPhase).setMapFault

/-- What a slot that a state turned back for lack of a return phase, or at its orphan deadline, has become there:
ORPHANED and polled from the next frame on, or ended DARK at its dark deadline (R87, R88, R101). -/
def State.heldOpen (t : State) (sl : Slot) (breakTime : Nat) (after : Option Slot) : Prop :=
  if t.now < breakTime + msToTicks ((t.timing sl.record.conn).orphan + 1000) then
    after = some { sl with stage := .orphaned, verifyDue := some (t.sbc.frame + 1) }
  else
    after = none ∧ (t.conn sl.record.conn).dark = true ∧ (t.conn sl.record.conn).recordLink = none
      ∧ ∃ e ∈ t.mvq.history, e.seq = sl.record.seq ∧ e.result = .dark

/-- What a slot turned back from GAP or WAIT_MAKE has become in the state that turned it back (R99). -/
def State.turnedBack (t : State) (sl : Slot) (breakTime : Nat) (after : Option Slot) : Prop :=
  if t.returnable sl.record breakTime then after = some { sl with stage := .waitReturn, verifyDue := none }
  else t.heldOpen sl breakTime after

/-- What a slot has become in a state that a change of phase health left: a WAIT_MAKE whose to phase is not HEALTHY is
turned back (R97), a WAIT_RETURN works its return phase out again (R88, R99), every other slot is as it was. -/
def State.rechecked (t : State) (sl : Slot) (after : Option Slot) : Prop :=
  match sl.stage with
  | .waitMake =>
    (t.health sl.record.target = .healthy → after = some sl)
      ∧ (t.health sl.record.target ≠ .healthy → ∀ bt, sl.record.breakTime = some bt → t.turnedBack sl bt after)
  | .waitReturn => ∀ bt, sl.record.breakTime = some bt →
    (t.returnable sl.record bt → after = some sl) ∧ (¬ t.returnable sl.record bt → t.heldOpen sl bt after)
  | _ => after = some sl

/-! ### What an operation ends and hands on -/

/-- The history after records have ended with their results, in the order given (R81, R82). -/
def State.endedHistory (s : State) (ended : List (MoveRec × Result)) : List HistEntry :=
  ended.foldl (fun h x => pushHistory h (historyEntry x.1 x.2 s.tbs.epoch s.tbs.timeOfDay)) s.mvq.history

/-- In a state t that a loss of phase p in a state s left, the Balancing Planner has been told of the loss of a started
phase (R35), and in AUTO with the rescue parameter ON has made its pass of cause LOSS on the health and averages as they
then stood (R59); else it and the queue are as they were. -/
def State.lossReported (s t : State) (p : Phase) : Prop :=
  if s.modeName = .auto ∧ s.params.rescue = true ∧ (s.chan p).started = true then
    ∃ u : State, u = { s with now := u.now, fmu := u.fmu } ∧ u.fmu.chan = t.fmu.chan
      ∧ u.fmu.averages = s.fmu.averages ∧ t.bpl = (u.rescuePass .loss).bpl
      ∧ t.mvq.queue = (u.rescuePass .loss).mvq.queue ∧ t.mvq.seqCounter = (u.rescuePass .loss).mvq.seqCounter
  else t.bpl = s.bpl ∧ t.mvq.queue = s.mvq.queue ∧ t.mvq.seqCounter = s.mvq.seqCounter

/-! ### Sound states -/

/-- Statuses, outputs and summary are up to date (R191, R193, R194). -/
def State.upToDate (s : State) : Prop :=
  s.evu.statuses &&& conditionMask = s.conditionBits
    ∧ s.evu.alert = outputOf s.evu.statuses s.params.alertMask
    ∧ s.evu.lamp = outputOf s.evu.statuses s.params.lampMask
    ∧ s.smp.published.figures = s.figures

/-- The records in the four slots, in slot order. -/
def State.slotRecords (s : State) : List MoveRec := allSlots.filterMap fun k => (s.slot k).map (·.record)

/-- Every move record of the part: the queued ones and those in slots. -/
def State.records (s : State) : List MoveRec := s.mvq.queue ++ s.slotRecords

/-- The law of R69: each record's connection has that record's number in its record link, no two records are of one
connection, and each has an acceptance order of its own, below the counter. -/
def State.linked (s : State) : Prop :=
  (∀ r ∈ s.records, (s.conn r.conn).recordLink = some r.seq)
    ∧ s.records.Pairwise (fun x y => x.conn ≠ y.conn)
    ∧ s.records.Pairwise (fun x y => x.order ≠ y.order)
    ∧ ∀ r ∈ s.records, r.order < s.mvq.acceptCount

/-- The queue holds at most 16 records, each standing before those behind it (R70). -/
def State.queueOrdered (s : State) : Prop :=
  s.mvq.queue.length ≤ 16 ∧ s.mvq.queue.Pairwise (fun x y => standsBefore x y = true)

/-- In CONFIG, and in RIDE_THROUGH with CONFIG saved, the queue and the slots are empty (R169). -/
def State.configIdle (s : State) : Prop :=
  s.mdc.mode = .base .config ∨ s.mdc.mode = .rideThrough .config → s.mvq.queue = [] ∧ s.slotsEmpty = true

/-- The authority is the link the key selects (R163). -/
def State.keyObeyed (s : State) : Prop := s.mdc.authority = if s.keyLocal then .service else .operator

/-- The mode is RIDE_THROUGH exactly while the supply warning is not CLEAR (R158, R159, R172, R173). -/
def State.warningObeyed (s : State) : Prop := s.modeName = .rideThrough ↔ s.ilu.supply ≠ .clear

/-- The alignment phase is the first phase that is not LOST (R110). -/
def State.aligned (s : State) : Prop := s.sbc.alignment = firstNotLost s.fmu.chan

/-- Stopped: the mode is HALTED or will be when the supply warning clears. -/
def State.stopped (s : State) : Prop := s.mdc.mode = .base .halted ∨ s.mdc.mode = .rideThrough .halted

/-- While the part is stopped or rides through, no slot stands at WAIT_BREAK; while it is stopped, every slot at
BREAKING or MAKING has its cancel requested and none stands at GAP or WAIT_MAKE (R104, R105, R138, R171). -/
def State.noNewWork (s : State) : Prop :=
  (s.stopped ∨ s.modeName = .rideThrough → ∀ k, s.slotStage k ≠ some .waitBreak)
    ∧ (s.stopped → ∀ k sl, s.slot k = some sl →
        sl.stage ≠ .gap ∧ sl.stage ≠ .waitMake ∧ (sl.stage = .breaking ∨ sl.stage = .making → sl.record.cancel = true))

/-- Every transfer was admitted under a number below the admission counter; a transaction made for an actuation names
such a number, and while its slot holds that transfer the slot stands at the stage of the actuation's kind (R80, R90,
R114). -/
def State.actuationTied (s : State) : Prop :=
  (∀ k sl, s.slot k = some sl → sl.order < s.txe.admitCount)
    ∧ ∀ x k owner kind before intended, s.sbc.txn = some x → x.purpose = .actuation k owner kind before intended →
        owner < s.txe.admitCount ∧ ∀ sl, s.slot k = some sl → sl.order = owner → sl.stage = kind.stage

/-- A timing class within the ranges of R131. -/
def TimingClass.inRange (c : TimingClass) : Prop :=
  (5 ≤ c.breakPulse ∧ c.breakPulse ≤ 100) ∧ (5 ≤ c.makePulse ∧ c.makePulse ≤ 100) ∧ (1 ≤ c.settle ∧ c.settle ≤ 10)
    ∧ (2 ≤ c.recovery ∧ c.recovery ≤ 100) ∧ (20 ≤ c.gap ∧ c.gap ≤ 1000) ∧ (500 ≤ c.orphan ∧ c.orphan ≤ 5000)
    ∧ c.gap + 300 ≤ c.orphan

/-- The parameters within the ranges of R184. -/
def Params.inRange (p : Params) : Prop :=
  (1960 ≤ p.vLow ∧ p.vLow ≤ 2300) ∧ (2300 ≤ p.vHigh ∧ p.vHigh ≤ 2650) ∧ (500 ≤ p.vLoss ∧ p.vLoss ≤ 1800)
    ∧ (1 ≤ p.restoreTime ∧ p.restoreTime ≤ 60) ∧ (100 ≤ p.neutralLimit ∧ p.neutralLimit ≤ 10000)
    ∧ (1 ≤ p.chatterLimit ∧ p.chatterLimit ≤ 15) ∧ p.wtrig ≤ 100000 ∧ p.wmin ≤ 100000
    ∧ (1000 ≤ p.plim ∧ p.plim ≤ 250000) ∧ (1 ≤ p.kmax ∧ p.kmax ≤ 4) ∧ p.restPeriod ≤ 255
    ∧ (240 ≤ p.readyLevel ∧ p.readyLevel ≤ 900) ∧ (1 ≤ p.chargeTimeout ∧ p.chargeTimeout ≤ 30)

/-- Every parameter, timing class and epoch length is within its range (R38, R131, R150, R184); a channel at the
fallback sample interval samples at the nominal period / 128 (R27); the frame's units are a thirteenth of the nominal
period in force for it, and that is one of the two (R111). -/
def State.settingsInRange (s : State) : Prop :=
  s.params.inRange ∧ (∀ k : Fin 4, (s.classes[k]).inRange) ∧ s.tbs.pendingLength ∈ epochLengths
    ∧ s.tbs.epochLength ∈ epochLengths ∧ (∀ i : InputLine, (s.input i).debounce ∈ debounceTimes)
    ∧ (∀ p : Phase, (s.chan p).fallback = true → (s.chan p).interval = s.period / 128)
    ∧ s.sbc.unitLength = s.sbc.framePeriod / 13 ∧ ∃ x : Nominal, s.sbc.framePeriod = x.period

/-- The counts of a record within the ranges of R1. -/
def Conn.inRange (c : Conn) : Prop :=
  c.allowance ≤ 15 ∧ c.movesToday ≤ 15 ∧ c.uncommanded ≤ 15 ∧ c.missedRun ≤ 3

/-- Counts and lists within the bounds the spec gives them (R1, R37, R82, R118, R157, R195); and no load counts in a new
epoch while no epoch end is owed (R11, R47). -/
def State.countsInRange (s : State) : Prop :=
  (∀ n : ConnId, (s.conn n).inRange)
    ∧ (s.tbs.endDue = false → ∀ n : ConnId, (s.conn n).nextSum = 0 ∧ (s.conn n).nextCount = 0)
    ∧ s.tbs.timeOfDay ≤ 86399 ∧ s.mvq.history.length ≤ 32 ∧ s.sbc.queries.length ≤ 2
    ∧ s.ilu.haltRecord.Pairwise (fun x y => x.source ≠ y.source) ∧ s.smp.bit ≤ 512 ∧ s.esm.voltage ≤ 1200

/-- An invariant of the machine: whatever state has it, a command that answers a next state leaves it. -/
def keptByEveryCommand (p : State → Prop) : Prop := ∀ c s t, p s → exec c s = .next t → p t

end Sys2Proof.Machine
end

