-- ==== Sys2Proof/WellFormed.lean ====
section
/-! DEFINITION. Which commands can come from a partner of the part: the checks on a command's own fields. -/

namespace Sys2Proof

/-- The command codes of the catalogue (R181). -/
def catalogueCodes : List Nat :=
  [0x01, 0x02, 0x03, 0x04, 0x05, 0x06, 0x07, 0x08, 0x09, 0x0A, 0x0B, 0x0C, 0x20, 0x21, 0x22, 0x23, 0x24, 0x25, 0x26,
   0x27, 0x28, 0x29, 0x2A, 0x2B, 0x2C, 0x2D, 0x2E, 0x2F, 0x30, 0x31, 0x32, 0x40]

/-- A link frame's payload holds 0 to 240 bytes (R186). -/
def payloadFits (payload : List Byte) : Bool := payload.length ≤ 240

/-- A command that can be sent to the part. -/
def Instr.wellFormed : Instr → Bool
  | .powerOnReset _ _ _ => true
  | .status _ _ pl | .readConn _ _ pl | .readTable _ _ pl | .readPhases _ _ pl | .readPlan _ _ pl
  | .readQueue _ _ pl | .readSlots _ _ pl | .readHistory _ _ pl | .readEvents _ _ pl | .readInputs _ _ pl
  | .getParam _ _ pl | .queryModule _ _ pl | .move _ _ pl | .cancel _ _ pl | .pin _ _ pl | .unpin _ _ pl
  | .hold _ _ pl | .release _ _ pl | .setAllowance _ _ pl | .configConn _ _ pl | .setClass _ _ pl
  | .setParam _ _ pl | .start _ _ pl | .autoOn _ _ pl | .autoOff _ _ pl | .configure _ _ pl | .resume _ _ pl
  | .esRetry _ _ pl | .clearEvents _ _ pl | .clearInputs _ _ pl | .setTime _ _ pl | .restart _ _ pl =>
    payloadFits pl
  | .linkFrameDiscarded _ _ => true
  | .linkGapTimeout _ _ => true
  | .replySent _ => true
  | .acceptedCrossing _ _ _ => true
  | .noCrossingLoss _ => true
  | .neutralWindowEnd samples => !samples.isEmpty
  | .secondTick => true
  | .dayRollover => true
  | .epochEnd => true
  | .debounceComplete _ _ => true
  | .supplyClearingTimeout => true
  | .storeVoltageRenewal _ => true
  | .chargeTimeout => true
  | .recoveryEnd => true
  | .frameBoundary => true
  | .unitStart => true
  | .pollReply _ => true
  | .actuationReply _ => true
  | .passThroughReply _ => true
  | .transactionMissed => true
  | .gapPoint _ => true
  | .orphanDeadline _ => true
  | .darkDeadline _ => true
  | .admission => true
  | .summarySelect => true
  | .summaryDeselect => true
  | .samplePair _ _ _ => true
  | .inputSample _ _ => true
  | .linkByteReceived _ _ => true
  | .unknownCommand _ code _ pl => !catalogueCodes.contains code.toNat && payloadFits pl
  | .summaryClockFallingEdge => true

end Sys2Proof
end

