-- ==== Sys2Proof/Certificates/Slice0/Obligations.lean ====
section
/-! DEFINITION. The statements for the provers. Where a statement rests on a choice of the model, its docstring names
the log entry. -/

open Sys2Proof Sys2Proof.Machine

/-! ### The step, reset and power-on -/

/-- A step takes the first waiting command and runs it with the rest of the queue waiting. -/
def Obligations.StepRunsTheFrontCommand : Prop :=
  ∀ (c : Instr) (rest : List Instr) (s : State), s.pending = c :: rest → step s = exec c { s with pending := rest }

/-- R2: every record after power-on reset. The other blocks after power-on reset: health LOST and not started (R32),
no sign and run 0 (R28), time, day and epoch 0 and length 60 (R37 to R39), no plan and no rescue record (R67), empty
queue, slots and history with counter 0 (R69, R85, R86), frame 0 under the free-running timer (R109, R110), the
classes at their defaults (R131), the halt mask (R154), an empty halt record (R157), ports in HUNT and FREE (R174), a
record numbered 0 and a bit position past 511 (R194, R195). State.reset is the start in which every input line is found
inactive, which is the model's choice (log 8): in it RESTARTED alone is set, ALERT is asserted and LAMP is dark; R191
excepts SUPPLY_WARN, which a part that finds its warning active sets too (PowerOnResetTaken). -/
def Obligations.ResetValues : Prop :=
  (∀ n : ConnId, State.reset.conn n =
      { present := false, timing := 0, allowance := 4, link := .unseen, phase := .unknown, expected := 0,
        pendingAct := none, dark := false, pin := false, hold := none, chatterPending := false, movesToday := 0,
        uncommanded := 0, lastMove := none, lastLoad := none, accSum := 0, accCount := 0, nextSum := 0, nextCount := 0,
        epochLoad := none, missedRun := 0, fault := false, localOp := false, recordLink := none })
    ∧ ((∀ p : Phase, State.reset.health p = .lost ∧ (State.reset.chan p).started = false
        ∧ (State.reset.chan p).sign = none ∧ (State.reset.chan p).run = 0)
      ∧ State.reset.tbs.timeOfDay = 0 ∧ State.reset.tbs.day = 0 ∧ State.reset.tbs.epoch = 0
      ∧ State.reset.tbs.epochLength = 60 ∧ State.reset.tbs.pendingLength = 60
      ∧ State.reset.bpl = { plan := none, rescue := none }
      ∧ State.reset.mvq.queue = [] ∧ State.reset.mvq.seqCounter = 0 ∧ State.reset.mvq.history = []
      ∧ State.reset.slotsEmpty = true ∧ State.reset.sbc.frame = 0 ∧ State.reset.sbc.alignment = none
      ∧ (∀ k : Fin 4, State.reset.classes[k] =
          { breakPulse := 20, makePulse := 20, settle := 2, recovery := 10, gap := 60, orphan := 2000 })
      ∧ State.reset.params.haltMask = 0xE3 ∧ State.reset.ilu.haltRecord = []
      ∧ (∀ lk : Link, (State.reset.port lk).rx = .hunt ∧ (State.reset.port lk).answer = .free)
      ∧ State.reset.evu = { statuses := 0x8000, alert := true, lamp := false }
      ∧ State.reset.smp.published.number = 0 ∧ State.reset.smp.bit = 512)

/-- The state after reset is sound: every invariant stated below holds of it. -/
def Obligations.ResetIsSound : Prop :=
  State.reset.upToDate ∧ State.reset.linked ∧ State.reset.queueOrdered ∧ State.reset.configIdle
    ∧ State.reset.keyObeyed ∧ State.reset.warningObeyed ∧ State.reset.aligned ∧ State.reset.actuationTied
    ∧ State.reset.noNewWork ∧ State.reset.settingsInRange ∧ State.reset.countsInRange

/-- POWER_ON_RESET, whatever the part held: every record and every block at its defaults, except what the first samples
decide: RIDE_THROUGH with CONFIG saved when the supply warning is found active (R148, R158, R165), the service link in
control when the key is found at LOCAL (R148, R163), a LEVEL input's status set when found active and an EDGE input's
clear (R148). The first store reading is kept and not judged (R134, R144, log 29). -/
def Obligations.PowerOnResetTaken : Prop :=
  ∀ (lines : PerInput Bool) (mV : Nat) (low : Bool) (s : State), ∃ t : State,
    exec (.powerOnReset lines mV low) s = .next t
      ∧ t.conns = State.reset.conns ∧ t.params = State.reset.params ∧ t.classes = State.reset.classes
      ∧ t.fmu = State.reset.fmu ∧ t.tbs = State.reset.tbs ∧ t.bpl = State.reset.bpl ∧ t.mvq = State.reset.mvq
      ∧ t.txe = State.reset.txe ∧ t.sbc = State.reset.sbc ∧ t.ports = State.reset.ports
      ∧ t.esm.store = .charging 0 10000 ∧ t.esm.voltage = min 1200 (mV / 100)
      ∧ t.mdc.mode = (if lines.supplyWarn then .rideThrough .config else .base .config)
      ∧ t.ilu.supply = (if lines.supplyWarn then .warning else .clear)
      ∧ t.mdc.authority = (if lines.keyLocal then .service else .operator)
      ∧ t.ilu.mapFault = false ∧ t.ilu.haltRecord = []
      ∧ (t.input .rlyBlock).status = lines.rlyBlock ∧ (t.input .rlyTrip).status = false
      ∧ (t.input .rlyTrip).debounced = lines.rlyTrip ∧ (t.input .door).status = false
      ∧ (t.input .door).debounced = !lines.door ∧ (t.input .aux1).status = false ∧ (t.input .aux2).status = false
      ∧ t.evu.statuses = (if lines.supplyWarn then 0x9000 else 0x8000) ∧ t.evu.alert = true ∧ t.evu.lamp = false
      ∧ t.smp.published = { figures := t.figures, number := 0 } ∧ t.smp.latched = t.smp.published
      ∧ t.smp.bit = 512 ∧ t.smp.selectLow = low

/-! ### Rules of the whole machine -/

/-- Every operation ends with the condition statuses as the blocks stand and ALERT and LAMP as their masks and the
statuses give them (R191, R193). -/
def Obligations.OutputsFollowStatuses : Prop :=
  ∀ (c : Instr) (s t : State), exec c s = .next t →
    (∀ e ∈ conditionKinds, t.evu.statuses.getLsbD e.bit = t.condition e)
      ∧ (t.evu.alert = true ↔ ∃ i, i < 16 ∧ t.evu.statuses.getLsbD i = true ∧ t.params.alertMask.getLsbD i = true)
      ∧ (t.evu.lamp = true ↔ ∃ i, i < 16 ∧ t.evu.statuses.getLsbD i = true ∧ t.params.lampMask.getLsbD i = true)

/-- Every operation ends with the published figures as the blocks stand; the snapshot number has risen by 1 exactly when
they differ from the figures published before, except at power-on; and the five counts add up to the present records
(R194). That each command is one operation, where two events fall at one moment, is the model's choice (log 43). -/
def Obligations.PublishedRecordCurrent : Prop :=
  ∀ (c : Instr) (s t : State), exec c s = .next t →
    t.smp.published.figures = t.figures
      ∧ ((∀ lines mV low, c ≠ .powerOnReset lines mV low) →
          t.smp.published.number =
            if t.figures = s.smp.published.figures then s.smp.published.number else s.smp.published.number + 1)
      ∧ t.figures.phases.a.connected + t.figures.phases.b.connected + t.figures.phases.c.connected
          + t.figures.countNone + t.figures.countUnknown = t.figures.present

/-- The law of R69: never more than one move record for any one connection, each linked from its connection. -/
def Obligations.OneRecordPerConnection : Prop := keptByEveryCommand State.linked

/-- The queue holds at most 16 records in class order and, within a class, acceptance order (R70). -/
def Obligations.QueueBoundedAndOrdered : Prop :=
  ∀ (c : Instr) (s t : State), s.linked → s.queueOrdered → exec c s = .next t → t.queueOrdered

/-- While the mode is CONFIG the queue and the slots are empty (R169). The authority is the link the key position
selects (R163). The mode is RIDE_THROUGH exactly while the supply warning is not CLEAR (R158, R172, R173). The
alignment phase is the first phase that is not LOST, or the free-running timer (R110). -/
def Obligations.ModesAuthorityAndAlignmentKept : Prop :=
  (keptByEveryCommand State.configIdle)
    ∧ (keptByEveryCommand State.keyObeyed)
    ∧ (keptByEveryCommand State.warningObeyed)
    ∧ (keptByEveryCommand State.aligned)

/-- A transaction made for an actuation belongs to a transfer admitted before, and while its slot holds that transfer
the slot stands at the stage the grant brought (R90, R114, R116). -/
def Obligations.ActuationTiedToItsSlot : Prop := keptByEveryCommand State.actuationTied

/-- While the part is halted or rides through, no slot waits to break a connection, and while it is halted every open
transfer is turned back (R104, R105, R138). -/
def Obligations.NoNewBreakWhileStopped : Prop :=
  ∀ (c : Instr) (s t : State), s.actuationTied → s.noNewWork → exec c s = .next t → t.noNewWork

/-- Every parameter, timing class, epoch length and debounce time stays within its range (R131, R132, R183, R184).
Counts and lists stay within the bounds the spec gives them (R1, R23, R37, R82, R118, R157). A channel at the fallback
interval follows the nominal frequency (R27), the units of a frame follow the period in force for it (R111), and loads
wait for a new epoch only while an epoch end is owed (R47, log 9). -/
def Obligations.ValuesStayInRange : Prop :=
  (keptByEveryCommand State.settingsInRange)
    ∧ (keptByEveryCommand State.countsInRange)

/-- A PIN is removed only while the key is at LOCAL, or by power-on reset (R18, R164). -/
def Obligations.PinRemovedOnlyAtLocal : Prop :=
  ∀ (c : Instr) (s t : State) (n : ConnId), (∀ lines mV low, c ≠ .powerOnReset lines mV low) → s.keyLocal = false →
    (s.conn n).pin = true → exec c s = .next t → (t.conn n).pin = true

/-! ### The summary port -/

/-- A read sees one copy whole: nothing but the port's own edges and power-on reset touches the latched copy, the bit
position or select (R195). -/
def Obligations.ReadSeesOneCopy : Prop :=
  ∀ (c : Instr) (s t : State), (∀ lines mV low, c ≠ .powerOnReset lines mV low) → c ≠ .summarySelect →
    c ≠ .summaryDeselect → c ≠ .summaryClockFallingEdge → exec c s = .next t →
    t.smp.latched = s.smp.latched ∧ t.smp.bit = s.smp.bit ∧ t.smp.selectLow = s.smp.selectLow

/-- A falling edge of select and k clock edges after it: the port drives bit k of the record published at select,
most significant bit first, and 0 past bit 511; a rising edge of select undrives the output (R195). Every summary
record is 64 bytes long and passes the relay's check (R189, R196). -/
def Obligations.SummaryReadWhole : Prop :=
  (∀ (s : State) (k : Nat), s.smp.selectLow = false → ∃ t u : State,
      execAll (.summarySelect :: List.replicate k .summaryClockFallingEdge) s = .next t
        ∧ t.smp.latched = s.smp.published ∧ t.smp.bit = min 512 k
        ∧ t.dataOut = some (((summaryBytes s.smp.published)[k / 8]?.getD 0).getLsbD (7 - k % 8) && decide (k < 512))
        ∧ exec .summaryDeselect t = .next u ∧ u.dataOut = none ∧ u.smp.latched = t.smp.latched
        ∧ u.smp.bit = t.smp.bit ∧ s.dataOut = none)
    ∧ (∀ p : Published, (summaryBytes p).length = 64 ∧ relayAccepts (summaryBytes p) = true)

/-! ### The link ports -/

/-- Every request row is the taking of a complete frame with its code, tag and payload. That a row stands for such a
frame is the model's reading of the table and of R176 and R178 (log 7). -/
def Obligations.RequestRowsAreFrames : Prop :=
  ∀ (c : Instr) (s : State) (lk : Link) (code tag : Byte) (pl : List Byte),
    requestOf? c = some (lk, code, tag, pl) → exec c s = .next (takeFrame lk code tag pl s).settle

/-- The bytes of a link frame, received one after another by a hunting receiver, are taken as exactly the request the
frame was made from (R175, R176, R186). -/
def Obligations.FrameBytesTakenAsRequest : Prop :=
  ∀ (s : State) (lk : Link) (code tag : Byte) (pl : List Byte), pl.length ≤ 240 → s.upToDate →
    (s.port lk).rx = .hunt →
    execAll ((linkFrame code tag pl).map (Instr.linkByteReceived lk)) s = .next (takeFrame lk code tag pl s).settle

/-- A frame that completes while the port is ANSWERING is discarded (R176). A request answered with a status other
than OK is answered with that status alone and changes nothing (R178, R179). -/
def Obligations.RequestsDiscardedOrRefusedWhole : Prop :=
  (∀ (c : Instr) (s : State) (lk : Link) (code tag : Byte) (pl : List Byte) (cmd tg : Byte) (r : Option (List Byte)),
      requestOf? c = some (lk, code, tag, pl) → (s.port lk).answer = .answering cmd tg r →
      exec c s = .next (s.setPort lk { s.port lk with rx := .hunt }).settle)
    ∧ (∀ (c : Instr) (s t : State) (lk : Link) (code tag : Byte) (pl : List Byte) (st : Byte) (rest : List Byte),
      requestOf? c = some (lk, code, tag, pl) → s.portFree lk → exec c s = .next t →
      (t.port lk).answer = .answering code tag (some (st :: rest)) → st ≠ 0x00 →
      rest = [] ∧ t = (s.answering lk code tag [st]).settle)

/-- A command of the in-control link from the other link is refused NOT_IN_CONTROL (R163, R178 step 2, R181). A code
outside the catalogue is answered UNKNOWN_COMMAND (R178 step 1). -/
def Obligations.FirstChecksRefuse : Prop :=
  (∀ (c : Instr) (s : State) (lk : Link) (cmd : Command) (tag : Byte) (pl : List Byte),
      requestOf? c = some (lk, cmd.code, tag, pl) → cmd ∈ controlledCommands → s.portFree lk → s.mdc.authority ≠ lk →
      exec c s = .next (s.answering lk cmd.code tag [0x03]).settle)
    ∧ (∀ (s : State) (lk : Link) (code tag : Byte) (pl : List Byte), s.portFree lk → code.toNat ∉ catalogueCodes →
      exec (.unknownCommand lk code tag pl) s = .next (s.answering lk code tag [0x01]).settle)

/-- The receiver (R175): in HUNT only a start byte starts a frame; in a frame bytes are kept until it is complete; a
length out of range or a CRC that does not match drops it; so do a gap of 20 ms and a framing error. When the last
byte of a reply has been sent the port is FREE; the frame sent echoes command and tag (R177). A query whose result is
not known has no reply to send: that REPLY_SENT then changes nothing is the model's choice (log 6). -/
def Obligations.LinkPortEvents : Prop :=
  (∀ (s : State) (lk : Link),
      (∀ b : Byte, (s.port lk).rx = .hunt → b ≠ 0x7E → exec (.linkByteReceived lk b) s = .next s.settle)
        ∧ ((s.port lk).rx = .hunt →
            exec (.linkByteReceived lk 0x7E) s = .next (s.setReceiver lk (.inFrame [] s.now)).settle)
        ∧ (∀ (at' : Nat) (len b : Byte) (more : List Byte), (s.port lk).rx = .inFrame (len :: more) at' →
            s.now - at' ≤ msToTicks 20 → 2 ≤ len.toNat → len.toNat ≤ 242 → more.length + 1 < len.toNat + 2 →
            exec (.linkByteReceived lk b) s = .next (s.setReceiver lk (.inFrame (len :: more ++ [b]) s.now)).settle)
        ∧ (∀ (at' : Nat) (len : Byte), (s.port lk).rx = .inFrame [] at' → s.now - at' ≤ msToTicks 20 →
            len.toNat < 2 ∨ 242 < len.toNat →
            exec (.linkFrameDiscarded lk len) s = .next (s.setReceiver lk .hunt).settle)
        ∧ (∀ (at' : Nat) (len x y : Byte) (more : List Byte), (s.port lk).rx = .inFrame (len :: more ++ [x]) at' →
            s.now - at' ≤ msToTicks 20 → 2 ≤ len.toNat → len.toNat ≤ 242 → more.length = len.toNat →
            be16 (crc16 (len :: more)) ≠ [x, y] →
            exec (.linkFrameDiscarded lk y) s = .next (s.setReceiver lk .hunt).settle)
        ∧ (∀ (at' : Nat) (bytes : List Byte), (s.port lk).rx = .inFrame bytes at' →
            exec (.linkGapTimeout lk false) s
                = .next ((s.atInstant (at' + msToTicks 20)).setReceiver lk .hunt).settle
              ∧ exec (.linkGapTimeout lk true) s = .next (s.setReceiver lk .hunt).settle))
    ∧ (∀ (s : State) (lk : Link) (cmd tag : Byte),
      (∀ reply : List Byte, (s.port lk).answer = .answering cmd tag (some reply) →
          exec (.replySent lk) s = .next (s.setPort lk
            { s.port lk with
              answer := .free
              lastReply := some (0x7E :: withCrc (BitVec.ofNat 8 (reply.length + 2) :: cmd :: tag :: reply)) }).settle)
        ∧ ((s.port lk).answer = .answering cmd tag none → exec (.replySent lk) s = .next s.settle))

/-! ### Requests -/

/-- Each read command with its arguments right is answered OK with its reply, from either link and in every mode, and
changes nothing but the answer state of its port (R178, R179, R188). The replies field by field (R185, R188): STATUS
(the occupied slots are a count, log 18), READ_TABLE, READ_PHASES (the bytes of absent per-cycle values, log 16),
READ_PLAN (an absent record is all zero, log 17), READ_QUEUE, READ_SLOTS (R108; a part of a millisecond is dropped,
log 36), READ_HISTORY with the start rule of R83, READ_EVENTS and READ_INPUTS; the codes of their named values are
R185's. -/
def Obligations.ReadCommandsAnswer : Prop :=
  (∀ (s : State) (lk : Link) (tag : Byte), s.portFree lk →
    exec (.status lk tag []) s = .next (s.answering lk 0x01 tag (0x00 :: statusReply s)).settle
      ∧ (∀ n : ConnId, exec (.readConn lk tag (u8 (connNumber n))) s
          = .next (s.answering lk 0x02 tag (0x00 :: connReply n s)).settle)
      ∧ (∀ (n : ConnId) (k : Byte), 1 ≤ k.toNat → k.toNat ≤ 16 →
          exec (.readTable lk tag (u8 (connNumber n) ++ [k])) s
            = .next (s.answering lk 0x03 tag (0x00 :: tableReply (n, k.toNat) s)).settle)
      ∧ exec (.readPhases lk tag []) s = .next (s.answering lk 0x04 tag (0x00 :: phasesReply s)).settle
      ∧ exec (.readPlan lk tag []) s = .next (s.answering lk 0x05 tag (0x00 :: planReply s)).settle
      ∧ exec (.readQueue lk tag []) s = .next (s.answering lk 0x06 tag (0x00 :: queueReply s)).settle
      ∧ exec (.readSlots lk tag []) s = .next (s.answering lk 0x07 tag (0x00 :: slotsReply s)).settle
      ∧ (∀ q : Half, exec (.readHistory lk tag (1 :: be16 q)) s
          = .next (s.answering lk 0x08 tag (0x00 :: historyReply (some q) s)).settle)
      ∧ (∀ x y : Byte, exec (.readHistory lk tag [0, x, y]) s
          = .next (s.answering lk 0x08 tag (0x00 :: historyReply none s)).settle)
      ∧ exec (.readEvents lk tag []) s = .next (s.answering lk 0x09 tag (0x00 :: eventsReply s)).settle
      ∧ exec (.readInputs lk tag []) s = .next (s.answering lk 0x0A tag (0x00 :: inputsReply s)).settle
      ∧ (∀ (x i : Byte) (p : Param), paramOf? x.toNat i.toNat = some p →
          exec (.getParam lk tag [x, i]) s
            = .next (s.answering lk 0x0B tag (0x00 :: x :: i :: i32 (s.stored p))).settle))
    ∧ ([ModeName.config, .manual, .auto, .halted, .rideThrough].map ModeName.code = [1, 2, 3, 4, 5]
      ∧ [StoreName.charging, .ready, .recovery, .fault].map StoreName.code = [0, 1, 2, 3]
      ∧ [Health.healthy, .degraded, .lost, .recovering].map Health.code = [0, 1, 2, 3]
      ∧ [Phase.A, .B, .C].map Phase.code = [1, 2, 3]
      ∧ [Origin.planner, .rescue, .operator, .service].map Origin.code = [1, 2, 3, 4]
      ∧ [Origin.planner, .rescue, .operator, .service].map (fun o => MoveClass.code o.moveClass) = [3, 1, 2, 2]
      ∧ [Stage.waitBreak, .breaking, .gap, .waitMake, .making, .waitReturn, .returning, .orphaned].map Stage.code
          = [1, 2, 3, 4, 5, 6, 7, 8]
      ∧ [ActKind.brk, .make, .ret].map ActKind.code = [1, 2, 3]
      ∧ [Result.done, .notOpened, .returned, .dark, .reverted, .wrongPhase, .noReply, .stale, .blocked, .moduleOffline,
          .targetUnhealthy, .limitReached, .displaced, .expired, .cancelled, .halted, .abandoned].map Result.code
          = [1, 2, 3, 4, 5, 6, 7, 8, 9, 10, 11, 12, 13, 14, 15, 16, 17]
      ∧ [PlanOutcome.notAuto, .disturbed, .pending, .queueFull, .balanced, .noCandidate, .planned].map PlanOutcome.code
          = [1, 2, 3, 4, 5, 6, 7]
      ∧ [RescueCause.loss, .epochEnd].map RescueCause.code = [1, 2]
      ∧ [HaltSource.rlyBlock, .rlyTrip, .door, .aux1, .aux2, .neutralOc, .esFault, .mapFault].map HaltSource.bit
          = [0, 1, 2, 3, 4, 5, 6, 7])
    ∧ (∀ s : State,
      statusReply s
          = u8 (ModeName.code s.modeName)
            ++ u8 (match s.mdc.mode with
              | .rideThrough m => ModeName.code m.name
              | .base _ => 0)
            ++ [if s.keyLocal then 1 else 0] ++ u8 s.mvq.queue.length ++ u8 s.slotRecords.length
            ++ u8 (StoreName.code s.esm.store.name) ++ u16 s.esm.voltage
            ++ (match s.esm.store with
              | .charging since timeout => 1 :: u16 (min timeout ((s.now - since) / Config.ticksPerMs))
              | _ => [0, 0, 0])
            ++ (match s.esm.store with
              | .recovery count g => [1] ++ u8 count ++ u8 g.recovery ++ [1] ++ u8 g.slot.val ++ u8 (ActKind.code g.kind)
              | _ => [0, 0, 0, 0, 0, 0])
            ++ u32 s.tbs.timeOfDay ++ be16 s.tbs.day ++ be32 s.tbs.epoch ++ u16 s.tbs.epochLength
            ++ be16 s.mvq.seqCounter ++ be32 s.sbc.frame ++ [if s.haltActive then 1 else 0]
        ∧ (statusReply s).length = 36
        ∧ (∀ (n : ConnId) (k : Nat), 1 ≤ k → k ≤ 16 → ∃ ns : List ConnId,
            ns.map (·.val) = (List.range (min k (96 - n.val))).map (n.val + ·)
              ∧ tableReply (n, k) s = u8 (min k (96 - n.val)) ++ ns.flatMap (connEntry s))
        ∧ phasesReply s
          = [Phase.A, .B, .C].flatMap (fun p =>
              u8 (Health.code (s.health p)) ++ [if (s.chan p).started then 1 else 0]
                ++ (match (s.chan p).latest with
                  | some v => 1 :: u16 v.rmsV ++ u16 v.rmsI ++ i32 v.power
                  | none => [0, 0, 0, 0, 0, 0x80, 0, 0, 0])
                ++ (match s.average p with
                  | some a => i32 a
                  | none => [0x80, 0, 0, 0]))
            ++ (match s.fmu.neutral.latest with
              | some r => 1 :: u16 r
              | none => [0, 0, 0])
            ++ [if s.fmu.neutral.overcurrent then 1 else 0]
            ++ (match s.fmu.averages with
              | some a => 1 :: be32 a.epoch
              | none => [0, 0, 0, 0, 0])
        ∧ (s.bpl.plan = none → (planReply s).take 45 = List.replicate 45 0)
        ∧ (∀ p, s.bpl.plan = some p → p.entries.length ≤ 4 →
            (planReply s).take 45
              = 1 :: be32 p.epoch ++ u8 (PlanOutcome.code p.outcome)
                ++ (match p.before with
                  | some x => 1 :: i32 x
                  | none => [0, 0, 0, 0, 0])
                ++ (match p.after with
                  | some x => 1 :: i32 x
                  | none => [0, 0, 0, 0, 0])
                ++ u8 p.entries.length
                ++ p.entries.flatMap (fun e => u8 (e.conn.val + 1) ++ u8 (Phase.code e.source)
                  ++ u8 (Phase.code e.target) ++ i32 e.gain)
                ++ List.replicate (28 - 7 * p.entries.length) 0)
        ∧ (s.bpl.rescue = none → (∀ p, s.bpl.plan = some p → p.entries.length ≤ 4) →
            (planReply s).drop 45 = List.replicate 11 0)
        ∧ (∀ r, s.bpl.rescue = some r → (∀ p, s.bpl.plan = some p → p.entries.length ≤ 4) →
            (planReply s).drop 45
              = 1 :: u8 (RescueCause.code r.cause) ++ be32 r.epoch
                ++ u8 ((if r.lost.a then 1 else 0) + (if r.lost.b then 2 else 0) + (if r.lost.c then 4 else 0))
                ++ u8 r.accepted ++ u8 r.displaced ++ u8 r.deferred ++ u8 r.unplaced)
        ∧ queueReply s
          = u8 s.mvq.queue.length ++ s.mvq.queue.flatMap (fun r =>
              be16 r.seq ++ u8 (r.conn.val + 1) ++ u8 (Phase.code r.source) ++ u8 (Phase.code r.target)
                ++ u8 (Origin.code r.origin) ++ u8 (MoveClass.code r.origin.moveClass)
                ++ (match r.load with
                  | some l => i16 l
                  | none => [0x80, 0])
                ++ be32 r.acceptedEpoch))
    ∧ (∀ s : State,
      slotsReply s = [0, 1, 2, 3].flatMap (slotEntry s)
        ∧ (∀ k, s.slot k = none → slotEntry s k = List.replicate 19 0)
        ∧ (∀ k sl, s.slot k = some sl → slotEntry s k
            = 1 :: be16 sl.record.seq ++ u8 (sl.record.conn.val + 1) ++ u8 (Phase.code sl.record.source)
              ++ u8 (Phase.code sl.record.target) ++ u8 (Origin.code sl.record.origin)
              ++ u8 (MoveClass.code sl.record.origin.moveClass) ++ u8 (Stage.code sl.stage)
              ++ ([if sl.record.cancel then 1 else 0] : List Byte) ++ u8 sl.record.breaks ++ u8 sl.record.makes
              ++ u8 sl.record.returns
              ++ (match sl.record.breakTime with
                | some t => (1 :: u16 (min 65535 ((s.now - t) / Config.ticksPerMs)) : List Byte)
                | none => [0, 0, 0])
              ++ u8 (match sl.stage with
                | .waitReturn => (match s.returnPhase sl.record with
                  | some p => Phase.code p
                  | none => 4)
                | .returning => (match sl.lastAct.bind (·.named) with
                  | some p => Phase.code p
                  | none => 4)
                | _ => 0)
              ++ u8 (match s.request sl with
                | some a => ActKind.code a
                | none => 0)
              ++ u8 sl.misses)
        ∧ (∀ start : Option Half, ∃ (held : Bool) (es : List HistEntry),
            historyReply start s
              = u8 s.mvq.history.length ++ [if held then 1 else 0] ++ u8 (min 8 es.length)
                ++ (es.take 8).flatMap (fun e => be16 e.seq ++ u8 (e.conn.val + 1) ++ u8 (Phase.code e.source)
                  ++ u8 (Phase.code e.target) ++ u8 (Origin.code e.origin) ++ u8 (Result.code e.result) ++ be32 e.epoch
                  ++ u32 e.timeOfDay ++ u8 e.breaks ++ u8 e.makes ++ u8 e.returns
                  ++ [if e.breakConfirmed then 1 else 0])
            ∧ (start = none → held = true ∧ es = s.mvq.history)
            ∧ (∀ q, start = some q → (∀ e ∈ s.mvq.history, e.seq ≠ q) → held = false ∧ es = s.mvq.history)
            ∧ (∀ q, start = some q → (∃ e ∈ s.mvq.history, e.seq = q) → held = true
                ∧ ∃ (old later : List HistEntry) (e : HistEntry), s.mvq.history = old ++ e :: later ∧ e.seq = q
                  ∧ (∀ x ∈ later, x.seq ≠ q) ∧ es = e :: later))
        ∧ eventsReply s = be16 s.evu.statuses ++ be16 s.params.alertMask ++ be16 s.params.lampMask
            ++ [if s.evu.alert then 1 else 0] ++ [if s.evu.lamp then 1 else 0]
        ∧ inputsReply s
          = [InputLine.rlyBlock, .rlyTrip, .door, .keyLocal, .supplyWarn, .aux1, .aux2].flatMap (fun i =>
              [if (s.input i).polarityHigh then 1 else 0] ++ [if (s.input i).level then 1 else 0]
                ++ u16 (s.input i).debounce ++ [if (s.input i).sampled then 1 else 0]
                ++ [if (s.input i).debounced then 1 else 0]
                ++ (match (s.input i).run with
                  | some m => 1 :: u16 m
                  | none => [0, 0, 0])
                ++ [if (s.input i).status then 1 else 0])
            ++ u8 s.assertedSet ++ [s.params.haltMask] ++ [if s.haltActive then 1 else 0]
            ++ (match s.ilu.supply with
              | .clear => [0, 0, 0, 0]
              | .warning => [1, 0, 0, 0]
              | .clearing since => 2 :: 1 :: u16 (min 2000 ((s.now - since) / Config.ticksPerMs)))
            ++ [if s.keyLocal then 1 else 0] ++ u8 s.ilu.haltRecord.length
            ++ s.ilu.haltRecord.flatMap (fun e =>
              u8 e.source.bit ++ u8 (ModeName.code e.mode) ++ be32 e.epoch ++ u32 e.timeOfDay)
            ++ List.replicate (80 - 10 * s.ilu.haltRecord.length) 0
        ∧ (∀ h : HaltSource, (BitVec.ofNat 8 s.assertedSet).getLsbD h.bit = s.asserted h))

/-- The connection entry and the READ_CONN reply, byte by byte (R187). -/
def Obligations.ConnectionEntryLayout : Prop :=
  ∀ (s : State) (n : ConnId), (s.conn n).inRange →
    ∃ b0 b1 b2 b3 b4 b5 b6 b7 b8 b9 b10 b11 b12 b13 : Byte,
      connEntry s n = [b0, b1, b2, b3, b4, b5, b6, b7, b8, b9, b10, b11, b12, b13]
        ∧ b0.toNat = n.val + 1
        ∧ b1.getLsbD 7 = (s.conn n).present ∧ b1.toNat / 32 % 4 = (s.conn n).timing.val
        ∧ b1.toNat / 8 % 4 = LinkState.code (s.conn n).link ∧ b1.toNat % 8 = Confirmed.code (s.conn n).phase
        ∧ b2.getLsbD 7 = (s.conn n).dark ∧ b2.getLsbD 6 = (s.conn n).pin
        ∧ b2.toNat / 16 % 4 = holdCode (s.conn n).hold ∧ b2.getLsbD 3 = (s.conn n).fault
        ∧ b2.getLsbD 2 = (s.conn n).localOp ∧ b2.toNat % 4 = (s.conn n).missedRun
        ∧ b3 = (s.conn n).expected
        ∧ b4.toNat / 16 = (s.conn n).movesToday ∧ b4.toNat % 16 = (s.conn n).uncommanded
        ∧ b5.toNat / 16 = (s.conn n).allowance ∧ b5.getLsbD 3 = (s.conn n).recordLink.isSome
        ∧ b5.getLsbD 2 = (s.conn n).lastMove.isSome ∧ b5.toNat % 4 = 0
        ∧ half b6 b7 = BitVec.ofInt 16 ((s.conn n).lastLoad.getD (-32768))
        ∧ half b8 b9 = BitVec.ofInt 16 ((s.conn n).epochLoad.getD (-32768))
        ∧ half b10 b11 = (s.conn n).recordLink.getD 0
        ∧ (half b12 b13).toNat = (match (s.conn n).lastMove with
            | some m => min 65535 (s.tbs.epoch - m).toNat
            | none => 0)
        ∧ connReply n s = connEntry s n ++ be32 ((s.conn n).lastMove.getD 0)

/-- PIN and HOLD of a present connection from the in-control link: refused BUSY while its record is in a slot, else
the bar is set, a hold already present keeping its reason; refused NOT_PRESENT for an absent record (R16, R17, R19).
UNPIN is taken from the service link while the key is at LOCAL, and refused NOT_IN_CONTROL otherwise (R18).
SET_ALLOWANCE stores the value clamped to 15, in any mode and with any record, and echoes it (R22). -/
def Obligations.BarsAndAllowanceTaken : Prop :=
  (∀ (s : State) (lk : Link) (tag : Byte) (n : ConnId), s.portFree lk → s.mdc.authority = lk →
      ((s.conn n).present = true → s.slotOf n = none →
          exec (.pin lk tag (u8 (connNumber n))) s
              = .next ((s.setConn n { s.conn n with pin := true }).answering lk 0x22 tag [0x00]).settle
            ∧ ((s.conn n).hold = none → exec (.hold lk tag (u8 (connNumber n))) s
                = .next ((s.setConn n { s.conn n with hold := some .operator }).answering lk 0x23 tag [0x00]).settle)
            ∧ ((s.conn n).hold ≠ none → exec (.hold lk tag (u8 (connNumber n))) s
                = .next (s.answering lk 0x23 tag [0x00]).settle))
        ∧ ((s.conn n).present = true → s.slotOf n ≠ none →
            exec (.pin lk tag (u8 (connNumber n))) s = .next (s.answering lk 0x22 tag [0x07]).settle
              ∧ exec (.hold lk tag (u8 (connNumber n))) s = .next (s.answering lk 0x23 tag [0x07]).settle)
        ∧ ((s.conn n).present = false →
            exec (.pin lk tag (u8 (connNumber n))) s = .next (s.answering lk 0x22 tag [0x0A]).settle
              ∧ exec (.hold lk tag (u8 (connNumber n))) s = .next (s.answering lk 0x23 tag [0x0A]).settle))
    ∧ (∀ (s : State) (lk : Link) (tag : Byte) (n : ConnId), s.portFree lk →
      (lk = .operator ∨ s.keyLocal = false →
          exec (.unpin lk tag (u8 (connNumber n))) s = .next (s.answering lk 0x40 tag [0x03]).settle)
        ∧ (lk = .service → s.keyLocal = true → (s.conn n).present = true →
            exec (.unpin lk tag (u8 (connNumber n))) s
              = .next ((s.setConn n { s.conn n with pin := false }).answering lk 0x40 tag [0x00]).settle)
        ∧ (lk = .service → s.keyLocal = true → (s.conn n).present = false →
            exec (.unpin lk tag (u8 (connNumber n))) s = .next (s.answering lk 0x40 tag [0x0A]).settle))
    ∧ (∀ (s : State) (lk : Link) (tag a : Byte) (n : ConnId), s.portFree lk → s.mdc.authority = lk →
      (s.conn n).present = true →
      exec (.setAllowance lk tag (u8 (connNumber n) ++ [a])) s
        = .next ((s.setConn n { s.conn n with allowance := min 15 a.toNat }).answering lk 0x25 tag
            (0x00 :: u8 (min 15 a.toNat))).settle)

/-- RELEASE (R21): BUSY with the record in a slot; an OPERATOR hold goes; a CHATTER hold goes and uncommanded today
becomes 0; with no hold nothing changes; PIN is not touched. -/
def Obligations.ReleaseTaken : Prop :=
  ∀ (s : State) (lk : Link) (tag : Byte) (n : ConnId), s.portFree lk →
    (s.mdc.authority ≠ lk →
        exec (.release lk tag (u8 (connNumber n))) s = .next (s.answering lk 0x24 tag [0x03]).settle)
      ∧ (s.mdc.authority = lk → (s.conn n).present = true → s.slotOf n ≠ none →
          exec (.release lk tag (u8 (connNumber n))) s = .next (s.answering lk 0x24 tag [0x07]).settle)
      ∧ (s.mdc.authority = lk → (s.conn n).present = true → s.slotOf n = none → (s.conn n).hold = some .operator →
          exec (.release lk tag (u8 (connNumber n))) s
            = .next ((s.setConn n { s.conn n with hold := none }).answering lk 0x24 tag [0x00]).settle)
      ∧ (s.mdc.authority = lk → (s.conn n).present = true → s.slotOf n = none → (s.conn n).hold = some .chatter →
          exec (.release lk tag (u8 (connNumber n))) s
            = .next ((s.setConn n { s.conn n with hold := none, uncommanded := 0 }).answering lk 0x24 tag [0x00]).settle)
      ∧ (s.mdc.authority = lk → (s.conn n).present = true → s.slotOf n = none → (s.conn n).hold = none →
          exec (.release lk tag (u8 (connNumber n))) s = .next (s.answering lk 0x24 tag [0x00]).settle)

/-- CONFIG_CONN: refused WRONG_MODE outside CONFIG; in CONFIG its four effects (R4). SET_CLASS in CONFIG stores and
echoes six clamped values (R132). -/
def Obligations.ConfigurationCommandsTaken : Prop :=
  (∀ (s : State) (lk : Link) (tag : Byte) (n : ConnId) (present : Bool) (k : Fin 4), s.portFree lk →
      s.mdc.authority = lk →
      (s.modeName ≠ .config → exec (.configConn lk tag (u8 (connNumber n) ++ flag present ++ u8 k.val)) s
          = .next (s.answering lk 0x26 tag [0x04]).settle)
        ∧ (s.modeName = .config → (s.conn n).present = false → present = true →
            exec (.configConn lk tag (u8 (connNumber n) ++ flag present ++ u8 k.val)) s
              = .next ((s.setConn n { s.conn n with
                  present := true, timing := k, link := .unseen, phase := .unknown, expected := 0, pendingAct := none,
                  dark := false, lastLoad := none, accSum := 0, accCount := 0, nextSum := 0, nextCount := 0,
                  epochLoad := none, missedRun := 0, fault := false, localOp := false }).answering lk 0x26 tag [0x00]).settle)
        ∧ (s.modeName = .config → (s.conn n).present = present →
            exec (.configConn lk tag (u8 (connNumber n) ++ flag present ++ u8 k.val)) s
              = .next ((s.setConn n { s.conn n with timing := k }).answering lk 0x26 tag [0x00]).settle)
        ∧ (s.modeName = .config → (s.conn n).present = true → present = false →
            exec (.configConn lk tag (u8 (connNumber n) ++ flag present ++ u8 k.val)) s
              = .next ((s.setConn n { s.conn n with present := false }).answering lk 0x26 tag [0x00]).settle))
    ∧ (∀ (s : State) (lk : Link) (tag : Byte) (k : Fin 4) (b m g o : Half) (se re : Byte), s.portFree lk →
      s.mdc.authority = lk →
      (s.modeName ≠ .config →
          exec (.setClass lk tag (u8 k.val ++ be16 b ++ be16 m ++ [se, re] ++ be16 g ++ be16 o)) s
            = .next (s.answering lk 0x27 tag [0x04]).settle)
        ∧ (s.modeName = .config → ∃ c : TimingClass,
            c.breakPulse = max 5 (min 100 b.toNat) ∧ c.makePulse = max 5 (min 100 m.toNat)
              ∧ c.settle = max 1 (min 10 se.toNat) ∧ c.recovery = max 2 (min 100 re.toNat)
              ∧ c.orphan = max 500 (min 5000 o.toNat)
              ∧ c.gap = min (max 20 (min 1000 g.toNat)) (c.orphan - 300)
              ∧ exec (.setClass lk tag (u8 k.val ++ be16 b ++ be16 m ++ [se, re] ++ be16 g ++ be16 o)) s
                = .next (({ s with classes := s.classes.set k c } : State).answering lk 0x27 tag
                    (0x00 :: (u8 k.val ++ u16 c.breakPulse ++ u16 c.makePulse ++ u8 c.settle ++ u8 c.recovery ++ u16 c.gap
                      ++ u16 c.orphan))).settle))

/-- SET_PARAM of a parameter the table holds, in a mode its gate accepts, stores the value and echoes number, index and
stored value; an enumerated value outside its codes is refused BAD_ARG, the nominal frequency outside CONFIG WRONG_MODE,
a number or index outside the table BAD_ARG (R183). -/
def Obligations.SetParamStoresAndEchoes : Prop :=
  ∀ (s : State) (lk : Link) (tag x i : Byte) (v : Word), s.portFree lk → s.mdc.authority = lk →
    (paramOf? x.toNat i.toNat = none →
        exec (.setParam lk tag (x :: i :: be32 v)) s = .next (s.answering lk 0x28 tag [0x02]).settle)
      ∧ (paramOf? x.toNat i.toNat = some .nominal → s.modeName ≠ .config →
          exec (.setParam lk tag (x :: i :: be32 v)) s = .next (s.answering lk 0x28 tag [0x04]).settle)
      ∧ ∀ p : Param, paramOf? x.toNat i.toNat = some p → (p = .nominal → s.modeName = .config) →
          ((s.asking lk 0x28 tag).writeParam p v.toInt = none →
              exec (.setParam lk tag (x :: i :: be32 v)) s = .next (s.answering lk 0x28 tag [0x02]).settle)
            ∧ ∀ t : State, (s.asking lk 0x28 tag).writeParam p v.toInt = some t →
              exec (.setParam lk tag (x :: i :: be32 v)) s
                = .next (t.setReply lk (0x00 :: x :: i :: i32 (t.stored p))).settle

/-- What each parameter stores: a numeric value clamped to its range, a mask its low bits, an enumerated value one of
its codes or nothing, a set the member that the value rounds down to, a type LEVEL for KEY_LOCAL and SUPPLY_WARN (R38,
R150, R183, R184). A write of the nominal frequency changes the fallback sample interval of the channels that sample
at it at once, leaves their cycles in progress (R27), and leaves the frame in progress (R111). What a write keeps:
every other parameter, and every block but the one named; a write of the neutral limit makes both neutral runs 0
(R31). A write of an input's type: from EDGE to LEVEL the status takes the debounced level at once, and a status that
this sets is a halt event when its source is masked; from LEVEL to EDGE the status keeps its value (R150). -/
def Obligations.ParametersStoreTheTable : Prop :=
  (∀ (s : State) (v : Int),
    (∀ row ∈ [(Param.vLow, 1960, 2300), (.vHigh, 2300, 2650), (.vLoss, 500, 1800), (.restoreTime, 1, 60),
        (.neutralLimit, 100, 10000), (.chatterLimit, 1, 15), (.wtrig, 0, 100000), (.wmin, 0, 100000),
        (.plim, 1000, 250000), (.kmax, 1, 4), (.restPeriod, 0, 255), (.readyLevel, 240, 900), (.chargeTimeout, 1, 30)],
        ∃ t : State, s.writeParam row.1 v = some t ∧ t.stored row.1 = max row.2.1 (min row.2.2 v))
      ∧ (∀ p ∈ [Param.chatterHold, .rescue], (∃ t : State, s.writeParam p v = some t ∧ t.stored p = v) ∨
          (v ≠ 0 ∧ v ≠ 1 ∧ s.writeParam p v = none))
      ∧ ((∃ t : State, s.writeParam .nominal v = some t ∧ t.stored .nominal = v ∧ t.sbc = s.sbc
            ∧ ∀ p, t.chan p = if (s.chan p).fallback then { s.chan p with interval := t.period / 128 } else s.chan p) ∨
          (v ≠ 50 ∧ v ≠ 60 ∧ s.writeParam .nominal v = none))
      ∧ (∃ t : State, s.writeParam .haltMask v = some t ∧ t.stored .haltMask = v % 256)
      ∧ (∀ p ∈ [Param.alertMask, .lampMask], ∃ t : State, s.writeParam p v = some t ∧ t.stored p = v % 65536)
      ∧ (∃ (t : State) (m : Nat), s.writeParam .epochLength v = some t ∧ t.stored .epochLength = m ∧ m ∈ epochLengths
          ∧ ((m : Int) ≤ v ∨ m = 10) ∧ ∀ j ∈ epochLengths, (j : Int) ≤ v → j ≤ m)
      ∧ (∀ i : InputLine, ∃ (t : State) (m : Nat), s.writeParam (.debounce i) v = some t
          ∧ t.stored (.debounce i) = m ∧ m ∈ debounceTimes ∧ ((m : Int) ≤ v ∨ m = 0)
          ∧ ∀ j ∈ debounceTimes, (j : Int) ≤ v → j ≤ m)
      ∧ (∀ i : InputLine, (∃ t : State, s.writeParam (.polarity i) v = some t ∧ t.stored (.polarity i) = v) ∨
          (v ≠ 0 ∧ v ≠ 1 ∧ s.writeParam (.polarity i) v = none))
      ∧ (∀ i ∈ [InputLine.keyLocal, .supplyWarn],
          ∃ t : State, s.writeParam (.inputType i) v = some t ∧ t.stored (.inputType i) = 1)
      ∧ (∀ i ∈ sourceInputs, (∃ t : State, s.writeParam (.inputType i) v = some t ∧ t.stored (.inputType i) = v) ∨
          (v ≠ 0 ∧ v ≠ 1 ∧ s.writeParam (.inputType i) v = none)))
    ∧ (∀ (s t : State) (p : Param) (v : Int), s.writeParam p v = some t →
      (∀ q, q ≠ p → t.stored q = s.stored q)
        ∧ (p ∈ [.vLow, .vHigh, .vLoss, .restoreTime, .chatterLimit, .chatterHold, .wtrig, .wmin, .plim, .kmax,
            .restPeriod, .rescue, .readyLevel, .chargeTimeout, .haltMask, .alertMask, .lampMask] →
          t = { s with params := t.params })
        ∧ (p = .neutralLimit → t = { s with
            params := t.params
            fmu := { s.fmu with neutral := { s.fmu.neutral with overRun := 0, underRun := 0 } } })
        ∧ (p = .nominal → t = { s with params := t.params, fmu := { s.fmu with chan := t.fmu.chan } })
        ∧ (p = .epochLength → t = { s with tbs := { s.tbs with pendingLength := t.tbs.pendingLength } })
        ∧ (∀ i, p = .polarity i →
          t = s.setInput i { s.input i with polarityHigh := (t.input i).polarityHigh })
        ∧ (∀ i, p = .debounce i → t = s.setInput i { s.input i with debounce := (t.input i).debounce })
        ∧ (∀ i, p = .inputType i →
          let r := s.input i
          let x := s.setInput i { r with level := true, status := r.debounced }
          (r.level = true ∨ (t.input i).level = false → t = s.setInput i { r with level := (t.input i).level })
            ∧ (r.level = false → (t.input i).level = true →
              (r.debounced = false ∨ r.status = true ∨ haltSourceOf i = none → t = x)
                ∧ ∀ h, haltSourceOf i = some h → (s.masked h = false → t = x)
                  ∧ (r.debounced = true → r.status = false → t = x.haltEvent h))))

/-- The checks of MOVE in their order, the authority test (check 1) passed: the first that fails gives the refusal
(R71). The mode comes before the arguments; a payload that names no connection or no phase, or has another length, is
BAD_ARG. -/
def Obligations.MoveRefusedByFirstFailure : Prop :=
  ∀ (s : State) (lk : Link) (tag : Byte) (n : ConnId) (y : Phase), s.portFree lk → s.mdc.authority = lk →
    let refusedWith := fun st : Byte =>
      exec (.move lk tag (u8 (connNumber n) ++ u8 (Phase.code y))) s = .next (s.answering lk 0x20 tag [st]).settle
    let c := s.conn n
    (∀ pl : List Byte,
        (s.modeName = .config ∨ s.modeName = .rideThrough →
            exec (.move lk tag pl) s = .next (s.answering lk 0x20 tag [0x04]).settle)
          ∧ (s.modeName = .halted → exec (.move lk tag pl) s = .next (s.answering lk 0x20 tag [0x05]).settle)
          ∧ (s.modeName = .manual ∨ s.modeName = .auto →
              pl.length ≠ 2 ∨ (∃ a b : Byte, pl = [a, b] ∧ (a = 0 ∨ 96 < a.toNat ∨ b = 0 ∨ 3 < b.toNat)) →
              exec (.move lk tag pl) s = .next (s.answering lk 0x20 tag [0x02]).settle))
      ∧ (s.modeName = .config ∨ s.modeName = .rideThrough → refusedWith 0x04)
      ∧ (s.modeName = .halted → refusedWith 0x05)
      ∧ (s.modeName = .manual ∨ s.modeName = .auto →
          (c.present = false → refusedWith 0x0A)
            ∧ (c.present = true → (c.phase = .off ∨ c.phase = .unknown → refusedWith 0x0B)
              ∧ (c.phase = .on y → refusedWith 0x0C)
              ∧ ∀ x, c.phase = .on x → x ≠ y → (c.pin = true → refusedWith 0x0D)
                ∧ (c.pin = false → (c.hold ≠ none → refusedWith 0x0E)
                  ∧ (c.hold = none → (c.recordLink ≠ none → refusedWith 0x09)
                    ∧ (c.recordLink = none → (c.link ≠ .online → refusedWith 0x0F)
                      ∧ (c.link = .online → (s.health y ≠ .healthy → refusedWith 0x10)
                        ∧ (s.health y = .healthy → (15 ≤ c.movesToday → refusedWith 0x11)
                          ∧ (c.movesToday < 15 → 16 ≤ s.mvq.queue.length →
                              (∀ r ∈ s.mvq.queue, r.origin ≠ .planner) → refusedWith 0x08))))))))

/-- A MOVE that passes every check: a record with the next sequence number, linked to its connection and placed in the
queue; the reply carries the number (R68, R69, R71). A full queue first gives up its youngest PLANNER record, which ends
DISPLACED (R72). -/
def Obligations.MoveAccepted : Prop :=
  ∀ (s : State) (lk : Link) (tag : Byte) (n : ConnId) (x y : Phase), s.portFree lk → s.mdc.authority = lk →
    s.modeName = .manual ∨ s.modeName = .auto → (s.conn n).present = true → (s.conn n).phase = .on x → x ≠ y →
    (s.conn n).pin = false → (s.conn n).hold = none → (s.conn n).recordLink = none → (s.conn n).link = .online →
    s.health y = .healthy → (s.conn n).movesToday < 15 →
    (s.mvq.queue.length < 16 →
      exec (.move lk tag (u8 (connNumber n) ++ u8 (Phase.code y))) s
        = .next (({ s.setConn n { s.conn n with recordLink := some s.mvq.seqCounter } with
            mvq := { s.mvq with
              queue := insertRec
                { seq := s.mvq.seqCounter, conn := n, source := x, target := y, origin := Link.origin lk,
                  load := (s.conn n).epochLoad, acceptedEpoch := s.tbs.epoch, cancel := false, breaks := 0, makes := 0,
                  returns := 0, breakTime := none, order := s.mvq.acceptCount } s.mvq.queue
              seqCounter := s.mvq.seqCounter + 1
              acceptCount := s.mvq.acceptCount + 1 } } : State).answering lk 0x20 tag
                (0x00 :: be16 s.mvq.seqCounter)).settle)
      ∧ (16 ≤ s.mvq.queue.length → ∀ d, s.youngestPlanner = some d →
          exec (.move lk tag (u8 (connNumber n) ++ u8 (Phase.code y))) s
            = .next (((s.endQueued d .displaced).accept n x y (Link.origin lk)).answering lk 0x20 tag
                (0x00 :: be16 s.mvq.seqCounter)).settle)

/-- CANCEL of a queued record ends it CANCELLED: it leaves its place, its link is cleared and its history entry
written; at WAIT_BREAK the transfer ends CANCELLED; at GAP and WAIT_MAKE the slot goes to WAIT_RETURN with its flag
set; at every other stage the flag is set and the stage kept; a number neither queued nor in a slot is refused
NO_RECORD (R74, R81, R82, R103). -/
def Obligations.CancelTaken : Prop :=
  ∀ (s : State) (lk : Link) (tag : Byte) (q : Half), s.portFree lk → s.mdc.authority = lk →
    (∀ r, s.mvq.queue.find? (fun r => r.seq == q) = some r →
        exec (.cancel lk tag (be16 q)) s
          = .next (({ s.setConn r.conn { s.conn r.conn with recordLink := none } with
              mvq := { s.mvq with
                queue := s.mvq.queue.filter fun x => x.order != r.order
                history := pushHistory s.mvq.history
                  { seq := r.seq, conn := r.conn, source := r.source, target := r.target, origin := r.origin,
                    result := .cancelled, epoch := s.tbs.epoch, timeOfDay := s.tbs.timeOfDay, breaks := r.breaks,
                    makes := r.makes, returns := r.returns, breakConfirmed := r.breakTime.isSome } } } : State).answering
                      lk 0x21 tag [0x00]).settle)
      ∧ ((∀ r ∈ s.mvq.queue, r.seq ≠ q) → (∀ r ∈ s.slotRecords, r.seq ≠ q) →
          exec (.cancel lk tag (be16 q)) s = .next (s.answering lk 0x21 tag [0x12]).settle)
      ∧ ((∀ r ∈ s.mvq.queue, r.seq ≠ q) → ∀ k sl, s.slotWithSeq q = some k → s.slot k = some sl →
          sl.stage = .waitBreak → ∃ t : State, exec (.cancel lk tag (be16 q)) s = .next t
            ∧ t.slot k = none ∧ (∀ j, j ≠ k → t.slot j = s.slot j) ∧ t.mvq.queue = s.mvq.queue
            ∧ (t.conn sl.record.conn).recordLink = none ∧ (t.port lk).answer = .answering 0x21 tag (some [0x00])
            ∧ t.mvq.history.getLast?.map (·.result) = some .cancelled)
      ∧ ((∀ r ∈ s.mvq.queue, r.seq ≠ q) → ∀ k sl, s.slotWithSeq q = some k → s.slot k = some sl →
          (∀ bt, sl.stage = .gap ∨ sl.stage = .waitMake → sl.record.breakTime = some bt → s.returnable sl.record bt →
              exec (.cancel lk tag (be16 q)) s
                = .next ((s.setSlot k (some { sl with
                    stage := .waitReturn, verifyDue := none, record := { sl.record with cancel := true } })).answering
                      lk 0x21 tag [0x00]).settle)
            ∧ (sl.stage = .breaking ∨ sl.stage = .making ∨ sl.stage = .waitReturn ∨ sl.stage = .returning
                ∨ sl.stage = .orphaned →
              exec (.cancel lk tag (be16 q)) s
                = .next ((s.setSlot k (some { sl with record := { sl.record with cancel := true } })).answering
                    lk 0x21 tag [0x00]).settle))

/-- The mode commands where they are taken, a change to MANUAL or AUTO with the admission of R165 step 3 in the same
operation, and where they are answered OK with nothing changed (R166 to R170). The
mode commands where they are refused: by the mode, then by their own conditions (R166, R167, R169, R170). -/
def Obligations.ModeCommands : Prop :=
  (∀ (s : State) (lk : Link) (tag : Byte), s.portFree lk → s.mdc.authority = lk →
      (s.modeName = .config → s.haltActive = false → (∀ n, (s.conn n).present = true → (s.conn n).link ≠ .unseen) →
          exec (.start lk tag []) s
            = .next ((s.emptyHaltRecord.setMode (.base .manual)).takeAdmission.answering lk 0x29 tag [0x00]).settle)
        ∧ (s.modeName = .manual → exec (.autoOn lk tag []) s
            = .next ((s.setMode (.base .auto)).takeAdmission.answering lk 0x2A tag [0x00]).settle)
        ∧ (s.modeName = .auto → exec (.autoOff lk tag []) s
            = .next ((s.setMode (.base .manual)).takeAdmission.answering lk 0x2B tag [0x00]).settle)
        ∧ (s.modeName = .manual ∨ s.modeName = .auto → s.mvq.queue = [] → (∀ k, s.slot k = none) →
            exec (.configure lk tag []) s
              = .next ((s.setMode (.base .config)).answering lk 0x2C tag [0x00]).settle)
        ∧ (s.modeName = .halted → s.haltActive = false → exec (.resume lk tag []) s
            = .next ((s.emptyHaltRecord.setMode (.base .manual)).takeAdmission.answering lk 0x2D tag [0x00]).settle)
        ∧ (s.modeName = .manual → s.mvq.queue = [] ∨ s.freeSlot = none → exec (.autoOn lk tag []) s
            = .next ((s.setMode (.base .auto)).answering lk 0x2A tag [0x00]).settle)
        ∧ (s.modeName = .auto → exec (.autoOn lk tag []) s = .next (s.answering lk 0x2A tag [0x00]).settle)
        ∧ (s.modeName = .manual → exec (.autoOff lk tag []) s = .next (s.answering lk 0x2B tag [0x00]).settle)
        ∧ (s.modeName = .config → exec (.configure lk tag []) s = .next (s.answering lk 0x2C tag [0x00]).settle))
    ∧ (∀ (s : State) (lk : Link) (tag : Byte), s.portFree lk → s.mdc.authority = lk →
      (s.modeName ≠ .config → exec (.start lk tag []) s = .next (s.answering lk 0x29 tag [0x04]).settle)
        ∧ (s.modeName = .config → s.haltActive = true →
            exec (.start lk tag []) s = .next (s.answering lk 0x29 tag [0x05]).settle)
        ∧ (s.modeName = .config → s.haltActive = false → (∃ n, (s.conn n).present = true ∧ (s.conn n).link = .unseen) →
            exec (.start lk tag []) s = .next (s.answering lk 0x29 tag [0x06]).settle)
        ∧ (s.modeName = .config ∨ s.modeName = .rideThrough →
            exec (.autoOn lk tag []) s = .next (s.answering lk 0x2A tag [0x04]).settle)
        ∧ (s.modeName = .halted → exec (.autoOn lk tag []) s = .next (s.answering lk 0x2A tag [0x05]).settle)
        ∧ (s.modeName = .config ∨ s.modeName = .halted ∨ s.modeName = .rideThrough →
            exec (.autoOff lk tag []) s = .next (s.answering lk 0x2B tag [0x04]).settle)
        ∧ (s.modeName = .halted ∨ s.modeName = .rideThrough →
            exec (.configure lk tag []) s = .next (s.answering lk 0x2C tag [0x04]).settle)
        ∧ (s.modeName = .manual ∨ s.modeName = .auto → (s.mvq.queue ≠ [] ∨ ∃ k, s.slot k ≠ none) →
            exec (.configure lk tag []) s = .next (s.answering lk 0x2C tag [0x07]).settle)
        ∧ (s.modeName ≠ .halted → exec (.resume lk tag []) s = .next (s.answering lk 0x2D tag [0x04]).settle)
        ∧ (s.modeName = .halted → s.haltActive = true →
            exec (.resume lk tag []) s = .next (s.answering lk 0x2D tag [0x05]).settle))

/-- RESTART from the in-control link, in every mode (R173). It ends every record ABANDONED, those in slots in slot
order and then the queued ones in queue order, each with its history entry (R85). In every connection record it sets
the fields of R3, a deferred chatter hold being set before (R15), and keeps every other field. The accumulators are
cleared, the epoch is marked disturbed, the two status records are absent (R43, R67), verify polls of abandoned
transfers are dropped (R106), the probes start afresh (R120). Of the pass-through list the WAITING entries leave, the
ON_BUS entries stay in their order, answered, and each link still waiting is answered BUSY (R118). RESTARTED is
raised, every other edge status but CHATTER_HOLD kept. What it keeps: the other link's port but for that answer, a
transaction on the bus, and the blocks and fields named. -/
def Obligations.RestartTaken : Prop :=
  ∀ (s : State) (lk : Link) (tag : Byte), s.portFree lk → s.mdc.authority = lk →
    ∃ t : State, exec (.restart lk tag []) s = .next t
      ∧ (t.port lk).answer = .answering 0x32 tag (some [0x00])
      ∧ t.mdc.mode = (if s.ilu.supply = .clear then .base .config else .rideThrough .config)
      ∧ t.mvq.queue = [] ∧ (∀ k, t.slot k = none)
      ∧ t.mvq.history = s.endedHistory ((s.slotRecords ++ s.mvq.queue).map fun r => (r, .abandoned))
      ∧ (let deferred := fun n => (∃ r ∈ s.slotRecords, r.conn = n) ∧ (s.conn n).chatterPending = true
            ∧ s.params.chatterLimit ≤ (s.conn n).uncommanded ∧ s.params.chatterHold = true ∧ (s.conn n).hold = none
        (∀ n, ∃ hold, (deferred n → hold = some .chatter) ∧ (¬ deferred n → hold = (s.conn n).hold)
            ∧ t.conn n = { s.conn n with
              link := .unseen, missedRun := 0, pendingAct := none, accSum := 0, accCount := 0, nextSum := 0,
              nextCount := 0, recordLink := none, chatterPending := false, hold := hold })
          ∧ (t.evu.statuses.getLsbD 8 = true ↔ s.evu.statuses.getLsbD 8 = true ∨ ∃ n, deferred n))
      ∧ (∀ p, t.chan p = { s.chan p with accSum := 0, accCount := 0 }) ∧ t.fmu.disturbed = true
      ∧ t.fmu.neutral = s.fmu.neutral ∧ t.fmu.averages = s.fmu.averages
      ∧ t.bpl = { plan := none, rescue := none }
      ∧ t.sbc.queries = (s.sbc.queries.filter (·.onBus)).map (fun q => { q with answered := true })
      ∧ (∀ q ∈ s.sbc.queries, ∀ cmd tg, q.answered = false → q.link ≠ lk →
          (s.port q.link).answer = .answering cmd tg none →
          (t.port q.link) = { s.port q.link with answer := .answering cmd tg (some [0x07]) })
      ∧ (∀ x, x ≠ lk → (∀ q ∈ s.sbc.queries, q.link = x → q.answered = true) → t.port x = s.port x)
      ∧ t.evu.statuses.getLsbD 15 = true
      ∧ (∀ b ∈ [3, 4, 7, 10, 11, 13, 14], t.evu.statuses.getLsbD b = s.evu.statuses.getLsbD b)
      ∧ t.mdc.authority = s.mdc.authority ∧ t.params = s.params ∧ t.classes = s.classes ∧ t.ilu = s.ilu
      ∧ t.esm = s.esm ∧ t.tbs = s.tbs ∧ t.mvq.seqCounter = s.mvq.seqCounter ∧ t.mvq.acceptCount = s.mvq.acceptCount
      ∧ t.txe.admitCount = s.txe.admitCount ∧ t.now = s.now ∧ t.pending = s.pending
      ∧ t.smp.latched = s.smp.latched ∧ t.smp.bit = s.smp.bit ∧ t.smp.selectLow = s.smp.selectLow
      ∧ (∀ k ∈ t.sbc.verifyPolls, s.slot k = none)
      ∧ t.sbc = { s.sbc with
          verifyPolls := t.sbc.verifyPolls, queries := t.sbc.queries, probePos := 0,
          lastProbe := Vector.replicate 96 none }

/-- ES_RETRY (R141): a store in FAULT enters CHARGING with a fresh timer, or READY when its voltage is at the ready
level already; in any other state nothing changes. -/
def Obligations.EsRetryTaken : Prop :=
  ∀ (s : State) (lk : Link) (tag : Byte), s.portFree lk →
    (s.mdc.authority ≠ lk → exec (.esRetry lk tag []) s = .next (s.answering lk 0x2E tag [0x03]).settle)
      ∧ (s.mdc.authority = lk → s.esm.store = .fault → s.esm.voltage < s.params.readyLevel →
          exec (.esRetry lk tag []) s = .next ((s.setStore
            (.charging s.now (s.params.chargeTimeout * 1000))).answering lk 0x2E tag [0x00]).settle)
      ∧ (s.mdc.authority = lk → s.esm.store = .fault → s.params.readyLevel ≤ s.esm.voltage →
          exec (.esRetry lk tag []) s = .next ((s.setStore .ready).answering lk 0x2E tag [0x00]).settle)
      ∧ (s.mdc.authority = lk → s.esm.store ≠ .fault →
          exec (.esRetry lk tag []) s = .next (s.answering lk 0x2E tag [0x00]).settle)

/-- CLEAR_EVENTS (R192): each selected edge status becomes clear, condition statuses stay, and the reply carries all
sixteen. -/
def Obligations.ClearEventsTaken : Prop :=
  ∀ (s : State) (lk : Link) (tag : Byte) (sel : Half), s.portFree lk →
    (s.mdc.authority ≠ lk → exec (.clearEvents lk tag (be16 sel)) s = .next (s.answering lk 0x2F tag [0x03]).settle)
      ∧ (s.mdc.authority = lk → ∃ w : Half,
          (∀ i, i < 16 → w.getLsbD i =
              (s.evu.statuses.getLsbD i && !(sel.getLsbD i && !conditionKinds.any fun e => e.bit == i)))
            ∧ exec (.clearEvents lk tag (be16 sel)) s
              = .next (({ s with evu := { s.evu with statuses := w } } : State).answering lk 0x2F tag
                  (0x00 :: be16 w)).settle)

/-- CLEAR_INPUTS (R151): each selected EDGE status and a selected MAP_FAULT become clear, all else stays, and the reply
carries the sources still asserted. -/
def Obligations.ClearInputsTaken : Prop :=
  ∀ (s : State) (lk : Link) (tag sel : Byte), s.portFree lk →
    (s.mdc.authority ≠ lk → exec (.clearInputs lk tag [sel]) s = .next (s.answering lk 0x30 tag [0x03]).settle)
      ∧ (s.mdc.authority = lk → ∃ t : State,
          exec (.clearInputs lk tag [sel]) s = .next (t.answering lk 0x30 tag (0x00 :: u8 t.assertedSet)).settle
            ∧ (∀ i : InputLine, t.input i = { s.input i with
                status := (s.input i).status && !(!(s.input i).level
                  && (match haltSourceOf i with
                    | some h => sel.getLsbD h.bit
                    | none => false)) })
            ∧ t.ilu.mapFault = (s.ilu.mapFault && !sel.getLsbD 7)
            ∧ t.ilu.haltRecord = s.ilu.haltRecord ∧ t.ilu.supply = s.ilu.supply ∧ t = { s with ilu := t.ilu })

/-- SET_TIME (R42): the running epoch ends disturbed, the written time and day stand, the tick restarts, the new epoch
is disturbed and timed by the pending length. -/
def Obligations.SetTimeTaken : Prop :=
  ∀ (s : State) (lk : Link) (tag : Byte) (tod : Word) (day : Half), s.portFree lk → s.mdc.authority = lk →
    s.tbs.endDue = false → tod.toNat ≤ 86399 →
    ∃ t : State, exec (.setTime lk tag (be32 tod ++ be16 day)) s = .next t
      ∧ (t.port lk).answer = .answering 0x31 tag (some [0x00])
      ∧ t.tbs = { timeOfDay := tod.toNat, day := day, epoch := s.tbs.epoch + 1, epochLength := s.tbs.pendingLength,
                  pendingLength := s.tbs.pendingLength, tickAt := s.now, endDue := false }
      ∧ t.fmu.disturbed = true ∧ t.fmu.averages.map (·.epoch) = some s.tbs.epoch
      ∧ (s.modeName = .auto → t.bpl.plan.map (·.outcome) = some .disturbed)
      ∧ (s.modeName ≠ .auto → t.bpl.plan.map (·.outcome) = some .notAuto)
      ∧ (∀ n, ((s.conn n).nextCount = 0 → (t.conn n).accCount = 0) ∧ (t.conn n).movesToday = (s.conn n).movesToday)

/-- QUERY_MODULE (R118): refused RETRY when two queries are pending or one for the connection is; else it joins the list
and its port answers later. -/
def Obligations.QueryModuleJoinsTheList : Prop :=
  ∀ (s : State) (lk : Link) (tag : Byte) (n : ConnId), s.portFree lk →
    (2 ≤ s.sbc.queries.length ∨ (∃ q ∈ s.sbc.queries, q.conn = n) →
        exec (.queryModule lk tag (u8 (connNumber n))) s = .next (s.answering lk 0x0C tag [0x13]).settle)
      ∧ (s.sbc.queries.length < 2 → (∀ q ∈ s.sbc.queries, q.conn ≠ n) →
          exec (.queryModule lk tag (u8 (connNumber n))) s
            = .next ({ s.asking lk 0x0C tag with sbc := { s.sbc with
                queries := s.sbc.queries ++ [{ link := lk, conn := n, onBus := false, answered := false }] } } :
                  State).settle)

/-! ### Replies of the modules -/

/-- A module's reply is read back as it was sent: POLL, pass-through and actuation messages, for every module, phase,
counter, load, flag and reason (R121, R124, R190). -/
def Obligations.BusRepliesRoundTrip : Prop :=
  (∀ (n : ConnId) (r : StatusReport), -32000 ≤ r.load → r.load ≤ 32000 →
      judgePoll n (pollReplyMessage n r) = some r)
    ∧ (∀ (n : ConnId) (r : StatusReport) (x : Particulars), -32000 ≤ r.load → r.load ≤ 32000 →
      judgePassThrough n (passThroughReplyMessage n r x) = some (r, x))
    ∧ (∀ (n : ConnId) (isBreak : Bool) (o : ActOutcome) (closed : Option Phase),
      o ∈ (if isBreak then [.accept, .reject .notClosed, .reject .localLockout]
            else [.accept, .reject .notOpen, .reject .phaseDead, .reject .localLockout] : List ActOutcome) →
      judgeActuation n isBreak (actuationReplyMessage n isBreak o closed) = some o)

/-- A survey or probe reply, received within its window, of a connection whose record is in no slot: the Connection
Table applies it and nothing else follows (R113, R114). With its record in a slot the reply is then handed to the
Transfer Engine and acts by stage, verify misses becoming 0: at WAIT_BREAK the transfer ends STALE off the from phase
and BLOCKED with a HOLD; at GAP, WAIT_MAKE, WAIT_RETURN and ORPHANED it ends REVERTED on the from phase and
WRONG_PHASE on another closed phase (with MAP_FAULT, log 35); at BREAKING, MAKING and RETURNING the stage is kept
(R93, R94, R101, R102). The record after steps 1 to 7 of R5, field by field, whatever slot its move record is in, with
every field the steps do not name kept: the pending actuation of step 6, the load in the running epoch or, between a
tick that ended the epoch and its EPOCH_END, in the new one (R11, R47), the uncommanded changes found (R6, R9), the
dark flag (R10), and the chatter hold, set at once or pending while the record is mid-transfer (R15). No other record
changes, and an absent record is not changed. -/
def Obligations.SurveyReplyApplied : Prop :=
  (∀ (s : State) (n : ConnId) (p : Purpose) (u : Nat) (r : StatusReport), p = .survey ∨ p = .probe →
      s.sbc.txn = some { conn := n, purpose := p, lastUnit := u } →
      s.now ≤ s.sbc.boundaryAt + u * s.sbc.unitLength → s.slotOf n = none → -32000 ≤ r.load → r.load ≤ 32000 →
      exec (.pollReply { late := false, bytes := pollReplyMessage n r }) s
        = .next ((s.setTxn none).applyReply n r).settle)
    ∧ (∀ (s : State) (n : ConnId) (p : Purpose) (u : Nat) (r : StatusReport) (k : SlotId) (sl : Slot),
      p = .survey ∨ p = .probe → s.sbc.txn = some { conn := n, purpose := p, lastUnit := u } →
      s.now ≤ s.sbc.boundaryAt + u * s.sbc.unitLength → s.slotOf n = some k → s.slot k = some sl →
      -32000 ≤ r.load → r.load ≤ 32000 →
      exec (.pollReply { late := false, bytes := pollReplyMessage n r }) s
        = .next (((s.setTxn none).applyReply n r).seenBySlot k sl r.closed).settle)
    ∧ (∀ (s : State) (n : ConnId) (r : StatusReport), (s.conn n).present = true →
      let c := s.conn n
      let d := uncommandedFound c r
      let mid := ((s.stageOf n).map Stage.midTransfer) = some true
      let count := min 15 (c.uncommanded + d)
      let chatter := 0 < d ∧ s.params.chatterLimit ≤ count ∧ s.params.chatterHold = true ∧ c.hold = none
      ∃ t : State, s.applyReply n r = t
        ∧ t.conn n = { c with
            link := .online, missedRun := 0, expected := r.counter
            phase := match r.closed with
              | some p => .on p
              | none => .off
            dark := match r.closed with
              | some _ => false
              | none => if mid then c.dark else true
            lastLoad := some r.load
            accSum := if s.tbs.endDue then c.accSum else c.accSum + r.load
            accCount := if s.tbs.endDue then c.accCount else c.accCount + 1
            nextSum := if s.tbs.endDue then c.nextSum + r.load else c.nextSum
            nextCount := if s.tbs.endDue then c.nextCount + 1 else c.nextCount
            fault := r.fault, localOp := r.localOp
            pendingAct := match c.pendingAct with
              | some a => if a.state = .accepted ∧ a.before = Confirmed.ofClosed r.closed then some a else none
              | none => none
            uncommanded := if d = 0 then c.uncommanded else count
            hold := if chatter ∧ ¬ mid then some .chatter else c.hold
            chatterPending := if chatter ∧ mid then true else c.chatterPending }
        ∧ (∀ m, m ≠ n → t.conn m = s.conn m)
        ∧ t.fmu = (if d = 0 then s.fmu else { s.fmu with disturbed := true })
        ∧ t.evu = { s.evu with statuses :=
            s.evu.statuses ||| (if d = 0 then 0 else 0x0080) ||| (if chatter ∧ ¬ mid then 0x0100 else 0) }
        ∧ t = { s with conns := t.conns, fmu := t.fmu, evu := t.evu })
    ∧ (∀ (s : State) (n : ConnId) (r : StatusReport), (s.conn n).present = false → s.applyReply n r = s)

/-- The three cases of R6, and the expected change count, which takes the reported counter in each. -/
def Obligations.UncommandedChangesCounted : Prop :=
  ∀ (c : Conn) (r : StatusReport),
    (c.link = .unseen → uncommandedFound c r = 0)
      ∧ (∀ a, c.pendingAct = some a → a.state = .unanswered →
          Confirmed.ofClosed r.closed = a.before ∨ Confirmed.ofClosed r.closed = a.intended → uncommandedFound c r = 0)
      ∧ (c.link ≠ .unseen → ∀ a, c.pendingAct = some a → a.state = .unanswered →
          Confirmed.ofClosed r.closed ≠ a.before → Confirmed.ofClosed r.closed ≠ a.intended →
          uncommandedFound c r = (r.counter - c.expected).toNat - 1)
      ∧ (c.link ≠ .unseen → ∀ a, c.pendingAct = some a → a.state = .accepted →
          uncommandedFound c r = (r.counter - c.expected).toNat)
      ∧ (c.link ≠ .unseen → c.pendingAct = none → r.counter ≠ c.expected →
          uncommandedFound c r = (r.counter - c.expected).toNat)
      ∧ (c.link ≠ .unseen → c.pendingAct = none → r.counter = c.expected →
          uncommandedFound c r = if c.phase = .unknown ∨ c.phase = Confirmed.ofClosed r.closed then 0 else 1)
      ∧ uncommandedFound c r ≤ 255 ∧ ∀ stage : Option Stage, (recordReply c stage r).expected = r.counter

/-- A module that answers a BREAK or MAKE with ACCEPT and executes it, or abandons it, is never charged an uncommanded
change by the next status reply, whether the ACCEPT was taken (R7) or missed (R8); nor is one that never got the request
(R125, R127, R128). The module it speaks of is the model of the environment's module that log 23 names. -/
def Obligations.CommandedChangesNeverCounted : Prop :=
  ∀ (c : Conn) (m : Module) (now : Nat), c.present = true → c.link ≠ .unseen → m.counter = c.expected →
    c.phase = Confirmed.ofClosed m.switch →
    (∀ m', m.onBreak = (m', .accept) →
        uncommandedFound (actuationReplied c c.phase .off true) ((m'.onMarker now).report now) = 0
          ∧ uncommandedFound (actuationMissed c c.phase .off) ((m'.onMarker now).report now) = 0)
      ∧ (∀ (p : Phase) (live : Bool) (m' : Module) (at' period : Nat), m.onMake p live = (m', .accept) →
          uncommandedFound (actuationReplied c c.phase (.on p) true) ((m'.onMarker now).report now) = 0
            ∧ uncommandedFound (actuationReplied c c.phase (.on p) true)
                (((m'.onMarker now).onCrossing p at' period).report at') = 0
            ∧ uncommandedFound (actuationMissed c c.phase (.on p))
                (((m'.onMarker now).onCrossing p at' period).report at') = 0)
      ∧ (∀ i : Confirmed, uncommandedFound (actuationMissed c c.phase i) (m.report now) = 0)

/-- The reply to an actuation whose slot still holds its transfer. ACCEPT: the record's expected count rises and the
actuation is pending, the verify poll falls due after the class settle frames, the store stays in RECOVERY (R7, R91,
R92, R139). A REJECT, every row of R91, the CTB having taken the reply (R7) and the store of the grant being READY
again (R139): a BREAK ends STALE or BLOCKED, NOT_OPEN leaves the verify poll to decide, PHASE_DEAD and LOCAL_LOCKOUT
send the slot to WAIT_MAKE or WAIT_RETURN, or end it DARK at the third return. The reply to the slot's verify poll,
applied by the Connection Table first, decides the stage: at BREAKING (R95), MAKING (R98), RETURNING (R100) and
ORPHANED (R101), with verify misses 0 (R92); a slot that goes to WAIT_MAKE or WAIT_RETURN goes on in the same
operation where the gap point or a deadline has been reached or no phase is fit (R87, R88, R96, R97, R99). A
WRONG_PHASE ending sets MAP_FAULT, and a masked one halts the part in the same command, before any admission, which is
the model's choice of order (log 35). -/
def Obligations.ActuationReplyTaken : Prop :=
  (∀ (s : State) (k : SlotId) (sl : Slot) (n : ConnId) (kind : ActKind) (b i : Confirmed) (u : Nat)
    (closed : Option Phase),
    s.sbc.txn = some { conn := n, purpose := .actuation k sl.order kind b i, lastUnit := u } → s.slot k = some sl →
    sl.record.conn = n → s.now ≤ s.sbc.boundaryAt + u * s.sbc.unitLength →
    ((s.conn n).present = true → (s.conn n).link ≠ .unseen →
        exec (.actuationReply { late := false, bytes := actuationReplyMessage n (kind == .brk) .accept closed }) s
          = .next ((((s.setTxn none).setConn n { s.conn n with
              link := .online, missedRun := 0, expected := (s.conn n).expected + 1,
              pendingAct := some { before := b, intended := i, state := .accepted } })).setSlot k
                (some { sl with verifyDue := some (s.sbc.frame + BitVec.ofNat 32 (s.timing n).settle) })).settle)
      ∧ (∀ (count : Nat) (g : Grant), kind = .brk → s.esm.store = .recovery count g → g.conn = n →
          g.frame = s.sbc.frame →
          ∃ t : State, exec (.actuationReply
              { late := false, bytes := actuationReplyMessage n true (.reject .localLockout) closed }) s = .next t
            ∧ t.slot k = none ∧ t.esm.store = .ready ∧ (t.conn n).recordLink = none
            ∧ (t.conn n).expected = (s.conn n).expected
            ∧ t.mvq.history.getLast?.map (fun e => (e.seq, e.result)) = some (sl.record.seq, .blocked)
            ∧ t.sbc.txn = none)
      ∧ (∀ (count : Nat) (g : Grant), s.esm.store = .recovery count g → g.conn = n → g.frame = s.sbc.frame →
          let u : State := (s.setTxn none).setConn n (if (s.conn n).present = true ∧ (s.conn n).link ≠ .unseen then
            { s.conn n with link := .online, missedRun := 0 } else s.conn n)
          let rejected := fun (why : Reason) (x : State) =>
            exec (.actuationReply { late := false, bytes := actuationReplyMessage n (kind == .brk) (.reject why) closed })
              s = .next (x.setStore .ready).settle
          let polled := u.setSlot k
            (some { sl with verifyDue := some (s.sbc.frame + BitVec.ofNat 32 (s.timing n).settle) })
          (kind = .brk → rejected .notClosed (u.endRecord k .stale) ∧ rejected .localLockout (u.endRecord k .blocked))
            ∧ (kind = .make → rejected .notOpen polled
              ∧ ∀ bt, sl.record.breakTime = some bt →
                (sl.record.makes < 3 → sl.record.cancel = false → rejected .phaseDead (u.goToMake k sl bt))
                  ∧ (3 ≤ sl.record.makes ∨ sl.record.cancel = true → rejected .phaseDead (u.turnBack k sl bt))
                  ∧ rejected .localLockout (u.turnBack k sl bt))
            ∧ (kind = .ret → rejected .notOpen polled
              ∧ (3 ≤ sl.record.returns → ∀ why, why = .phaseDead ∨ why = .localLockout →
                  rejected why (u.endRecord k .dark))
              ∧ ∀ bt, sl.record.breakTime = some bt → sl.record.returns < 3 →
                  ∀ why, why = .phaseDead ∨ why = .localLockout → rejected why (u.turnBack k sl bt))))
    ∧ (∀ (s : State) (k : SlotId) (sl : Slot) (n : ConnId) (u : Nat) (r : StatusReport),
      s.sbc.txn = some { conn := n, purpose := .verify k sl.order, lastUnit := u } → s.slot k = some sl →
      sl.record.conn = n → s.now ≤ s.sbc.boundaryAt + u * s.sbc.unitLength → -32000 ≤ r.load → r.load ≤ 32000 →
      let leaves := fun t : State =>
        exec (.pollReply { late := false, bytes := pollReplyMessage n r }) s = .next t.settle
      let kept := { sl with misses := 0 }
      let v := ((s.setTxn none).applyReply n r).setSlot k (some kept)
      (sl.stage = .breaking →
          (∀ a fe, r.closed = none → sl.lastAct = some a → a.frameEnd = some fe →
              let opened := { kept with record := { sl.record with breakTime := some fe } }
              (sl.record.cancel = false → s.now < fe + msToTicks (s.timing n).gap →
                  leaves (v.setSlot k (some { opened with stage := .gap, verifyDue := none })))
                ∧ (sl.record.cancel = false → fe + msToTicks (s.timing n).gap ≤ s.now →
                  leaves (v.goToMake k opened fe))
                ∧ (sl.record.cancel = true → leaves (v.turnBack k opened fe)))
            ∧ (r.closed = some sl.record.source →
              (sl.record.cancel = true → leaves (v.endRecord k .cancelled))
                ∧ (sl.record.cancel = false → 3 ≤ sl.record.breaks → leaves (v.endRecord k .notOpened))
                ∧ (sl.record.cancel = false → sl.record.breaks < 3 → (v.conn n).chatterPending = true →
                    leaves (v.endRecord k .blocked))
                ∧ (sl.record.cancel = false → sl.record.breaks < 3 → (v.conn n).chatterPending = false →
                    (s.modeName ≠ .rideThrough →
                      leaves (v.setSlot k (some { kept with stage := .waitBreak, verifyDue := none })))
                    ∧ (s.modeName = .rideThrough → leaves (v.handBack k))))
            ∧ (∀ p, r.closed = some p → p ≠ sl.record.source → leaves (v.endRecord k .wrongPhase).setMapFault))
        ∧ (sl.stage = .making →
          (r.closed = some sl.record.target → leaves (v.endRecord k .done))
            ∧ (∀ bt, r.closed = none → sl.record.breakTime = some bt →
              (sl.record.makes < 3 → sl.record.cancel = false → leaves (v.goToMake k kept bt))
                ∧ (3 ≤ sl.record.makes ∨ sl.record.cancel = true → leaves (v.turnBack k kept bt)))
            ∧ (∀ p, r.closed = some p → p ≠ sl.record.target →
              (p = sl.record.source → leaves (v.endRecord k .reverted))
                ∧ (p ≠ sl.record.source → leaves (v.endRecord k .wrongPhase).setMapFault)))
        ∧ (∀ a q, sl.stage = .returning → sl.lastAct = some a → a.named = some q →
          (r.closed = some q → leaves (v.endRecord k .returned))
            ∧ (∀ bt, r.closed = none → sl.record.returns < 3 → sl.record.breakTime = some bt →
                leaves (v.turnBack k kept bt))
            ∧ (r.closed = none → 3 ≤ sl.record.returns → leaves (v.endRecord k .dark))
            ∧ (∀ p, r.closed = some p → p ≠ q →
              (p = sl.record.source → leaves (v.endRecord k .reverted))
                ∧ (p ≠ sl.record.source → leaves (v.endRecord k .wrongPhase).setMapFault)))
        ∧ (sl.stage = .orphaned →
          (r.closed = none → leaves (v.setSlot k (some { kept with verifyDue := some (s.sbc.frame + 1) })))
            ∧ (∀ p, r.closed = some p →
              (p = sl.record.source → leaves (v.endRecord k .reverted))
                ∧ (p ≠ sl.record.source → leaves (v.endRecord k .wrongPhase).setMapFault))))
    ∧ (∀ s : State,
      (s.ilu.mapFault = true → s.setMapFault = s)
        ∧ (s.ilu.mapFault = false → s.params.haltMask.getLsbD 7 = false →
            s.setMapFault = { s with ilu := { s.ilu with mapFault := true } })
        ∧ (s.ilu.mapFault = false → s.params.haltMask.getLsbD 7 = true →
            s.setMapFault.ilu.mapFault = true ∧ (∃ e ∈ s.setMapFault.ilu.haltRecord, e.source = .mapFault)
              ∧ (s.modeName = .manual ∨ s.modeName = .auto →
                s.setMapFault.mdc.mode = .base .halted ∧ s.setMapFault.mvq.queue = []
                  ∧ ∀ k, s.setMapFault.slotStage k ≠ some .waitBreak)))

/-- A missed survey poll or probe of a present connection raises the missed run; the third makes a connection that is
not OFFLINE so (R12), one that is OFFLINE stays so with its missed run (R12, R120), and an absent record is not
changed. An actuation's miss leaves it pending UNANSWERED (R8), of an UNSEEN or absent record too (log 26), with its
verify poll due as for an ACCEPT (R92). The miss is taken at the instant the clock shows, and the clock is not moved
to the end of the window: that is the model's choice (log 41). A missed verify poll is due again in the next frame,
and the third in a row ends the transfer NO_REPLY (R92). A missed pass-through query, alone in the list, is answered
OFFLINE (R118). A message of a module that comes past the end of the window misses the transaction; one that comes
late, for a window closed before, is discarded (R113, log 37). -/
def Obligations.MissedTransactionHandedOn : Prop :=
  (∀ (s : State) (n : ConnId) (u : Nat),
    (∀ p, p = .survey ∨ p = .probe → s.sbc.txn = some { conn := n, purpose := p, lastUnit := u } →
        ((s.conn n).present = true → (s.conn n).link ≠ .offline → (s.conn n).missedRun < 2 →
            exec .transactionMissed s
              = .next ((s.setTxn none).setConn n { s.conn n with missedRun := (s.conn n).missedRun + 1 }).settle)
          ∧ ((s.conn n).present = true → (s.conn n).link ≠ .offline → 2 ≤ (s.conn n).missedRun →
              exec .transactionMissed s
                = .next ({ s.setConn n { s.conn n with missedRun := 3, link := .offline } with
                    sbc := { s.sbc with txn := none, lastProbe := s.sbc.lastProbe.set n (some s.sbc.frame) } } :
                      State).settle)
          ∧ ((s.conn n).present = true → (s.conn n).link = .offline →
              exec .transactionMissed s
                = .next ((s.setTxn none).setConn n
                    { s.conn n with missedRun := min 3 ((s.conn n).missedRun + 1) }).settle)
          ∧ ((s.conn n).present = false → exec .transactionMissed s = .next (s.setTxn none).settle))
      ∧ (∀ (k : SlotId) (sl : Slot) (kind : ActKind) (b i : Confirmed),
          s.sbc.txn = some { conn := n, purpose := .actuation k sl.order kind b i, lastUnit := u } →
          s.slot k = some sl → sl.record.conn = n →
          exec .transactionMissed s
            = .next ((((s.setTxn none).setConn n { s.conn n with
                pendingAct := some { before := b, intended := i, state := .unanswered } })).setSlot k
                  (some { sl with verifyDue := some (s.sbc.frame + BitVec.ofNat 32 (s.timing n).settle) })).settle)
      ∧ (∀ (k : SlotId) (sl : Slot), s.sbc.txn = some { conn := n, purpose := .verify k sl.order, lastUnit := u } →
          s.slot k = some sl →
          (sl.misses < 2 → exec .transactionMissed s
              = .next ((s.setTxn none).setSlot k
                  (some { sl with misses := sl.misses + 1, verifyDue := some (s.sbc.frame + 1) })).settle)
            ∧ (2 ≤ sl.misses → exec .transactionMissed s = .next ((s.setTxn none).endRecord k .noReply).settle))
      ∧ (∀ (q : Query) (cmd tag : Byte), s.sbc.txn = some { conn := n, purpose := .passThrough, lastUnit := u } →
          s.sbc.queries = [q] → q.conn = n → q.onBus = true →
          (q.answered = false → (s.port q.link).answer = .answering cmd tag none → exec .transactionMissed s
              = .next (({ s with sbc := { s.sbc with txn := none, queries := [] } } : State).setPort q.link
                  { s.port q.link with answer := .answering cmd tag (some [0x0F]) }).settle)
            ∧ (q.answered = true → exec .transactionMissed s
              = .next ({ s with sbc := { s.sbc with txn := none, queries := [] } } : State).settle)))
    ∧ (∀ (s : State) (bytes : List Byte), ∀ row ∈ [Instr.pollReply, .actuationReply, .passThroughReply],
      exec (row { late := true, bytes := bytes }) s = .next s.settle
        ∧ (∀ x, s.sbc.txn = some x → s.sbc.boundaryAt + x.lastUnit * s.sbc.unitLength < s.now →
            exec (row { late := false, bytes := bytes }) s = exec .transactionMissed s))

/-- The reply to a pass-through query: the entry leaves the list, its link is answered OK with the module's figures,
and the Connection Table applies the status fields when the record is present (R114, R118, R124). With the
connection's record in a slot the reply also acts there by stage, as R93 and R94 give: WRONG_PHASE with MAP_FAULT
(R102, log 35). -/
def Obligations.PassThroughAnswered : Prop :=
  (∀ (s : State) (n : ConnId) (u : Nat) (r : StatusReport) (x : Particulars) (q : Query) (cmd tag : Byte),
    s.sbc.txn = some { conn := n, purpose := .passThrough, lastUnit := u } → s.sbc.queries = [q] → q.conn = n →
    q.onBus = true → q.answered = false → (s.port q.link).answer = .answering cmd tag none → s.slotOf n = none →
    -32000 ≤ r.load → r.load ≤ 32000 → s.now ≤ s.sbc.boundaryAt + u * s.sbc.unitLength →
    ∃ t : State, exec (.passThroughReply { late := false, bytes := passThroughReplyMessage n r x }) s = .next t
      ∧ t.sbc.queries = [] ∧ t.sbc.txn = none
      ∧ (t.port q.link).answer = .answering cmd tag (some (0x00 :: (u8 (closedCode r.closed) ++ [r.counter]
          ++ i16 r.load ++ flag r.fault ++ flag r.localOp ++ [x.typeCode] ++ be32 x.serial ++ be16 x.orphan
          ++ be32 x.operations)))
      ∧ ((s.conn n).present = true → (t.conn n).link = .online ∧ (t.conn n).expected = r.counter
          ∧ (t.conn n).phase = Confirmed.ofClosed r.closed)
      ∧ ((s.conn n).present = false → t.conns = s.conns))
    ∧ (∀ (s : State) (n : ConnId) (u : Nat) (r : StatusReport) (x : Particulars) (q : Query) (cmd tag : Byte)
      (k : SlotId) (sl : Slot),
      s.sbc.txn = some { conn := n, purpose := .passThrough, lastUnit := u } → s.sbc.queries = [q] → q.conn = n →
      q.onBus = true → q.answered = false → (s.port q.link).answer = .answering cmd tag none →
      s.slotOf n = some k → s.slot k = some sl → -32000 ≤ r.load → r.load ≤ 32000 →
      s.now ≤ s.sbc.boundaryAt + u * s.sbc.unitLength →
      let y := ((s.setTxn none).applyReply n r).seenBySlot k sl r.closed
      exec (.passThroughReply { late := false, bytes := passThroughReplyMessage n r x }) s
        = .next (({ y with sbc := { y.sbc with queries := [] } } : State).setPort q.link { s.port q.link with
            answer := .answering cmd tag (some (0x00 :: (u8 (closedCode r.closed) ++ [r.counter]
              ++ i16 r.load ++ flag r.fault ++ flag r.localOp ++ [x.typeCode] ++ be32 x.serial ++ be16 x.orphan
              ++ be32 x.operations))) }).settle)

/-! ### Frames, units and the store -/

/-- A frame boundary that is due (R109): the counter rises, the marker goes out first, the frame takes the nominal
period in force (R111), and at most one actuation follows the marker, in unit 1, exactly when the store makes a grant
at step 5: the actuation of the request the store chose, naming the phase R88 and R90 give, made for the slot's
transfer (R116, R138, R139). Under the free-running timer a boundary is due one nominal period, the one in force for
the frame, after the last (R109, R111). One that is not due changes nothing (log 6). -/
def Obligations.FrameBoundaryTaken : Prop :=
  ∀ s : State,
    (s.boundaryInstant = none → exec .frameBoundary s = .next s.settle)
      ∧ (s.sbc.boundaryDue = false → s.sbc.alignment = none →
          s.boundaryInstant = some (max s.now (s.sbc.boundaryAt + s.sbc.framePeriod)))
      ∧ (s.sbc.boundaryDue = false → s.sbc.alignment ≠ none → s.boundaryInstant = none)
      ∧ (s.sbc.boundaryDue = true → s.boundaryInstant = some s.now)
      ∧ ∀ i, s.boundaryInstant = some i → ∃ t : State, exec .frameBoundary s = .next t
          ∧ t.now = i ∧ t.sbc.frame = s.sbc.frame + 1 ∧ t.sbc.boundaryAt = i ∧ t.sbc.boundaryDue = false
          ∧ t.sbc.unitLength = s.period / 13 ∧ t.sbc.framePeriod = s.period ∧ t.sbc.sent.head? = some frameMarker
          ∧ t.sbc.surveyed = [] ∧ t.sbc.probed = false ∧ t.sbc.surveyPos = s.sbc.surveyPos
          ∧ ((s.beforeGrant i).chosen = none →
              t.sbc.sent = [frameMarker] ∧ t.sbc.txn = none ∧ t.sbc.unit = 0 ∧ t.txe = (s.beforeGrant i).txe
                ∧ t.esm = (s.beforeGrant i).esm)
          ∧ ∀ p, (s.beforeGrant i).chosen = some p → ∃ (sl : Slot) (g : Grant),
              (s.beforeGrant i).slot p.slot = some sl
                ∧ t.sbc.sent = [frameMarker, actuationMessage sl.record.conn
                    ((s.beforeGrant i).namedPhase sl.record p.kind) ((s.beforeGrant i).timing sl.record.conn)]
                ∧ t.sbc.unit = 1 ∧ t.esm.store = .recovery 0 g ∧ g.slot = p.slot ∧ g.kind = p.kind
                ∧ g.conn = sl.record.conn ∧ g.frame = s.sbc.frame + 1
                ∧ g.recovery = ((s.beforeGrant i).timing sl.record.conn).recovery
                ∧ t.sbc.txn = some
                    { conn := sl.record.conn, lastUnit := 1
                      purpose := .actuation p.slot sl.order p.kind ((s.beforeGrant i).conn sl.record.conn).phase
                        (Confirmed.ofClosed ((s.beforeGrant i).namedPhase sl.record p.kind)) }
                ∧ t.slotStage p.slot = some p.kind.stage ∧ t.fmu.disturbed = true

/-- The grant of R138 goes to a presenting slot that no other outranks: RETURN before MAKE before BREAK, and within a
kind the earliest admitted; a store that is not READY grants nothing, and a READY store with a request grants. A slot
at WAIT_BREAK that alone presents a request to a READY store: at the next boundary it is granted, goes to BREAKING
with its attempt counted, and BREAK goes out with the class break pulse (R90, R139). -/
def Obligations.GrantRankedAndSent : Prop :=
  (∀ s : State,
      (s.esm.store ≠ .ready → s.chosen = none)
        ∧ (s.esm.store = .ready → (∃ k sl kind, s.slot k = some sl ∧ s.request sl = some kind) → s.chosen ≠ none)
        ∧ ∀ p, s.chosen = some p → s.esm.store = .ready
            ∧ (∃ sl, s.slot p.slot = some sl ∧ s.request sl = some p.kind ∧ sl.order = p.order)
            ∧ ∀ k sl kind, s.slot k = some sl → s.request sl = some kind →
                p.kind.rank < kind.rank ∨ (p.kind = kind ∧ p.order ≤ sl.order))
    ∧ (∀ (s : State) (i : Nat) (k : SlotId) (sl : Slot), s.boundaryInstant = some i → s.sbc.txn = none →
      s.esm.store = .ready → s.slot k = some sl → (∀ j, j ≠ k → s.slot j = none) → sl.stage = .waitBreak →
      (s.conn sl.record.conn).link = .online → s.health sl.record.target = .healthy →
      ∃ t : State, exec .frameBoundary s = .next t
        ∧ t.slot k = some { sl with
            record := { sl.record with breaks := sl.record.breaks + 1 }, stage := .breaking, verifyDue := none,
            misses := 0,
            lastAct := some { kind := .brk, named := none, frame := s.sbc.frame + 1, frameEnd := none } }
        ∧ t.esm.store = .recovery 0
            { slot := k, kind := .brk, conn := sl.record.conn, recovery := (s.timing sl.record.conn).recovery,
              frame := s.sbc.frame + 1 }
        ∧ t.sbc.sent = [frameMarker, withCrc (u8 (connNumber sl.record.conn) ++ [0x02]
            ++ u8 (s.timing sl.record.conn).breakPulse)]
        ∧ t.fmu.disturbed = true ∧ t.conns = s.conns ∧ t.mvq = s.mvq)

/-- At the start of a unit in which no transaction runs, the first claim that is waiting and fits is started: a due
verify poll, a pass-through query while two units are left, an OFFLINE probe, a survey poll; else the unit stays idle
(R111, R115, R117 to R120). The connection probed is the first one due after the probe position, at most one a frame,
50 frames after its last (R120); the connection surveyed is the first eligible one after the survey position,
verify-polled or probed before in the frame or not (log 38), and the survey stops for the frame at one it has polled
in it (R119, log 27). -/
def Obligations.UnitGoesToTheFirstClaim : Prop :=
  (∀ (s : State), s.sbc.txn = none → s.sbc.unit < 12 → s.sbc.busyThrough ≤ s.sbc.unit →
    ∃ t : State, exec .unitStart s = .next t ∧ t.sbc.unit = s.sbc.unit + 1 ∧ t.conns = s.conns ∧ t.txe = s.txe
      ∧ (∀ k ks sl, s.sbc.verifyPolls = k :: ks → s.slot k = some sl →
          t.sbc.txn = some { conn := sl.record.conn, purpose := .verify k sl.order, lastUnit := s.sbc.unit + 1 }
            ∧ t.sbc.sent = [pollRequest sl.record.conn])
      ∧ (∀ q qs, s.sbc.verifyPolls = [] → s.sbc.queries = q :: qs → q.onBus = false → s.sbc.unit < 11 →
          t.sbc.txn = some { conn := q.conn, purpose := .passThrough, lastUnit := s.sbc.unit + 2 }
            ∧ t.sbc.sent = [passThroughRequest q.conn])
      ∧ (∀ n, s.sbc.verifyPolls = [] → s.sbc.queries = [] → s.claimProbe = some n →
          t.sbc.txn = some { conn := n, purpose := .probe, lastUnit := s.sbc.unit + 1 }
            ∧ t.sbc.sent = [pollRequest n] ∧ t.sbc.probePos = n.val + 1 ∧ t.sbc.lastProbe[n] = some s.sbc.frame)
      ∧ (∀ n, s.sbc.verifyPolls = [] → s.sbc.queries = [] → s.claimProbe = none → s.claimSurvey = some n →
          n ∉ s.sbc.surveyed →
          t.sbc.txn = some { conn := n, purpose := .survey, lastUnit := s.sbc.unit + 1 }
            ∧ t.sbc.sent = [pollRequest n] ∧ t.sbc.surveyPos = n.val + 1)
      ∧ (∀ n, s.sbc.verifyPolls = [] → s.sbc.queries = [] → s.claimProbe = none → s.claimSurvey = some n →
          n ∈ s.sbc.surveyed → t.sbc.txn = none ∧ t.sbc.sent = [] ∧ t.sbc.surveyStopped = true
            ∧ t.sbc.surveyPos = s.sbc.surveyPos)
      ∧ (s.sbc.verifyPolls = [] → s.sbc.queries = [] → s.claimProbe = none → s.claimSurvey = none →
          t.sbc.txn = none ∧ t.sbc.sent = []))
    ∧ (∀ s : State, s.sbc.surveyPos ≤ 96 → s.sbc.probePos ≤ 96 →
      let free := fun m : ConnId =>
        (s.conn m).present = true ∧ (s.stageOf m = none ∨ s.stageOf m = some .waitBreak)
      let eligible := fun m : ConnId => free m ∧ (s.conn m).link ≠ .offline
      let due := fun m : ConnId => free m ∧ (s.conn m).link = .offline
        ∧ ∀ f, s.sbc.lastProbe[m] = some f → 50 ≤ (s.sbc.frame - f).toNat
      (∀ n, s.claimSurvey = some n ↔ s.sbc.surveyStopped = false ∧ eligible n
          ∧ ∀ m, eligible m → turnsAway s.sbc.surveyPos n ≤ turnsAway s.sbc.surveyPos m)
        ∧ (∀ n, s.claimProbe = some n ↔ s.sbc.probed = false ∧ due n
          ∧ ∀ m, due m → turnsAway s.sbc.probePos n ≤ turnsAway s.sbc.probePos m)
        ∧ (s.claimSurvey = none ↔ s.sbc.surveyStopped = true ∨ ∀ m, ¬ eligible m)
        ∧ (s.claimProbe = none ↔ s.sbc.probed = true ∨ ∀ m, ¬ due m))

/-- STORE_VOLTAGE_RENEWAL is judged by the state of the store (R134 to R136). CHARGE_TIMEOUT in CHARGING: the store
goes to FAULT and ES_FAULT holds; a masked ES_FAULT halts a part in AUTO or MANUAL (R135, R137, R155, R171).
RECOVERY_END at a due boundary: the grant is cleared and the store charges afresh, or is READY at once when its
voltage is there (R140), in an operation of its own (log 11, log 43). -/
def Obligations.StoreEventsTaken : Prop :=
  (∀ (s : State) (mV : Nat),
      let v := min 1200 (mV / 100)
      let u : State := { s with
        now := max s.now (s.esm.renewedAt + Config.ticksPerMs)
        esm := { s.esm with voltage := v, renewedAt := s.esm.renewedAt + Config.ticksPerMs } }
      (∀ a b, s.esm.store = .charging a b → s.params.readyLevel ≤ v →
          exec (.storeVoltageRenewal mV) s = .next (u.setStore .ready).settle)
        ∧ (∀ a b, s.esm.store = .charging a b → v < s.params.readyLevel →
            exec (.storeVoltageRenewal mV) s = .next u.settle)
        ∧ (s.esm.store = .ready → v + 20 < s.params.readyLevel →
            exec (.storeVoltageRenewal mV) s
              = .next (u.setStore (.charging u.now (s.params.chargeTimeout * 1000))).settle)
        ∧ (s.esm.store = .ready → s.params.readyLevel ≤ v + 20 →
            exec (.storeVoltageRenewal mV) s = .next u.settle)
        ∧ (s.esm.store = .fault ∨ (∃ a g, s.esm.store = .recovery a g) →
            exec (.storeVoltageRenewal mV) s = .next u.settle))
    ∧ (∀ s : State,
      (∀ since timeout, s.esm.store = .charging since timeout → ∃ t : State,
          exec .chargeTimeout s = .next t ∧ t.esm.store = .fault ∧ t.now = max s.now (since + msToTicks timeout)
            ∧ t.evu.statuses.getLsbD 9 = true ∧ t.esm.voltage = s.esm.voltage
            ∧ (s.params.haltMask.getLsbD 6 = false → t.mdc = s.mdc ∧ t.ilu = s.ilu ∧ t.mvq = s.mvq ∧ t.txe = s.txe)
            ∧ (s.params.haltMask.getLsbD 6 = true → s.modeName = .manual ∨ s.modeName = .auto →
                t.mdc.mode = .base .halted ∧ t.mvq.queue = []))
        ∧ (∀ i count g, s.esm.store = .recovery count g → g.recovery ≤ count + 1 → s.boundaryInstant = some i →
            (s.esm.voltage < s.params.readyLevel → exec .recoveryEnd s
              = .next ((s.atInstant i).setStore (.charging (max s.now i) (s.params.chargeTimeout * 1000))).settle)
            ∧ (s.params.readyLevel ≤ s.esm.voltage → exec .recoveryEnd s
              = .next ((s.atInstant i).setStore .ready).settle)))

/-! ### Transfers -/

/-- GAP_POINT: a slot at GAP goes to WAIT_MAKE when its to phase is HEALTHY (R96, R97), and with the to phase not
HEALTHY to WAIT_RETURN, ORPHANED with no return phase (R88, R97, R99); at every other stage it changes no slot.
ORPHAN_DEADLINE: a slot at WAIT_MAKE or WAIT_RETURN goes to ORPHANED and is polled from the next frame on (R87, R101);
past the dark deadline it ends DARK in the same operation. DARK_DEADLINE: a transfer at ORPHANED ends DARK (R101, R14,
R81). What every ending of a slot's record writes: the record by R14 with its link cleared and a pending chatter hold
tested (R15), the slot freed, the history entry, TRANSFER_FAILED for the results R81 names. -/
def Obligations.SlotDeadlines : Prop :=
  (∀ (s : State) (k : SlotId) (sl : Slot) (bt : Nat), s.slot k = some sl → sl.record.breakTime = some bt →
      let cls := s.timing sl.record.conn
      (sl.stage = .gap → s.health sl.record.target = .healthy →
          max s.now (bt + msToTicks cls.gap) < bt + msToTicks (cls.orphan - 300) →
          exec (.gapPoint k) s
            = .next ((s.atInstant (bt + msToTicks cls.gap)).setSlot k
                (some { sl with stage := .waitMake, verifyDue := none })).settle)
        ∧ (sl.stage = .gap →
          exec (.gapPoint k) s = .next ((s.atInstant (bt + msToTicks cls.gap)).goToMake k sl bt).settle)
        ∧ (sl.stage ≠ .gap → exec (.gapPoint k) s = .next (s.atInstant (bt + msToTicks cls.gap)).settle)
        ∧ (sl.stage = .waitMake ∨ sl.stage = .waitReturn → bt + msToTicks (cls.orphan + 1000) ≤ s.now →
          exec (.orphanDeadline k) s = .next (s.endRecord k .dark).settle)
        ∧ (sl.stage = .waitMake ∨ sl.stage = .waitReturn →
            max s.now (bt + msToTicks (cls.orphan - 300)) < bt + msToTicks (cls.orphan + 1000) →
            exec (.orphanDeadline k) s
              = .next ((s.atInstant (bt + msToTicks (cls.orphan - 300))).setSlot k
                  (some { sl with stage := .orphaned, verifyDue := some (s.sbc.frame + 1) })).settle))
    ∧ (∀ (s : State) (k : SlotId) (sl : Slot) (bt : Nat), s.slot k = some sl → sl.record.breakTime = some bt →
      sl.stage = .orphaned →
      ∃ t : State, exec (.darkDeadline k) s = .next t ∧ t.slot k = none ∧ (∀ j, j ≠ k → t.slot j = s.slot j)
        ∧ (t.conn sl.record.conn).dark = true ∧ (t.conn sl.record.conn).recordLink = none
        ∧ (t.conn sl.record.conn).phase = (s.conn sl.record.conn).phase
        ∧ (∀ m, m ≠ sl.record.conn → t.conn m = s.conn m)
        ∧ t.mvq.history.getLast?.map (fun e => (e.seq, e.result, e.breakConfirmed)) = some (sl.record.seq, .dark, true)
        ∧ t.evu.statuses.getLsbD 4 = true ∧ t.mvq.queue = s.mvq.queue ∧ t.mdc = s.mdc ∧ t.esm = s.esm)
    ∧ (∀ (s : State) (k : SlotId) (sl : Slot) (res : Result), s.slot k = some sl →
      let n := sl.record.conn
      let c := s.conn n
      let chatter := c.chatterPending = true ∧ s.params.chatterLimit ≤ c.uncommanded ∧ s.params.chatterHold = true
        ∧ c.hold = none
      ∃ t : State, s.endRecord k res = t
        ∧ t.slot k = none ∧ (∀ j, j ≠ k → t.slot j = s.slot j)
        ∧ t.conn n = { c with
            recordLink := none, chatterPending := false
            phase := if res = .done then .on sl.record.target else if res = .noReply then .unknown else c.phase
            lastMove := if res = .done then some s.tbs.epoch else c.lastMove
            dark := if res = .dark then true else c.dark
            hold := if chatter then some .chatter else c.hold }
        ∧ (∀ m, m ≠ n → t.conn m = s.conn m)
        ∧ t.mvq = { s.mvq with
            history := pushHistory s.mvq.history
              { seq := sl.record.seq, conn := n, source := sl.record.source, target := sl.record.target,
                origin := sl.record.origin, result := res, epoch := s.tbs.epoch, timeOfDay := s.tbs.timeOfDay,
                breaks := sl.record.breaks, makes := sl.record.makes, returns := sl.record.returns,
                breakConfirmed := sl.record.breakTime.isSome } }
        ∧ t.evu = { s.evu with statuses := s.evu.statuses ||| (if chatter then 0x0100 else 0)
            ||| (if res ∈ [.notOpened, .returned, .dark, .reverted, .wrongPhase, .noReply] then 0x0010 else 0) }
        ∧ t.sbc = { s.sbc with verifyPolls := s.sbc.verifyPolls.filter fun j => j != k }
        ∧ t = { s with conns := t.conns, txe := t.txe, mvq := t.mvq, evu := t.evu, sbc := t.sbc })

/-- ADMISSION (R78 to R80): with every slot free and one record queued that passes the checks of R79, the record
enters slot 0 at WAIT_BREAK and moves today rises by 1; in CONFIG, HALTED and RIDE_THROUGH nothing is examined. One
operation examines head after head: a head that fails ends with the result of its first failed check (STALE, BLOCKED,
MODULE_OFFLINE, TARGET_UNHEALTHY, LIMIT_REACHED) and the operation goes on with the next; a head that passes enters
the lowest free slot and the operation goes on; it stops when the queue is empty or no slot is free. -/
def Obligations.AdmissionTaken : Prop :=
  ∀ (s : State),
    (s.modeName ≠ .manual → s.modeName ≠ .auto → exec .admission s = .next s.settle)
      ∧ (∀ r, s.modeName = .manual ∨ s.modeName = .auto → s.mvq.queue = [r] → (∀ k, s.slot k = none) →
          (s.conn r.conn).present = true → (s.conn r.conn).phase = .on r.source → (s.conn r.conn).pin = false →
          (s.conn r.conn).hold = none → (s.conn r.conn).link = .online → s.health r.target = .healthy →
          (s.conn r.conn).movesToday < (if r.origin = .planner then (s.conn r.conn).allowance else 15) →
          (s.conn r.conn).movesToday < 15 →
          exec .admission s
            = .next ({ s.setConn r.conn { s.conn r.conn with movesToday := (s.conn r.conn).movesToday + 1 } with
                mvq := { s.mvq with queue := [] }
                txe := {
                  slots := s.txe.slots.set 0 (some
                    { record := r, stage := .waitBreak, order := s.txe.admitCount, lastAct := none, verifyDue := none,
                      misses := 0 })
                  admitCount := s.txe.admitCount + 1 } } : State).settle)
      ∧ exec .admission s = .next s.takeAdmission.settle
      ∧ (s.mvq.queue = [] ∨ (∀ k, s.slot k ≠ none) → exec .admission s = .next s.settle)
      ∧ (∀ (r : MoveRec) (rs : List MoveRec) (k : SlotId), s.modeName = .manual ∨ s.modeName = .auto →
          s.mvq.queue = r :: rs → s.slot k = none → (∀ j, j < k → s.slot j ≠ none) →
          let c := s.conn r.conn
          let goesOn := fun t : State => exec .admission s = exec .admission t ∧ t.mvq.queue.length < s.mvq.queue.length
          (c.present = false ∨ c.phase ≠ .on r.source → goesOn (s.endQueued r .stale))
            ∧ (c.present = true → c.phase = .on r.source →
              (c.pin = true ∨ c.hold ≠ none → goesOn (s.endQueued r .blocked))
                ∧ (c.pin = false → c.hold = none →
                  (c.link ≠ .online → goesOn (s.endQueued r .moduleOffline))
                    ∧ (c.link = .online →
                      (s.health r.target ≠ .healthy → goesOn (s.endQueued r .targetUnhealthy))
                        ∧ (s.health r.target = .healthy →
                          ((if r.origin = .planner then c.allowance else 15) ≤ c.movesToday →
                              goesOn (s.endQueued r .limitReached))
                            ∧ (c.movesToday < (if r.origin = .planner then c.allowance else 15) →
                              goesOn { s.setConn r.conn { c with movesToday := min 15 (c.movesToday + 1) } with
                                mvq := { s.mvq with queue := s.mvq.queue.filter fun x => x.order != r.order }
                                txe := {
                                  slots := s.txe.slots.set k (some
                                    { record := r, stage := .waitBreak, order := s.txe.admitCount, lastAct := none,
                                      verifyDue := none, misses := 0 })
                                  admitCount := s.txe.admitCount + 1 } }))))))
      ∧ (∀ (r : MoveRec) (res : Result), res ∈ [.stale, .blocked, .moduleOffline, .targetUnhealthy, .limitReached] →
          s.endQueued r res
            = { s.setConn r.conn { s.conn r.conn with recordLink := none } with
                mvq := { s.mvq with
                  queue := s.mvq.queue.filter fun x => x.order != r.order
                  history := pushHistory s.mvq.history
                    { seq := r.seq, conn := r.conn, source := r.source, target := r.target, origin := r.origin,
                      result := res, epoch := s.tbs.epoch, timeOfDay := s.tbs.timeOfDay, breaks := r.breaks,
                      makes := r.makes, returns := r.returns, breakConfirmed := r.breakTime.isSome } } })

/-! ### Inputs, halts, the key and the supply warning -/

/-- One millisecond sample (R147): at the debounced level the run goes; a new level starts a run at 0 or raises it by
1 while the debounce time is not reached. A change of the key: the authority passes and KEY_CHANGED is raised, nothing
else changes (R160, R163, R164). A change of SUPPLY_WARN to ACTIVE in CLEAR with no slot occupied saves the mode and
enters RIDE_THROUGH (R158, R172); a slot at WAIT_BREAK hands its record back to its place in the queue, its attempts
reset, and a queue of more than 16 gives up the record that stands last, DISPLACED (R77, R105). In WARNING a change to
INACTIVE makes the state CLEARING with its timer at 0, in CLEARING a change to ACTIVE makes it WARNING again, and the
mode stays RIDE_THROUGH, nothing else changed (R158). The clearing timer reaches 2,000 ms: the warning is CLEAR and
the mode takes the saved mode, with an admission at once in MANUAL and AUTO (R158, R165, R172). -/
def Obligations.InputKeyAndWarningEvents : Prop :=
  (∀ (s : State) (i : InputLine) (high : Bool),
      let r := s.input i
      let active := (high == r.polarityHigh)
      let u := s.atInstant (r.sampledAt + Config.ticksPerMs)
      (active = r.debounced → exec (.inputSample i high) s
          = .next (u.setInput i { r with
              sampled := active, sampledAt := r.sampledAt + Config.ticksPerMs, run := none }).settle)
        ∧ (active ≠ r.debounced → ∀ m, m = (match r.run with
              | none => 0
              | some x => x + 1) → m < r.debounce →
            exec (.inputSample i high) s
              = .next (u.setInput i { r with
                  sampled := active, sampledAt := r.sampledAt + Config.ticksPerMs, run := some m }).settle))
    ∧ (∀ (s : State) (high : Bool),
      (∀ r, s.input .keyLocal = r → r.level = true → (high == r.polarityHigh) ≠ r.debounced →
          r.debounce ≤ (match r.run with
            | none => 0
            | some x => x + 1) →
          exec (.debounceComplete .keyLocal high) s
            = .next ({ (s.atInstant (r.sampledAt + Config.ticksPerMs)).setInput .keyLocal { r with
                  sampled := (high == r.polarityHigh), debounced := (high == r.polarityHigh), run := none,
                  status := (high == r.polarityHigh), sampledAt := r.sampledAt + Config.ticksPerMs } with
                mdc := { s.mdc with authority := if high == r.polarityHigh then .service else .operator }
                evu := { s.evu with statuses := s.evu.statuses ||| 0x2000 } } : State).settle)
        ∧ (∀ r b, s.input .supplyWarn = r → r.level = true → r.debounced = false → high = r.polarityHigh →
            r.debounce ≤ (match r.run with
              | none => 0
              | some x => x + 1) →
            s.ilu.supply = .clear → s.mdc.mode = .base b → (∀ k, s.slot k = none) → s.mvq.queue.length ≤ 16 →
            exec (.debounceComplete .supplyWarn high) s
              = .next ((((s.atInstant (r.sampledAt + Config.ticksPerMs)).setInput .supplyWarn { r with
                  sampled := true, debounced := true, run := none, status := true,
                  sampledAt := r.sampledAt + Config.ticksPerMs }).setSupply .warning).setMode (.rideThrough b)).settle)
        ∧ (∀ r b, s.input .supplyWarn = r → r.level = true → r.debounced = false → high = r.polarityHigh →
            r.debounce ≤ (match r.run with
              | none => 0
              | some x => x + 1) →
            s.ilu.supply = .clear → s.mdc.mode = .base b →
            let u := (((s.atInstant (r.sampledAt + Config.ticksPerMs)).setInput .supplyWarn { r with
              sampled := true, debounced := true, run := none, status := true,
              sampledAt := r.sampledAt + Config.ticksPerMs }).setSupply .warning).setMode (.rideThrough b)
            (∃ t : State, exec (.debounceComplete .supplyWarn high) s = .next t ∧ t.mdc.mode = .rideThrough b
                ∧ t.mvq.queue.length ≤ 16 ∧ (∀ k, s.slotStage k = some .waitBreak → t.slot k = none)
                ∧ (∀ k, s.slotStage k ≠ some .waitBreak → t.slot k = s.slot k)
                ∧ (∀ n, (t.conn n).movesToday = (s.conn n).movesToday))
              ∧ (∀ k sl, s.slot k = some sl → sl.stage = .waitBreak →
                  (∀ j, j ≠ k → s.slotStage j ≠ some .waitBreak) →
                  let q := insertRec
                    { sl.record with cancel := false, breaks := 0, makes := 0, returns := 0, breakTime := none }
                    s.mvq.queue
                  let w : State := { u.setSlot k none with
                    sbc := { s.sbc with verifyPolls := s.sbc.verifyPolls.filter fun j => j != k }
                    mvq := { s.mvq with queue := q } }
                  (q.length ≤ 16 → exec (.debounceComplete .supplyWarn high) s = .next w.settle)
                    ∧ (∀ d, q.length = 17 → q.getLast? = some d →
                        exec (.debounceComplete .supplyWarn high) s = .next (w.endQueued d .displaced).settle))))
    ∧ (∀ (s : State) (high : Bool) (r : InputRec), s.input .supplyWarn = r → r.level = true →
      (high == r.polarityHigh) ≠ r.debounced →
      r.debounce ≤ (match r.run with
        | none => 0
        | some x => x + 1) →
      let at' := r.sampledAt + Config.ticksPerMs
      let w := fun active : Bool => (s.atInstant at').setInput .supplyWarn { r with
        sampled := active, debounced := active, run := none, status := active, sampledAt := at' }
      (r.debounced = true → s.ilu.supply = .warning →
          exec (.debounceComplete .supplyWarn high) s
            = .next ((w false).setSupply (.clearing (max s.now at'))).settle)
        ∧ (∀ since, r.debounced = false → s.ilu.supply = .clearing since →
          exec (.debounceComplete .supplyWarn high) s = .next ((w true).setSupply .warning).settle))
    ∧ (∀ (s : State) (since : Nat) (b : BaseMode), s.ilu.supply = .clearing since → s.mdc.mode = .rideThrough b →
      (exec .supplyClearingTimeout s
        = .next ((((s.atInstant (since + 2000 * Config.ticksPerMs)).setSupply .clear).setMode
            (.base b)).takeAdmission).settle)
        ∧ (b = .config ∨ b = .halted ∨ s.mvq.queue = [] → exec .supplyClearingTimeout s
          = .next (((s.atInstant (since + 2000 * Config.ticksPerMs)).setSupply .clear).setMode (.base b)).settle))

/-- The debounced level of an input that is a halt source changes (R147). Its status follows: of a LEVEL input it is
the level, of an EDGE input it becomes set at an active edge and stays as it is otherwise (R149). A status that stays
or becomes clear, was set already, or belongs to a source outside the halt mask changes nothing else. A masked source
whose status becomes set is a halt event: it enters the halt record once, with the mode as it was (R155, R157). In
CONFIG and HALTED, and in RIDE_THROUGH with one of them saved, nothing else changes; in MANUAL and AUTO the mode
becomes HALTED, in RIDE_THROUGH with one of them saved the saved mode does (R171). The queue is flushed from the head,
the slots are treated in slot order by stage, and each record that ends writes its history entry, HALTED, or DARK
where the dark deadline of a slot turned back has passed (R76, R81, R99, R101, R104). -/
def Obligations.MaskedEdgeHalts : Prop :=
  ∀ (s : State) (i : InputLine) (h : HaltSource) (r : InputRec) (high : Bool), haltSourceOf i = some h →
    s.input i = r → (high == r.polarityHigh) ≠ r.debounced →
    r.debounce ≤ (match r.run with
      | none => 0
      | some x => x + 1) →
    let active := (high == r.polarityHigh)
    let status := if r.level then active else r.status || active
    let at' := r.sampledAt + Config.ticksPerMs
    let u := (s.atInstant at').setInput i
      { r with sampled := active, debounced := active, run := none, status := status, sampledAt := at' }
    let entered := if s.ilu.haltRecord.any (fun e => e.source == h) then s.ilu.haltRecord else s.ilu.haltRecord ++
      [{ source := h, mode := s.modeName, epoch := s.tbs.epoch, timeOfDay := s.tbs.timeOfDay }]
    (status = false ∨ r.status = true ∨ s.masked h = false →
        exec (.debounceComplete i high) s = .next u.settle)
      ∧ (status = true → r.status = false → s.masked h = true →
        (∀ b, s.mdc.mode = .base b ∨ s.mdc.mode = .rideThrough b → b = .config ∨ b = .halted →
            exec (.debounceComplete i high) s
              = .next ({ u with ilu := { u.ilu with haltRecord := entered } } : State).settle)
          ∧ (∀ b, s.mdc.mode = .base b ∨ s.mdc.mode = .rideThrough b → b = .manual ∨ b = .auto →
            ∃ t : State, exec (.debounceComplete i high) s = .next t
              ∧ t.mdc = { s.mdc with
                  mode := if s.modeName = .rideThrough then .rideThrough .halted else .base .halted }
              ∧ t.ilu = { u.ilu with haltRecord := entered } ∧ t.haltActive = true
              ∧ (t.evu.statuses.getLsbD 0 = true ↔ s.modeName ≠ .rideThrough)
              ∧ t.mvq.queue = [] ∧ t.mvq.seqCounter = s.mvq.seqCounter
              ∧ (∀ x ∈ s.mvq.queue, (t.conn x.conn).recordLink = none)
              ∧ t.mvq.history = s.endedHistory (s.mvq.queue.map (fun x => (x, .halted)) ++ allSlots.filterMap (fun k =>
                  match s.slot k, t.slot k with
                  | some sl, none => some (sl.record, if sl.stage = .waitBreak then .halted else .dark)
                  | _, _ => none))
              ∧ (∀ k, s.slot k = none → t.slot k = none)
              ∧ (∀ k sl, s.slot k = some sl →
                (sl.stage = .waitBreak → t.slot k = none ∧ (t.conn sl.record.conn).recordLink = none)
                  ∧ (sl.stage = .breaking ∨ sl.stage = .making →
                    t.slot k = some { sl with record := { sl.record with cancel := true } })
                  ∧ (∀ bt, sl.stage = .gap ∨ sl.stage = .waitMake → sl.record.breakTime = some bt →
                    t.turnedBack sl bt (t.slot k))
                  ∧ (sl.stage = .waitReturn ∨ sl.stage = .returning ∨ sl.stage = .orphaned → t.slot k = some sl))
              ∧ t.now = u.now ∧ t.params = s.params ∧ t.fmu = s.fmu ∧ t.tbs = s.tbs ∧ t.bpl = s.bpl ∧ t.esm = s.esm
              ∧ t.ports = s.ports))

/-! ### Feeder measurement and the time base -/

/-- A sample pair through the glitch filter (R28) that accepts no positive-going crossing: its sign agrees with the
accepted sign, or breaks away from it for less than four samples, the first of which is kept as the place of a
crossing, with the sums of the run; with no accepted sign the run counts samples of one sign. The fourth sample of a
negative-going crossing: the sign is accepted, the run's samples join the cycle in progress, and nothing is reported.
-/
def Obligations.SamplePairFiltered : Prop :=
  ∀ (s : State) (p : Phase) (v i : Int),
    let ch := s.chan p
    let u := s.atInstant (ch.sampledAt + ch.interval)
    (∀ sign, ch.sign = some sign → decide (0 < v) = sign →
        exec (.samplePair p v i) s = .next (u.setChan p { ch with
          sampledAt := ch.sampledAt + ch.interval, lastSign := some sign, run := 0, runSums := noSums,
          cycle := addToCycle ch.cycle (addSums ch.runSums (sumsOf v i)) }).settle)
      ∧ (∀ sign, ch.sign = some sign → decide (0 < v) ≠ sign → ch.run < 3 →
          exec (.samplePair p v i) s = .next (u.setChan p { ch with
            sampledAt := ch.sampledAt + ch.interval, lastSign := some (decide (0 < v)), run := ch.run + 1,
            runPlace := if ch.run = 0 then ch.sampledAt + ch.interval else ch.runPlace,
            runSums := if ch.run = 0 then sumsOf v i else addSums ch.runSums (sumsOf v i) }).settle)
      ∧ (ch.sign = some true → v ≤ 0 → ch.run = 3 →
          exec (.acceptedCrossing p v i) s = .next (u.setChan p { ch with
            sampledAt := ch.sampledAt + ch.interval, lastSign := some false, sign := some false, run := 0,
            runSums := noSums, cycle := addToCycle ch.cycle (addSums ch.runSums (sumsOf v i)) }).settle)
      ∧ (ch.sign = none → ∃ t : State, exec (.samplePair p v i) s = .next t
          ∧ (ch.lastSign = some (decide (0 < v)) → ch.run = 3 →
              (t.chan p).sign = some (decide (0 < v)) ∧ (t.chan p).run = 0)
          ∧ (ch.lastSign = some (decide (0 < v)) → ch.run < 3 →
              (t.chan p).sign = none ∧ (t.chan p).run = ch.run + 1)
          ∧ (ch.lastSign ≠ some (decide (0 < v)) → (t.chan p).sign = none ∧ (t.chan p).run = 1)
          ∧ (t.chan p).cycle = ch.cycle ∧ t.sbc = s.sbc)

/-- The fourth sample of a positive-going crossing (R27 to R30, R40): the sign is accepted, the crossing is placed at
the first of the four, the next cycle opens there, the interval follows the completed cycle or is the nominal period /
128; a cycle of at least half a nominal period forms its values and is accumulated, a shorter one is discarded. The
completed cycle is evaluated once (R33), and a change of the phase's health is handed on at once (R35): leaving
HEALTHY marks the epoch disturbed, entering HEALTHY sets started or raises PHASE_RESTORED, entering LOST reports the
loss of a started phase to the planner; the alignment phase follows (R110) and the slots work out where they stand
(R88, R97, R99). The crossing is reported: one of the alignment phase makes a frame boundary due when at least half a
nominal period has passed since the last (R28, R109). That the interval after a completed cycle is a whole number of
ticks, truncated, is the model's choice (log 2). -/
def Obligations.CrossingAccepted : Prop :=
  ∀ (s : State) (p : Phase) (v i : Int), (s.chan p).sign = some false → (s.chan p).run = 3 → 0 < v →
    ∃ t : State, exec (.acceptedCrossing p v i) s = .next t
      ∧ (t.chan p).sign = some true ∧ (t.chan p).run = 0 ∧ (t.chan p).noCrossing = false
      ∧ (t.chan p).lastCrossing = (s.chan p).runPlace
      ∧ (t.chan p).cycle = some
          { start := (s.chan p).runPlace, sums := addSums (s.chan p).runSums (sumsOf v i) }
      ∧ (∀ c, (s.chan p).cycle = some c → s.period ≤ 2 * ((s.chan p).runPlace - c.start) →
          (t.chan p).interval = ((s.chan p).runPlace - c.start) / 128 ∧ (t.chan p).fallback = false
            ∧ (t.chan p).latest = some (cycleValues c.sums)
            ∧ (t.chan p).accSum = (s.chan p).accSum + (cycleValues c.sums).power
            ∧ (t.chan p).accCount = (s.chan p).accCount + 1
            ∧ (let old := s.chan p
              let new := evaluate s.params old (cycleValues c.sums).rmsV
              let restored := old.health ≠ .healthy ∧ new.health = .healthy
              (t.chan p).health = new.health ∧ (t.chan p).lossRun = new.lossRun ∧ (t.chan p).outRun = new.outRun
                ∧ (t.chan p).inRun = new.inRun ∧ ((t.chan p).started = true ↔ old.started = true ∨ restored)
                ∧ (t.fmu.disturbed = true ↔
                  s.fmu.disturbed = true ∨ (old.health = .healthy ∧ new.health ≠ .healthy))
                ∧ (t.evu.statuses.getLsbD 3 = true ↔
                  s.evu.statuses.getLsbD 3 = true ∨ (restored ∧ old.started = true))
                ∧ (old.health ≠ .lost → new.health = .lost → s.lossReported t p)
                ∧ (old.health = .lost ∨ new.health ≠ .lost →
                  t.bpl = s.bpl ∧ t.mvq.queue = s.mvq.queue ∧ t.mvq.seqCounter = s.mvq.seqCounter)
                ∧ (old.health ≠ new.health → t.aligned
                  ∧ (∀ k sl, s.slot k = some sl → t.rechecked sl (t.slot k))
                  ∧ ∀ k, s.slot k = none → t.slot k = none)
                ∧ (old.health = new.health → t.txe = s.txe ∧ t.mvq = s.mvq ∧ t.sbc.alignment = s.sbc.alignment)))
      ∧ ((∀ c, (s.chan p).cycle = some c → 2 * ((s.chan p).runPlace - c.start) < s.period) →
          (t.chan p).interval = s.period / 128 ∧ (t.chan p).fallback = true ∧ (t.chan p).latest = (s.chan p).latest
            ∧ (t.chan p).accSum = (s.chan p).accSum ∧ (t.chan p).accCount = (s.chan p).accCount
            ∧ (t.chan p).health = (s.chan p).health ∧ t.txe = s.txe ∧ t.mvq = s.mvq ∧ t.bpl = s.bpl
            ∧ t.sbc.alignment = s.sbc.alignment)
      ∧ (∀ q, q ≠ p → t.chan q = s.chan q)
      ∧ (t.sbc.boundaryDue = true ↔ s.sbc.boundaryDue = true
          ∨ (t.sbc.alignment = some p ∧ s.sbc.framePeriod ≤ 2 * (t.now - s.sbc.boundaryAt)))
      ∧ t.now = max s.now ((s.chan p).sampledAt + (s.chan p).interval)

/-- The figures of a completed cycle (R30): the RMS voltage is the greatest tenth of a volt whose square is at most
the mean square, up to 400.0 V; the power is the mean product in W truncated toward zero, within ±250,000 W. The
health table of R33, row by row, on a channel whose runs lie in their ranges. -/
def Obligations.CyclesFormedAndJudged : Prop :=
  (∀ x : Sums, 0 < x.n →
      (cycleValues x).rmsV ≤ 4000
        ∧ (cycleValues x).rmsV * (cycleValues x).rmsV * (x.n * 10000) ≤ x.vv
        ∧ ((cycleValues x).rmsV < 4000 →
            x.vv < ((cycleValues x).rmsV + 1) * ((cycleValues x).rmsV + 1) * (x.n * 10000))
        ∧ (cycleValues x).power = max (-250000) (min 250000 (x.vi.tdiv (x.n * 1000000))))
    ∧ (∀ (p : Params) (ch : PhaseChannel) (rms : Nat), p.inRange → ch.lossRun ≤ 3 → ch.outRun ≤ 10 →
      let low := decide (rms < p.vLow)
      let out := low || decide (p.vHigh < rms)
      let new := (evaluate p ch rms).health
      (ch.health ≠ .lost → rms < p.vLoss → ch.lossRun = 2 ∨ ch.lossRun = 3 → new = .lost
          ∧ (evaluate p ch rms).outRun = 0 ∧ (evaluate p ch rms).inRun = 0)
        ∧ (ch.health ≠ .degraded → out = true → ¬ (rms < p.vLoss ∧ 2 ≤ ch.lossRun) → 9 ≤ ch.outRun → new = .degraded)
        ∧ (ch.health = .degraded ∨ ch.health = .lost → out = false → new = .recovering
            ∧ (evaluate p ch rms).inRun = 1)
        ∧ (ch.health = .recovering → out = false → p.restoreCount ≤ ch.inRun + 1 → new = .healthy)
        ∧ (ch.health = .recovering → out = false → ch.inRun + 1 < p.restoreCount → new = .recovering)
        ∧ (ch.health = .healthy → out = false → new = .healthy)
        ∧ (ch.health = .healthy → out = true → ch.lossRun < 2 → ch.outRun < 9 → new = .healthy))

/-- Two nominal periods without an accepted positive-going crossing: the phase is LOST with its three runs 0 and its
cycle abandoned, the no-crossing condition holds (R34). A phase not LOST before hands the change on (R35): the loss of
a started phase is reported to the planner (R59), and the slots work out where they stand (R88, R97, R99); a phase
LOST before changes no slot and no record. The end of a neutral window (R31): 50 windows in a row above the limit set
the condition, 50 in a row below the clear level (90 % of the limit, truncated) clear it, and any other window breaks
the run. A window of the reference holds as many samples as its cycle has sample pairs; with all phases LOST a window
is one nominal period of the part's own clock and holds 128 (R31, log 14). -/
def Obligations.LossAndNeutralEvents : Prop :=
  (∀ (s : State) (p : Phase), (s.chan p).noCrossing = false →
      ∃ t : State, exec (.noCrossingLoss p) s = .next t ∧ t.health p = .lost ∧ (t.chan p).noCrossing = true
        ∧ (t.chan p).cycle = none ∧ t.now = max s.now ((s.chan p).lastCrossing + 2 * s.period)
        ∧ ((s.chan p).health ≠ .lost →
            (t.chan p).lossRun = 0 ∧ (t.chan p).outRun = 0 ∧ (t.chan p).inRun = 0 ∧ t.aligned
              ∧ s.lossReported t p ∧ (∀ k sl, s.slot k = some sl → t.rechecked sl (t.slot k))
              ∧ ∀ k, s.slot k = none → t.slot k = none)
        ∧ ((s.chan p).health = .lost → t.fmu.chan = (s.setChan p { s.chan p with
            noCrossing := true, cycle := none }).fmu.chan ∧ t.txe = s.txe ∧ t.mvq = s.mvq ∧ t.bpl = s.bpl
              ∧ t.conns = s.conns ∧ t.sbc = s.sbc)
        ∧ (∀ q, q ≠ p → (t.chan q).health = (s.chan q).health)
        ∧ (s.health p = .healthy → t.fmu.disturbed = true))
    ∧ (∀ (s : State) (samples : List Int), s.fmu.neutral.windowReady = true →
      samples.length = s.fmu.neutral.windowCount → ∃ t : State, exec (.neutralWindowEnd samples) s = .next t
        ∧ t.fmu.neutral.latest = some (neutralRms samples) ∧ t.fmu.neutral.windowReady = false
        ∧ (s.fmu.neutral.overcurrent = false →
            (neutralRms samples ≤ s.params.neutralLimit → t.fmu.neutral.overcurrent = false ∧ t.fmu.neutral.overRun = 0)
              ∧ (s.params.neutralLimit < neutralRms samples → s.fmu.neutral.overRun < 49 →
                  t.fmu.neutral.overcurrent = false ∧ t.fmu.neutral.overRun = s.fmu.neutral.overRun + 1)
              ∧ (s.params.neutralLimit < neutralRms samples → s.fmu.neutral.overRun = 49 →
                  t.fmu.neutral.overcurrent = true ∧ t.fmu.neutral.overRun = 0 ∧ t.fmu.neutral.underRun = 0))
        ∧ (s.fmu.neutral.overcurrent = true →
            (s.params.neutralLimit * 9 / 10 ≤ neutralRms samples →
                t.fmu.neutral.overcurrent = true ∧ t.fmu.neutral.underRun = 0)
              ∧ (neutralRms samples < s.params.neutralLimit * 9 / 10 → s.fmu.neutral.underRun < 49 →
                  t.fmu.neutral.overcurrent = true ∧ t.fmu.neutral.underRun = s.fmu.neutral.underRun + 1)
              ∧ (neutralRms samples < s.params.neutralLimit * 9 / 10 → s.fmu.neutral.underRun = 49 →
                  t.fmu.neutral.overcurrent = false ∧ t.fmu.neutral.overRun = 0 ∧ t.fmu.neutral.underRun = 0)))
    ∧ (∀ (s : State) (samples : List Int) (start : Nat), s.fmu.neutral.windowReady = false →
      (∀ p, s.health p = .lost) → s.fmu.neutral.windowStart = some start →
      (samples.length = 128 →
          exec (.neutralWindowEnd samples) s
            = .next (((s.atInstant (start + s.period)).setNeutral
                { s.fmu.neutral with windowStart := some (start + s.period) }).neutralWindow (neutralRms samples)).settle)
        ∧ (samples.length ≠ 128 → exec (.neutralWindowEnd samples) s = .next s.settle))
    ∧ (∀ (s : State) (samples : List Int), s.fmu.neutral.windowReady = true →
      samples.length ≠ s.fmu.neutral.windowCount → exec (.neutralWindowEnd samples) s = .next s.settle)
    ∧ (∀ (s : State) (p : Phase) (c : OpenCycle) (x : Nat), firstNotLost s.fmu.chan = some p →
      s.fmu.neutral.windowStart = some x →
      s.closeNeutralWindow p (some c)
          = s.setNeutral { s.fmu.neutral with windowReady := true, windowCount := c.sums.n }
        ∧ s.closeNeutralWindow p none = s)

/-- A second tick with no epoch end owed (R37, R39): time-of-day rises by 1, and an epoch end is due when it reaches a
multiple of the epoch length; nothing else changes: that the tick marks the end due and EPOCH_END takes it is the
model's choice (log 9). At 86,399 the day rolls over: time-of-day 0, the day number up by 1, DAY_ROLLOVER raised,
moves today and uncommanded today 0 in every record, present or absent (R25). EPOCH_END after the tick that made it
due (R13, R39 to R41): the averages of the ended epoch, the accumulators cleared, the epoch loads closed, each
accumulator going on with what already counts in the new epoch (R47, log 9), the number up by 1, the pending length in
effect, the disturbed flag set exactly when a phase is short of HEALTHY, and the planner's outcome for a part not in
AUTO. The signal of the end then makes the planner's run on the ended epoch and its flag (R44), the expiry of queued
PLANNER records (R75) and, in AUTO with the rescue parameter ON and a phase LOST, a rescue pass of cause EPOCH_END
after the run (R59); the expiry may come before the run, after it or after the pass, which R75 and R47 leave free (a
free value, log 3). A PLANNER record expires when at least two epochs have ended since its accepted one: in queue
order each leaves the queue EXPIRED with its link cleared and its history entry (R75, R81); one this run accepted is
not tested (log 3). -/
def Obligations.TimeBaseEvents : Prop :=
  (∀ s : State, s.tbs.endDue = false →
      (s.tbs.timeOfDay < 86399 → exec .secondTick s = .next ({ s with
          now := max s.now (s.tbs.tickAt + Config.ticksPerSecond)
          tbs := { s.tbs with
            timeOfDay := s.tbs.timeOfDay + 1, tickAt := s.tbs.tickAt + Config.ticksPerSecond,
            endDue := decide ((s.tbs.timeOfDay + 1) % s.tbs.epochLength = 0) } } : State).settle)
        ∧ (s.tbs.timeOfDay = 86399 → ∃ t : State, exec .dayRollover s = .next t ∧ t.tbs.timeOfDay = 0
            ∧ t.tbs.day = s.tbs.day + 1 ∧ t.tbs.endDue = true ∧ t.tbs.epoch = s.tbs.epoch
            ∧ t.evu.statuses.getLsbD 14 = true
            ∧ (∀ n, t.conn n = { s.conn n with movesToday := 0, uncommanded := 0 })
            ∧ t.mvq = s.mvq ∧ t.txe = s.txe ∧ t.mdc = s.mdc ∧ t.fmu = s.fmu))
    ∧ (∀ s : State, s.tbs.endDue = true →
      ∃ t : State, exec .epochEnd s = .next t
        ∧ t.tbs = { s.tbs with epoch := s.tbs.epoch + 1, epochLength := s.tbs.pendingLength, endDue := false }
        ∧ t.fmu.averages = some { epoch := s.tbs.epoch, avg := s.fmu.chan.map averageOf }
        ∧ (∀ p, (t.chan p).accSum = 0 ∧ (t.chan p).accCount = 0 ∧ t.health p = s.health p)
        ∧ (t.fmu.disturbed = true ↔ ∃ p, s.health p ≠ .healthy)
        ∧ (∀ n, (t.conn n).nextSum = 0 ∧ (t.conn n).nextCount = 0
            ∧ (t.conn n).accSum = (if (s.conn n).present then (s.conn n).nextSum else 0)
            ∧ (t.conn n).accCount = (if (s.conn n).present then (s.conn n).nextCount else 0)
            ∧ ((s.conn n).present = true → 4 ≤ (s.conn n).accCount →
                (t.conn n).epochLoad = some ((s.conn n).accSum.tdiv (s.conn n).accCount))
            ∧ ((s.conn n).present = true → (s.conn n).accCount < 4 → (t.conn n).epochLoad = none)
            ∧ ((s.conn n).present = false → (t.conn n).epochLoad = (s.conn n).epochLoad))
        ∧ (s.modeName ≠ .auto → t.bpl.plan = some
            { epoch := s.tbs.epoch, outcome := .notAuto, before := none, after := none, entries := [] }))
    ∧ (∀ s : State, s.tbs.endDue = true →
      let e := s.tbs.epoch
      let d := s.fmu.disturbed
      let u : State := { s with
        fmu := { s.fmu with
          chan := s.fmu.chan.map clearAccumulator
          averages := some { epoch := e, avg := s.fmu.chan.map averageOf }
          disturbed := s.shortOfHealthy }
        conns := mapAll closeLoad s.conns
        tbs := { s.tbs with epoch := e + 1, epochLength := s.tbs.pendingLength, endDue := false }
        free := s.free + 1 }
      ∃ t : State, exec .epochEnd s = .next t.settle
        ∧ (t = ((u.expireQueued e).plannerRun e d).epochRescue
          ∨ t = ((u.plannerRun e d).expireQueued e).epochRescue
          ∨ t = ((u.plannerRun e d).epochRescue).expireQueued e))
    ∧ (∀ s : State,
      (s.modeName = .auto → s.params.rescue = true → (∃ p, s.health p = .lost) →
          s.epochRescue = s.rescuePass .epochEnd)
        ∧ (s.modeName ≠ .auto ∨ s.params.rescue = false ∨ (∀ p, s.health p ≠ .lost) → s.epochRescue = s))
    ∧ (∀ (s : State) (e : Word), s.linked →
      let old := fun r : MoveRec =>
        decide (r.origin = .planner ∧ r.acceptedEpoch ≠ e + 1 ∧ 2 ≤ (e - r.acceptedEpoch).toNat)
      let t := s.expireQueued e
      t.mvq = { s.mvq with
          queue := s.mvq.queue.filter fun r => !old r
          history := s.endedHistory ((s.mvq.queue.filter old).map fun r => (r, .expired)) }
        ∧ (∀ r ∈ s.mvq.queue, old r = true → t.conn r.conn = { s.conn r.conn with recordLink := none })
        ∧ (∀ n, (∀ r ∈ s.mvq.queue, old r = true → r.conn ≠ n) → t.conn n = s.conn n)
        ∧ t = { s with conns := t.conns, mvq := t.mvq })

/-! ### The planner and the rescue pass -/

/-- The trial deviations of a move (R51): three times the load off the source, three times the load onto the target,
the third phase as it was; the deviations add up to 0 before and after (R48). The choice of a step (R53): the largest
gain; at equal gain the lower connection number; for one connection the target that comes first in A, B, C; and a
step with a qualifying candidate has a choice. -/
def Obligations.MovesChosenByGain : Prop :=
  (∀ (w : PerPhase Int) (x y : Phase) (l : Int), x ≠ y →
      deviation (shifted w x y l) x = deviation w x - 3 * l
        ∧ deviation (shifted w x y l) y = deviation w y + 3 * l
        ∧ (∀ z, z ≠ x → z ≠ y → deviation (shifted w x y l) z = deviation w z)
        ∧ deviation w .A + deviation w .B + deviation w .C = 0
        ∧ gainOf w x y l ≤ 3 * |l|)
    ∧ (∀ (s : State) (e : Word) (w : PerPhase Int) (done : List ConnId),
      (s.qualifiers e w done ≠ [] → bestChoice (s.qualifiers e w done) ≠ none)
        ∧ ∀ c, bestChoice (s.qualifiers e w done) = some c → c ∈ s.qualifiers e w done
            ∧ ∀ d ∈ s.qualifiers e w done, d.entry.gain < c.entry.gain
                ∨ (d.entry.gain = c.entry.gain ∧ (c.entry.conn < d.entry.conn
                  ∨ (c.entry.conn = d.entry.conn ∧ Phase.code c.entry.target ≤ Phase.code d.entry.target))))

/-- A planner run always writes its status; a PLANNED run has chosen at least one and at most Kmax moves of different
connections, its U3 after lies strictly below its U3 before, and the gains add up to the difference (R54, R56, R57).
The five checks of R46 in their order: the first that fails gives NOT_AUTO, DISTURBED, PENDING, QUEUE_FULL or
BALANCED, and the run writes its status and nothing else; so does a run that passes them all and finds NO_CANDIDATE
(R55). -/
def Obligations.PlannedRunLowersImbalance : Prop :=
  (∀ (s : State) (e : Word) (d : Bool), ∃ p : PlanStatus, (s.plannerRun e d).bpl.plan = some p ∧ p.epoch = e
    ∧ (p.outcome = .planned ↔ p.entries ≠ []) ∧ p.entries.length ≤ s.params.kmax
    ∧ p.entries.Pairwise (fun a b => a.conn ≠ b.conn)
    ∧ (p.outcome = .planned → ∃ b a : Int, p.before = some b ∧ p.after = some a ∧ a < b
        ∧ b - a = (p.entries.map (·.gain)).sum ∧ ∀ x ∈ p.entries, 3 * (s.params.wmin : Int) ≤ x.gain ∧ 0 < x.gain))
    ∧ (∀ (s : State) (e : Word) (d : Bool),
      let ends := fun (o : PlanOutcome) (before : Option Int) => s.plannerRun e d = { s with bpl := { s.bpl with
        plan := some { epoch := e, outcome := o, before := before, after := none, entries := [] } } }
      (s.modeName ≠ .auto → ends .notAuto none)
        ∧ (s.modeName = .auto →
          (d = true ∨ s.average .A = none ∨ s.average .B = none ∨ s.average .C = none → ends .disturbed none)
            ∧ ∀ a b c, d = false → s.average .A = some a → s.average .B = some b → s.average .C = some c →
              let before := u3 ⟨a, b, c⟩
              ((∃ r ∈ s.records, r.origin = .planner) → ends .pending none)
                ∧ ((∀ r ∈ s.records, r.origin ≠ .planner) →
                  (16 ≤ s.mvq.queue.length → ends .queueFull none)
                    ∧ (s.mvq.queue.length < 16 →
                      (before ≤ 3 * (s.params.wtrig : Int) → ends .balanced (some before))
                        ∧ (3 * (s.params.wtrig : Int) < before → ends .noCandidate (some before)
                          ∨ ∃ p, (s.plannerRun e d).bpl.plan = some p ∧ p.outcome = .planned
                            ∧ p.before = some before)))))

/-- A planner run plans only in AUTO, on an undisturbed epoch with all averages, with no PLANNER record outstanding
and a place free; each record it hands over moves a present, ONLINE, unbarred connection off its confirmed phase onto
a HEALTHY phase, and is an entry of the run's plan. Each entry is the best qualifying choice on the working powers that
the entries before it leave, which meets the phase limit of R50 (R46, R49 to R55). A rescue pass moves only connections
off LOST phases onto HEALTHY ones, with no record linked but a PLANNER record the pass displaces (R61, log 15), and its
status counts them (R61 to R65); its target is the HEALTHY phase of the lowest working power that the load keeps within
the phase limit, on the working powers that the records it accepted before leave (R62, R63). -/
def Obligations.RecordsOnlyFromCandidates : Prop :=
  (∀ (s : State) (e : Word) (d : Bool) (r : MoveRec), r ∈ (s.plannerRun e d).mvq.queue → r ∉ s.mvq.queue →
      s.modeName = .auto ∧ d = false ∧ s.plannerOutstanding = false ∧ s.mvq.queue.length < 16
        ∧ r.origin = .planner ∧ (s.conn r.conn).present = true ∧ (s.conn r.conn).link = .online
        ∧ (s.conn r.conn).phase = .on r.source ∧ r.target ≠ r.source ∧ s.health r.target = .healthy
        ∧ (s.conn r.conn).pin = false ∧ (s.conn r.conn).hold = none ∧ (s.conn r.conn).dark = false
        ∧ (s.conn r.conn).movesToday < (s.conn r.conn).allowance ∧ r.load = (s.conn r.conn).epochLoad
        ∧ r.acceptedEpoch = s.tbs.epoch ∧ r.load ≠ none ∧ (s.conn r.conn).recordLink = none
        ∧ (∀ m, (s.conn r.conn).lastMove = some m → s.params.restPeriod ≤ (s.tbs.epoch - m).toNat)
        ∧ ∃ p, (s.plannerRun e d).bpl.plan = some p
            ∧ ∃ x ∈ p.entries, x.conn = r.conn ∧ x.source = r.source ∧ x.target = r.target)
    ∧ (∀ (s : State) (e : Word) (d : Bool) (start : PerPhase Int) (p : PlanStatus) (pre post : List PlanEntry)
        (x : PlanEntry), s.allAverages = some start → (s.plannerRun e d).bpl.plan = some p →
      p.entries = pre ++ x :: post →
      let w := pre.foldl (fun w y => shifted w y.source y.target ((s.conn y.conn).epochLoad.getD 0)) start
      (bestChoice (s.qualifiers s.tbs.epoch w (pre.map (·.conn)))).map (·.entry) = some x)
    ∧ (∀ (s : State) (e : Word) (w : PerPhase Int) (done : List ConnId) (k : ConnId) (y : Phase) (c : Choice),
      s.qualifying e w done k y = some c →
      c.entry.conn = k ∧ c.entry.target = y ∧ k ∉ done ∧ (s.conn k).epochLoad = some c.load
        ∧ |w.get y + c.load| ≤ (s.params.plim : Int) ∧ c.entry.gain = u3 w - u3 (shifted w c.entry.source y c.load)
        ∧ 0 < c.entry.gain ∧ 3 * (s.params.wmin : Int) ≤ c.entry.gain)
    ∧ (∀ (s : State) (w : PerPhase Int) (x : Phase) (l : Int),
      let fits := fun y : Phase => y ≠ x ∧ s.health y = .healthy ∧ |w.get y + l| ≤ (s.params.plim : Int)
      (lowestPower w (s.rescueTargets w x l) = none ↔ ∀ y, ¬ fits y)
        ∧ ∀ y, lowestPower w (s.rescueTargets w x l) = some y →
            fits y ∧ ∀ z, fits z → w.get y < w.get z ∨ (w.get y = w.get z ∧ Phase.code y ≤ Phase.code z))
    ∧ (∀ (s : State) (cause : RescueCause),
      (∀ r, r ∈ (s.rescuePass cause).mvq.queue → r ∉ s.mvq.queue →
          r.origin = .rescue ∧ (s.conn r.conn).present = true ∧ (s.conn r.conn).link = .online
            ∧ (s.conn r.conn).phase = .on r.source ∧ s.health r.source = .lost ∧ s.health r.target = .healthy
            ∧ (s.conn r.conn).pin = false ∧ (s.conn r.conn).hold = none ∧ (s.conn r.conn).movesToday < 15
            ∧ r.load = (s.conn r.conn).epochLoad ∧ r.acceptedEpoch = s.tbs.epoch
            ∧ ((s.conn r.conn).recordLink = none
              ∨ ∃ x ∈ s.mvq.queue, x.origin = .planner ∧ x.conn = r.conn))
        ∧ (s.linked → ∀ r ∈ (s.rescuePass cause).mvq.queue, s.mvq.acceptCount ≤ r.order →
          let load := fun n : ConnId => ((s.conn n).epochLoad.or (s.conn n).lastLoad).getD 0
          let power := fun z : Phase => (s.average z).getD 0
            + (((s.rescuePass cause).mvq.queue.filter fun x =>
                decide (s.mvq.acceptCount ≤ x.order ∧ x.order < r.order ∧ x.target = z)).map
              (fun x => load x.conn)).sum
          let w : PerPhase Int := ⟨power .A, power .B, power .C⟩
          lowestPower w (s.rescueTargets w r.source (load r.conn)) = some r.target)
        ∧ ∃ p : RescueStatus, (s.rescuePass cause).bpl.rescue = some p ∧ p.cause = cause ∧ p.epoch = s.tbs.epoch
            ∧ (∀ x : Phase, p.lost.get x = (s.health x == .lost))
            ∧ (s.rescuePass cause).mvq.seqCounter = s.mvq.seqCounter + BitVec.ofNat 16 p.accepted
            ∧ (0 < p.accepted → (s.rescuePass cause).evu.statuses.getLsbD 11 = true))
end

