-- ==== Sys2Proof/Laws/State.lean ====
section
/-! SUPPORT. What each update of the state does to each field: one lemma for each field and update, true by rfl. -/

namespace Sys2Proof.Machine

open Sys2Proof

variable (s : State)

@[simp] theorem State.setConn_now (n : ConnId) (c : Conn) : (s.setConn n c).now = s.now := rfl
@[simp] theorem State.setConn_free (n : ConnId) (c : Conn) : (s.setConn n c).free = s.free := rfl
@[simp] theorem State.setConn_params (n : ConnId) (c : Conn) : (s.setConn n c).params = s.params := rfl
@[simp] theorem State.setConn_classes (n : ConnId) (c : Conn) : (s.setConn n c).classes = s.classes := rfl
@[simp] theorem State.setConn_conns (n : ConnId) (c : Conn) : (s.setConn n c).conns = s.conns.set n c := rfl
@[simp] theorem State.setConn_fmu (n : ConnId) (c : Conn) : (s.setConn n c).fmu = s.fmu := rfl
@[simp] theorem State.setConn_tbs (n : ConnId) (c : Conn) : (s.setConn n c).tbs = s.tbs := rfl
@[simp] theorem State.setConn_bpl (n : ConnId) (c : Conn) : (s.setConn n c).bpl = s.bpl := rfl
@[simp] theorem State.setConn_mvq (n : ConnId) (c : Conn) : (s.setConn n c).mvq = s.mvq := rfl
@[simp] theorem State.setConn_txe (n : ConnId) (c : Conn) : (s.setConn n c).txe = s.txe := rfl
@[simp] theorem State.setConn_sbc (n : ConnId) (c : Conn) : (s.setConn n c).sbc = s.sbc := rfl
@[simp] theorem State.setConn_esm (n : ConnId) (c : Conn) : (s.setConn n c).esm = s.esm := rfl
@[simp] theorem State.setConn_ilu (n : ConnId) (c : Conn) : (s.setConn n c).ilu = s.ilu := rfl
@[simp] theorem State.setConn_mdc (n : ConnId) (c : Conn) : (s.setConn n c).mdc = s.mdc := rfl
@[simp] theorem State.setConn_ports (n : ConnId) (c : Conn) : (s.setConn n c).ports = s.ports := rfl
@[simp] theorem State.setConn_evu (n : ConnId) (c : Conn) : (s.setConn n c).evu = s.evu := rfl
@[simp] theorem State.setConn_smp (n : ConnId) (c : Conn) : (s.setConn n c).smp = s.smp := rfl
@[simp] theorem State.setConn_pending (n : ConnId) (c : Conn) : (s.setConn n c).pending = s.pending := rfl

@[simp] theorem State.setSlot_now (k : SlotId) (x : Option Slot) : (s.setSlot k x).now = s.now := rfl
@[simp] theorem State.setSlot_free (k : SlotId) (x : Option Slot) : (s.setSlot k x).free = s.free := rfl
@[simp] theorem State.setSlot_params (k : SlotId) (x : Option Slot) : (s.setSlot k x).params = s.params := rfl
@[simp] theorem State.setSlot_classes (k : SlotId) (x : Option Slot) : (s.setSlot k x).classes = s.classes := rfl
@[simp] theorem State.setSlot_conns (k : SlotId) (x : Option Slot) : (s.setSlot k x).conns = s.conns := rfl
@[simp] theorem State.setSlot_fmu (k : SlotId) (x : Option Slot) : (s.setSlot k x).fmu = s.fmu := rfl
@[simp] theorem State.setSlot_tbs (k : SlotId) (x : Option Slot) : (s.setSlot k x).tbs = s.tbs := rfl
@[simp] theorem State.setSlot_bpl (k : SlotId) (x : Option Slot) : (s.setSlot k x).bpl = s.bpl := rfl
@[simp] theorem State.setSlot_mvq (k : SlotId) (x : Option Slot) : (s.setSlot k x).mvq = s.mvq := rfl
@[simp] theorem State.setSlot_txe (k : SlotId) (x : Option Slot) :
    (s.setSlot k x).txe = { s.txe with slots := s.txe.slots.set k x } := rfl
@[simp] theorem State.setSlot_sbc (k : SlotId) (x : Option Slot) : (s.setSlot k x).sbc = s.sbc := rfl
@[simp] theorem State.setSlot_esm (k : SlotId) (x : Option Slot) : (s.setSlot k x).esm = s.esm := rfl
@[simp] theorem State.setSlot_ilu (k : SlotId) (x : Option Slot) : (s.setSlot k x).ilu = s.ilu := rfl
@[simp] theorem State.setSlot_mdc (k : SlotId) (x : Option Slot) : (s.setSlot k x).mdc = s.mdc := rfl
@[simp] theorem State.setSlot_ports (k : SlotId) (x : Option Slot) : (s.setSlot k x).ports = s.ports := rfl
@[simp] theorem State.setSlot_evu (k : SlotId) (x : Option Slot) : (s.setSlot k x).evu = s.evu := rfl
@[simp] theorem State.setSlot_smp (k : SlotId) (x : Option Slot) : (s.setSlot k x).smp = s.smp := rfl
@[simp] theorem State.setSlot_pending (k : SlotId) (x : Option Slot) : (s.setSlot k x).pending = s.pending := rfl

@[simp] theorem State.setChan_now (p : Phase) (c : PhaseChannel) : (s.setChan p c).now = s.now := rfl
@[simp] theorem State.setChan_free (p : Phase) (c : PhaseChannel) : (s.setChan p c).free = s.free := rfl
@[simp] theorem State.setChan_params (p : Phase) (c : PhaseChannel) : (s.setChan p c).params = s.params := rfl
@[simp] theorem State.setChan_classes (p : Phase) (c : PhaseChannel) : (s.setChan p c).classes = s.classes := rfl
@[simp] theorem State.setChan_conns (p : Phase) (c : PhaseChannel) : (s.setChan p c).conns = s.conns := rfl
@[simp] theorem State.setChan_fmu (p : Phase) (c : PhaseChannel) :
    (s.setChan p c).fmu = { s.fmu with chan := s.fmu.chan.set p c } := rfl
@[simp] theorem State.setChan_tbs (p : Phase) (c : PhaseChannel) : (s.setChan p c).tbs = s.tbs := rfl
@[simp] theorem State.setChan_bpl (p : Phase) (c : PhaseChannel) : (s.setChan p c).bpl = s.bpl := rfl
@[simp] theorem State.setChan_mvq (p : Phase) (c : PhaseChannel) : (s.setChan p c).mvq = s.mvq := rfl
@[simp] theorem State.setChan_txe (p : Phase) (c : PhaseChannel) : (s.setChan p c).txe = s.txe := rfl
@[simp] theorem State.setChan_sbc (p : Phase) (c : PhaseChannel) : (s.setChan p c).sbc = s.sbc := rfl
@[simp] theorem State.setChan_esm (p : Phase) (c : PhaseChannel) : (s.setChan p c).esm = s.esm := rfl
@[simp] theorem State.setChan_ilu (p : Phase) (c : PhaseChannel) : (s.setChan p c).ilu = s.ilu := rfl
@[simp] theorem State.setChan_mdc (p : Phase) (c : PhaseChannel) : (s.setChan p c).mdc = s.mdc := rfl
@[simp] theorem State.setChan_ports (p : Phase) (c : PhaseChannel) : (s.setChan p c).ports = s.ports := rfl
@[simp] theorem State.setChan_evu (p : Phase) (c : PhaseChannel) : (s.setChan p c).evu = s.evu := rfl
@[simp] theorem State.setChan_smp (p : Phase) (c : PhaseChannel) : (s.setChan p c).smp = s.smp := rfl
@[simp] theorem State.setChan_pending (p : Phase) (c : PhaseChannel) : (s.setChan p c).pending = s.pending := rfl

@[simp] theorem State.setPort_now (lk : Link) (p : Port) : (s.setPort lk p).now = s.now := rfl
@[simp] theorem State.setPort_free (lk : Link) (p : Port) : (s.setPort lk p).free = s.free := rfl
@[simp] theorem State.setPort_params (lk : Link) (p : Port) : (s.setPort lk p).params = s.params := rfl
@[simp] theorem State.setPort_classes (lk : Link) (p : Port) : (s.setPort lk p).classes = s.classes := rfl
@[simp] theorem State.setPort_conns (lk : Link) (p : Port) : (s.setPort lk p).conns = s.conns := rfl
@[simp] theorem State.setPort_fmu (lk : Link) (p : Port) : (s.setPort lk p).fmu = s.fmu := rfl
@[simp] theorem State.setPort_tbs (lk : Link) (p : Port) : (s.setPort lk p).tbs = s.tbs := rfl
@[simp] theorem State.setPort_bpl (lk : Link) (p : Port) : (s.setPort lk p).bpl = s.bpl := rfl
@[simp] theorem State.setPort_mvq (lk : Link) (p : Port) : (s.setPort lk p).mvq = s.mvq := rfl
@[simp] theorem State.setPort_txe (lk : Link) (p : Port) : (s.setPort lk p).txe = s.txe := rfl
@[simp] theorem State.setPort_sbc (lk : Link) (p : Port) : (s.setPort lk p).sbc = s.sbc := rfl
@[simp] theorem State.setPort_esm (lk : Link) (p : Port) : (s.setPort lk p).esm = s.esm := rfl
@[simp] theorem State.setPort_ilu (lk : Link) (p : Port) : (s.setPort lk p).ilu = s.ilu := rfl
@[simp] theorem State.setPort_mdc (lk : Link) (p : Port) : (s.setPort lk p).mdc = s.mdc := rfl
@[simp] theorem State.setPort_ports (lk : Link) (p : Port) : (s.setPort lk p).ports = s.ports.set lk p := rfl
@[simp] theorem State.setPort_evu (lk : Link) (p : Port) : (s.setPort lk p).evu = s.evu := rfl
@[simp] theorem State.setPort_smp (lk : Link) (p : Port) : (s.setPort lk p).smp = s.smp := rfl
@[simp] theorem State.setPort_pending (lk : Link) (p : Port) : (s.setPort lk p).pending = s.pending := rfl

@[simp] theorem State.setInput_now (i : InputLine) (r : InputRec) : (s.setInput i r).now = s.now := rfl
@[simp] theorem State.setInput_free (i : InputLine) (r : InputRec) : (s.setInput i r).free = s.free := rfl
@[simp] theorem State.setInput_params (i : InputLine) (r : InputRec) : (s.setInput i r).params = s.params := rfl
@[simp] theorem State.setInput_classes (i : InputLine) (r : InputRec) : (s.setInput i r).classes = s.classes := rfl
@[simp] theorem State.setInput_conns (i : InputLine) (r : InputRec) : (s.setInput i r).conns = s.conns := rfl
@[simp] theorem State.setInput_fmu (i : InputLine) (r : InputRec) : (s.setInput i r).fmu = s.fmu := rfl
@[simp] theorem State.setInput_tbs (i : InputLine) (r : InputRec) : (s.setInput i r).tbs = s.tbs := rfl
@[simp] theorem State.setInput_bpl (i : InputLine) (r : InputRec) : (s.setInput i r).bpl = s.bpl := rfl
@[simp] theorem State.setInput_mvq (i : InputLine) (r : InputRec) : (s.setInput i r).mvq = s.mvq := rfl
@[simp] theorem State.setInput_txe (i : InputLine) (r : InputRec) : (s.setInput i r).txe = s.txe := rfl
@[simp] theorem State.setInput_sbc (i : InputLine) (r : InputRec) : (s.setInput i r).sbc = s.sbc := rfl
@[simp] theorem State.setInput_esm (i : InputLine) (r : InputRec) : (s.setInput i r).esm = s.esm := rfl
@[simp] theorem State.setInput_ilu (i : InputLine) (r : InputRec) :
    (s.setInput i r).ilu = { s.ilu with inputs := withInput s.ilu.inputs i r } := rfl
@[simp] theorem State.setInput_mdc (i : InputLine) (r : InputRec) : (s.setInput i r).mdc = s.mdc := rfl
@[simp] theorem State.setInput_ports (i : InputLine) (r : InputRec) : (s.setInput i r).ports = s.ports := rfl
@[simp] theorem State.setInput_evu (i : InputLine) (r : InputRec) : (s.setInput i r).evu = s.evu := rfl
@[simp] theorem State.setInput_smp (i : InputLine) (r : InputRec) : (s.setInput i r).smp = s.smp := rfl
@[simp] theorem State.setInput_pending (i : InputLine) (r : InputRec) : (s.setInput i r).pending = s.pending := rfl

@[simp] theorem State.setMode_now (m : Mode) : (s.setMode m).now = s.now := rfl
@[simp] theorem State.setMode_free (m : Mode) : (s.setMode m).free = s.free := rfl
@[simp] theorem State.setMode_params (m : Mode) : (s.setMode m).params = s.params := rfl
@[simp] theorem State.setMode_classes (m : Mode) : (s.setMode m).classes = s.classes := rfl
@[simp] theorem State.setMode_conns (m : Mode) : (s.setMode m).conns = s.conns := rfl
@[simp] theorem State.setMode_fmu (m : Mode) : (s.setMode m).fmu = s.fmu := rfl
@[simp] theorem State.setMode_tbs (m : Mode) : (s.setMode m).tbs = s.tbs := rfl
@[simp] theorem State.setMode_bpl (m : Mode) : (s.setMode m).bpl = s.bpl := rfl
@[simp] theorem State.setMode_mvq (m : Mode) : (s.setMode m).mvq = s.mvq := rfl
@[simp] theorem State.setMode_txe (m : Mode) : (s.setMode m).txe = s.txe := rfl
@[simp] theorem State.setMode_sbc (m : Mode) : (s.setMode m).sbc = s.sbc := rfl
@[simp] theorem State.setMode_esm (m : Mode) : (s.setMode m).esm = s.esm := rfl
@[simp] theorem State.setMode_ilu (m : Mode) : (s.setMode m).ilu = s.ilu := rfl
@[simp] theorem State.setMode_mdc (m : Mode) : (s.setMode m).mdc = { s.mdc with mode := m } := rfl
@[simp] theorem State.setMode_ports (m : Mode) : (s.setMode m).ports = s.ports := rfl
@[simp] theorem State.setMode_evu (m : Mode) : (s.setMode m).evu = s.evu := rfl
@[simp] theorem State.setMode_smp (m : Mode) : (s.setMode m).smp = s.smp := rfl
@[simp] theorem State.setMode_pending (m : Mode) : (s.setMode m).pending = s.pending := rfl

@[simp] theorem State.atInstant_now (t : Nat) : (s.atInstant t).now = max s.now t := rfl
@[simp] theorem State.atInstant_free (t : Nat) : (s.atInstant t).free = s.free := rfl
@[simp] theorem State.atInstant_params (t : Nat) : (s.atInstant t).params = s.params := rfl
@[simp] theorem State.atInstant_classes (t : Nat) : (s.atInstant t).classes = s.classes := rfl
@[simp] theorem State.atInstant_conns (t : Nat) : (s.atInstant t).conns = s.conns := rfl
@[simp] theorem State.atInstant_fmu (t : Nat) : (s.atInstant t).fmu = s.fmu := rfl
@[simp] theorem State.atInstant_tbs (t : Nat) : (s.atInstant t).tbs = s.tbs := rfl
@[simp] theorem State.atInstant_bpl (t : Nat) : (s.atInstant t).bpl = s.bpl := rfl
@[simp] theorem State.atInstant_mvq (t : Nat) : (s.atInstant t).mvq = s.mvq := rfl
@[simp] theorem State.atInstant_txe (t : Nat) : (s.atInstant t).txe = s.txe := rfl
@[simp] theorem State.atInstant_sbc (t : Nat) : (s.atInstant t).sbc = s.sbc := rfl
@[simp] theorem State.atInstant_esm (t : Nat) : (s.atInstant t).esm = s.esm := rfl
@[simp] theorem State.atInstant_ilu (t : Nat) : (s.atInstant t).ilu = s.ilu := rfl
@[simp] theorem State.atInstant_mdc (t : Nat) : (s.atInstant t).mdc = s.mdc := rfl
@[simp] theorem State.atInstant_ports (t : Nat) : (s.atInstant t).ports = s.ports := rfl
@[simp] theorem State.atInstant_evu (t : Nat) : (s.atInstant t).evu = s.evu := rfl
@[simp] theorem State.atInstant_smp (t : Nat) : (s.atInstant t).smp = s.smp := rfl
@[simp] theorem State.atInstant_pending (t : Nat) : (s.atInstant t).pending = s.pending := rfl

@[simp] theorem State.raise_now (e : EventKind) : (s.raise e).now = s.now := rfl
@[simp] theorem State.raise_free (e : EventKind) : (s.raise e).free = s.free := rfl
@[simp] theorem State.raise_params (e : EventKind) : (s.raise e).params = s.params := rfl
@[simp] theorem State.raise_classes (e : EventKind) : (s.raise e).classes = s.classes := rfl
@[simp] theorem State.raise_conns (e : EventKind) : (s.raise e).conns = s.conns := rfl
@[simp] theorem State.raise_fmu (e : EventKind) : (s.raise e).fmu = s.fmu := rfl
@[simp] theorem State.raise_tbs (e : EventKind) : (s.raise e).tbs = s.tbs := rfl
@[simp] theorem State.raise_bpl (e : EventKind) : (s.raise e).bpl = s.bpl := rfl
@[simp] theorem State.raise_mvq (e : EventKind) : (s.raise e).mvq = s.mvq := rfl
@[simp] theorem State.raise_txe (e : EventKind) : (s.raise e).txe = s.txe := rfl
@[simp] theorem State.raise_sbc (e : EventKind) : (s.raise e).sbc = s.sbc := rfl
@[simp] theorem State.raise_esm (e : EventKind) : (s.raise e).esm = s.esm := rfl
@[simp] theorem State.raise_ilu (e : EventKind) : (s.raise e).ilu = s.ilu := rfl
@[simp] theorem State.raise_mdc (e : EventKind) : (s.raise e).mdc = s.mdc := rfl
@[simp] theorem State.raise_ports (e : EventKind) : (s.raise e).ports = s.ports := rfl
@[simp] theorem State.raise_evu (e : EventKind) :
    (s.raise e).evu = { s.evu with statuses := s.evu.statuses ||| e.mask } := rfl
@[simp] theorem State.raise_smp (e : EventKind) : (s.raise e).smp = s.smp := rfl
@[simp] theorem State.raise_pending (e : EventKind) : (s.raise e).pending = s.pending := rfl

@[simp] theorem State.disturb_now : (s.disturb).now = s.now := rfl
@[simp] theorem State.disturb_free : (s.disturb).free = s.free := rfl
@[simp] theorem State.disturb_params : (s.disturb).params = s.params := rfl
@[simp] theorem State.disturb_classes : (s.disturb).classes = s.classes := rfl
@[simp] theorem State.disturb_conns : (s.disturb).conns = s.conns := rfl
@[simp] theorem State.disturb_fmu : (s.disturb).fmu = { s.fmu with disturbed := true } := rfl
@[simp] theorem State.disturb_tbs : (s.disturb).tbs = s.tbs := rfl
@[simp] theorem State.disturb_bpl : (s.disturb).bpl = s.bpl := rfl
@[simp] theorem State.disturb_mvq : (s.disturb).mvq = s.mvq := rfl
@[simp] theorem State.disturb_txe : (s.disturb).txe = s.txe := rfl
@[simp] theorem State.disturb_sbc : (s.disturb).sbc = s.sbc := rfl
@[simp] theorem State.disturb_esm : (s.disturb).esm = s.esm := rfl
@[simp] theorem State.disturb_ilu : (s.disturb).ilu = s.ilu := rfl
@[simp] theorem State.disturb_mdc : (s.disturb).mdc = s.mdc := rfl
@[simp] theorem State.disturb_ports : (s.disturb).ports = s.ports := rfl
@[simp] theorem State.disturb_evu : (s.disturb).evu = s.evu := rfl
@[simp] theorem State.disturb_smp : (s.disturb).smp = s.smp := rfl
@[simp] theorem State.disturb_pending : (s.disturb).pending = s.pending := rfl

@[simp] theorem State.setQueue_now (q : List MoveRec) : (s.setQueue q).now = s.now := rfl
@[simp] theorem State.setQueue_free (q : List MoveRec) : (s.setQueue q).free = s.free := rfl
@[simp] theorem State.setQueue_params (q : List MoveRec) : (s.setQueue q).params = s.params := rfl
@[simp] theorem State.setQueue_classes (q : List MoveRec) : (s.setQueue q).classes = s.classes := rfl
@[simp] theorem State.setQueue_conns (q : List MoveRec) : (s.setQueue q).conns = s.conns := rfl
@[simp] theorem State.setQueue_fmu (q : List MoveRec) : (s.setQueue q).fmu = s.fmu := rfl
@[simp] theorem State.setQueue_tbs (q : List MoveRec) : (s.setQueue q).tbs = s.tbs := rfl
@[simp] theorem State.setQueue_bpl (q : List MoveRec) : (s.setQueue q).bpl = s.bpl := rfl
@[simp] theorem State.setQueue_mvq (q : List MoveRec) : (s.setQueue q).mvq = { s.mvq with queue := q } := rfl
@[simp] theorem State.setQueue_txe (q : List MoveRec) : (s.setQueue q).txe = s.txe := rfl
@[simp] theorem State.setQueue_sbc (q : List MoveRec) : (s.setQueue q).sbc = s.sbc := rfl
@[simp] theorem State.setQueue_esm (q : List MoveRec) : (s.setQueue q).esm = s.esm := rfl
@[simp] theorem State.setQueue_ilu (q : List MoveRec) : (s.setQueue q).ilu = s.ilu := rfl
@[simp] theorem State.setQueue_mdc (q : List MoveRec) : (s.setQueue q).mdc = s.mdc := rfl
@[simp] theorem State.setQueue_ports (q : List MoveRec) : (s.setQueue q).ports = s.ports := rfl
@[simp] theorem State.setQueue_evu (q : List MoveRec) : (s.setQueue q).evu = s.evu := rfl
@[simp] theorem State.setQueue_smp (q : List MoveRec) : (s.setQueue q).smp = s.smp := rfl
@[simp] theorem State.setQueue_pending (q : List MoveRec) : (s.setQueue q).pending = s.pending := rfl

@[simp] theorem State.setStore_now (x : StoreState) : (s.setStore x).now = s.now := rfl
@[simp] theorem State.setStore_free (x : StoreState) : (s.setStore x).free = s.free := rfl
@[simp] theorem State.setStore_params (x : StoreState) : (s.setStore x).params = s.params := rfl
@[simp] theorem State.setStore_classes (x : StoreState) : (s.setStore x).classes = s.classes := rfl
@[simp] theorem State.setStore_conns (x : StoreState) : (s.setStore x).conns = s.conns := rfl
@[simp] theorem State.setStore_fmu (x : StoreState) : (s.setStore x).fmu = s.fmu := rfl
@[simp] theorem State.setStore_tbs (x : StoreState) : (s.setStore x).tbs = s.tbs := rfl
@[simp] theorem State.setStore_bpl (x : StoreState) : (s.setStore x).bpl = s.bpl := rfl
@[simp] theorem State.setStore_mvq (x : StoreState) : (s.setStore x).mvq = s.mvq := rfl
@[simp] theorem State.setStore_txe (x : StoreState) : (s.setStore x).txe = s.txe := rfl
@[simp] theorem State.setStore_sbc (x : StoreState) : (s.setStore x).sbc = s.sbc := rfl
@[simp] theorem State.setStore_esm (x : StoreState) : (s.setStore x).esm = { s.esm with store := x } := rfl
@[simp] theorem State.setStore_ilu (x : StoreState) : (s.setStore x).ilu = s.ilu := rfl
@[simp] theorem State.setStore_mdc (x : StoreState) : (s.setStore x).mdc = s.mdc := rfl
@[simp] theorem State.setStore_ports (x : StoreState) : (s.setStore x).ports = s.ports := rfl
@[simp] theorem State.setStore_evu (x : StoreState) : (s.setStore x).evu = s.evu := rfl
@[simp] theorem State.setStore_smp (x : StoreState) : (s.setStore x).smp = s.smp := rfl
@[simp] theorem State.setStore_pending (x : StoreState) : (s.setStore x).pending = s.pending := rfl

@[simp] theorem State.setSupply_now (x : SupplyState) : (s.setSupply x).now = s.now := rfl
@[simp] theorem State.setSupply_free (x : SupplyState) : (s.setSupply x).free = s.free := rfl
@[simp] theorem State.setSupply_params (x : SupplyState) : (s.setSupply x).params = s.params := rfl
@[simp] theorem State.setSupply_classes (x : SupplyState) : (s.setSupply x).classes = s.classes := rfl
@[simp] theorem State.setSupply_conns (x : SupplyState) : (s.setSupply x).conns = s.conns := rfl
@[simp] theorem State.setSupply_fmu (x : SupplyState) : (s.setSupply x).fmu = s.fmu := rfl
@[simp] theorem State.setSupply_tbs (x : SupplyState) : (s.setSupply x).tbs = s.tbs := rfl
@[simp] theorem State.setSupply_bpl (x : SupplyState) : (s.setSupply x).bpl = s.bpl := rfl
@[simp] theorem State.setSupply_mvq (x : SupplyState) : (s.setSupply x).mvq = s.mvq := rfl
@[simp] theorem State.setSupply_txe (x : SupplyState) : (s.setSupply x).txe = s.txe := rfl
@[simp] theorem State.setSupply_sbc (x : SupplyState) : (s.setSupply x).sbc = s.sbc := rfl
@[simp] theorem State.setSupply_esm (x : SupplyState) : (s.setSupply x).esm = s.esm := rfl
@[simp] theorem State.setSupply_ilu (x : SupplyState) : (s.setSupply x).ilu = { s.ilu with supply := x } := rfl
@[simp] theorem State.setSupply_mdc (x : SupplyState) : (s.setSupply x).mdc = s.mdc := rfl
@[simp] theorem State.setSupply_ports (x : SupplyState) : (s.setSupply x).ports = s.ports := rfl
@[simp] theorem State.setSupply_evu (x : SupplyState) : (s.setSupply x).evu = s.evu := rfl
@[simp] theorem State.setSupply_smp (x : SupplyState) : (s.setSupply x).smp = s.smp := rfl
@[simp] theorem State.setSupply_pending (x : SupplyState) : (s.setSupply x).pending = s.pending := rfl

@[simp] theorem State.setTxn_now (t : Option Transaction) : (s.setTxn t).now = s.now := rfl
@[simp] theorem State.setTxn_free (t : Option Transaction) : (s.setTxn t).free = s.free := rfl
@[simp] theorem State.setTxn_params (t : Option Transaction) : (s.setTxn t).params = s.params := rfl
@[simp] theorem State.setTxn_classes (t : Option Transaction) : (s.setTxn t).classes = s.classes := rfl
@[simp] theorem State.setTxn_conns (t : Option Transaction) : (s.setTxn t).conns = s.conns := rfl
@[simp] theorem State.setTxn_fmu (t : Option Transaction) : (s.setTxn t).fmu = s.fmu := rfl
@[simp] theorem State.setTxn_tbs (t : Option Transaction) : (s.setTxn t).tbs = s.tbs := rfl
@[simp] theorem State.setTxn_bpl (t : Option Transaction) : (s.setTxn t).bpl = s.bpl := rfl
@[simp] theorem State.setTxn_mvq (t : Option Transaction) : (s.setTxn t).mvq = s.mvq := rfl
@[simp] theorem State.setTxn_txe (t : Option Transaction) : (s.setTxn t).txe = s.txe := rfl
@[simp] theorem State.setTxn_sbc (t : Option Transaction) : (s.setTxn t).sbc = { s.sbc with txn := t } := rfl
@[simp] theorem State.setTxn_esm (t : Option Transaction) : (s.setTxn t).esm = s.esm := rfl
@[simp] theorem State.setTxn_ilu (t : Option Transaction) : (s.setTxn t).ilu = s.ilu := rfl
@[simp] theorem State.setTxn_mdc (t : Option Transaction) : (s.setTxn t).mdc = s.mdc := rfl
@[simp] theorem State.setTxn_ports (t : Option Transaction) : (s.setTxn t).ports = s.ports := rfl
@[simp] theorem State.setTxn_evu (t : Option Transaction) : (s.setTxn t).evu = s.evu := rfl
@[simp] theorem State.setTxn_smp (t : Option Transaction) : (s.setTxn t).smp = s.smp := rfl
@[simp] theorem State.setTxn_pending (t : Option Transaction) : (s.setTxn t).pending = s.pending := rfl

@[simp] theorem State.setNeutral_now (n : Neutral) : (s.setNeutral n).now = s.now := rfl
@[simp] theorem State.setNeutral_free (n : Neutral) : (s.setNeutral n).free = s.free := rfl
@[simp] theorem State.setNeutral_params (n : Neutral) : (s.setNeutral n).params = s.params := rfl
@[simp] theorem State.setNeutral_classes (n : Neutral) : (s.setNeutral n).classes = s.classes := rfl
@[simp] theorem State.setNeutral_conns (n : Neutral) : (s.setNeutral n).conns = s.conns := rfl
@[simp] theorem State.setNeutral_fmu (n : Neutral) : (s.setNeutral n).fmu = { s.fmu with neutral := n } := rfl
@[simp] theorem State.setNeutral_tbs (n : Neutral) : (s.setNeutral n).tbs = s.tbs := rfl
@[simp] theorem State.setNeutral_bpl (n : Neutral) : (s.setNeutral n).bpl = s.bpl := rfl
@[simp] theorem State.setNeutral_mvq (n : Neutral) : (s.setNeutral n).mvq = s.mvq := rfl
@[simp] theorem State.setNeutral_txe (n : Neutral) : (s.setNeutral n).txe = s.txe := rfl
@[simp] theorem State.setNeutral_sbc (n : Neutral) : (s.setNeutral n).sbc = s.sbc := rfl
@[simp] theorem State.setNeutral_esm (n : Neutral) : (s.setNeutral n).esm = s.esm := rfl
@[simp] theorem State.setNeutral_ilu (n : Neutral) : (s.setNeutral n).ilu = s.ilu := rfl
@[simp] theorem State.setNeutral_mdc (n : Neutral) : (s.setNeutral n).mdc = s.mdc := rfl
@[simp] theorem State.setNeutral_ports (n : Neutral) : (s.setNeutral n).ports = s.ports := rfl
@[simp] theorem State.setNeutral_evu (n : Neutral) : (s.setNeutral n).evu = s.evu := rfl
@[simp] theorem State.setNeutral_smp (n : Neutral) : (s.setNeutral n).smp = s.smp := rfl
@[simp] theorem State.setNeutral_pending (n : Neutral) : (s.setNeutral n).pending = s.pending := rfl

@[simp] theorem State.setParams_now (p : Params) : (s.setParams p).now = s.now := rfl
@[simp] theorem State.setParams_free (p : Params) : (s.setParams p).free = s.free := rfl
@[simp] theorem State.setParams_params (p : Params) : (s.setParams p).params = p := rfl
@[simp] theorem State.setParams_classes (p : Params) : (s.setParams p).classes = s.classes := rfl
@[simp] theorem State.setParams_conns (p : Params) : (s.setParams p).conns = s.conns := rfl
@[simp] theorem State.setParams_fmu (p : Params) : (s.setParams p).fmu = s.fmu := rfl
@[simp] theorem State.setParams_tbs (p : Params) : (s.setParams p).tbs = s.tbs := rfl
@[simp] theorem State.setParams_bpl (p : Params) : (s.setParams p).bpl = s.bpl := rfl
@[simp] theorem State.setParams_mvq (p : Params) : (s.setParams p).mvq = s.mvq := rfl
@[simp] theorem State.setParams_txe (p : Params) : (s.setParams p).txe = s.txe := rfl
@[simp] theorem State.setParams_sbc (p : Params) : (s.setParams p).sbc = s.sbc := rfl
@[simp] theorem State.setParams_esm (p : Params) : (s.setParams p).esm = s.esm := rfl
@[simp] theorem State.setParams_ilu (p : Params) : (s.setParams p).ilu = s.ilu := rfl
@[simp] theorem State.setParams_mdc (p : Params) : (s.setParams p).mdc = s.mdc := rfl
@[simp] theorem State.setParams_ports (p : Params) : (s.setParams p).ports = s.ports := rfl
@[simp] theorem State.setParams_evu (p : Params) : (s.setParams p).evu = s.evu := rfl
@[simp] theorem State.setParams_smp (p : Params) : (s.setParams p).smp = s.smp := rfl
@[simp] theorem State.setParams_pending (p : Params) : (s.setParams p).pending = s.pending := rfl

@[simp] theorem State.setPlan_now (p : PlanStatus) : (s.setPlan p).now = s.now := rfl
@[simp] theorem State.setPlan_free (p : PlanStatus) : (s.setPlan p).free = s.free := rfl
@[simp] theorem State.setPlan_params (p : PlanStatus) : (s.setPlan p).params = s.params := rfl
@[simp] theorem State.setPlan_classes (p : PlanStatus) : (s.setPlan p).classes = s.classes := rfl
@[simp] theorem State.setPlan_conns (p : PlanStatus) : (s.setPlan p).conns = s.conns := rfl
@[simp] theorem State.setPlan_fmu (p : PlanStatus) : (s.setPlan p).fmu = s.fmu := rfl
@[simp] theorem State.setPlan_tbs (p : PlanStatus) : (s.setPlan p).tbs = s.tbs := rfl
@[simp] theorem State.setPlan_bpl (p : PlanStatus) : (s.setPlan p).bpl = { s.bpl with plan := some p } := rfl
@[simp] theorem State.setPlan_mvq (p : PlanStatus) : (s.setPlan p).mvq = s.mvq := rfl
@[simp] theorem State.setPlan_txe (p : PlanStatus) : (s.setPlan p).txe = s.txe := rfl
@[simp] theorem State.setPlan_sbc (p : PlanStatus) : (s.setPlan p).sbc = s.sbc := rfl
@[simp] theorem State.setPlan_esm (p : PlanStatus) : (s.setPlan p).esm = s.esm := rfl
@[simp] theorem State.setPlan_ilu (p : PlanStatus) : (s.setPlan p).ilu = s.ilu := rfl
@[simp] theorem State.setPlan_mdc (p : PlanStatus) : (s.setPlan p).mdc = s.mdc := rfl
@[simp] theorem State.setPlan_ports (p : PlanStatus) : (s.setPlan p).ports = s.ports := rfl
@[simp] theorem State.setPlan_evu (p : PlanStatus) : (s.setPlan p).evu = s.evu := rfl
@[simp] theorem State.setPlan_smp (p : PlanStatus) : (s.setPlan p).smp = s.smp := rfl
@[simp] theorem State.setPlan_pending (p : PlanStatus) : (s.setPlan p).pending = s.pending := rfl

@[simp] theorem State.emptyHaltRecord_now : (s.emptyHaltRecord).now = s.now := rfl
@[simp] theorem State.emptyHaltRecord_free : (s.emptyHaltRecord).free = s.free := rfl
@[simp] theorem State.emptyHaltRecord_params : (s.emptyHaltRecord).params = s.params := rfl
@[simp] theorem State.emptyHaltRecord_classes : (s.emptyHaltRecord).classes = s.classes := rfl
@[simp] theorem State.emptyHaltRecord_conns : (s.emptyHaltRecord).conns = s.conns := rfl
@[simp] theorem State.emptyHaltRecord_fmu : (s.emptyHaltRecord).fmu = s.fmu := rfl
@[simp] theorem State.emptyHaltRecord_tbs : (s.emptyHaltRecord).tbs = s.tbs := rfl
@[simp] theorem State.emptyHaltRecord_bpl : (s.emptyHaltRecord).bpl = s.bpl := rfl
@[simp] theorem State.emptyHaltRecord_mvq : (s.emptyHaltRecord).mvq = s.mvq := rfl
@[simp] theorem State.emptyHaltRecord_txe : (s.emptyHaltRecord).txe = s.txe := rfl
@[simp] theorem State.emptyHaltRecord_sbc : (s.emptyHaltRecord).sbc = s.sbc := rfl
@[simp] theorem State.emptyHaltRecord_esm : (s.emptyHaltRecord).esm = s.esm := rfl
@[simp] theorem State.emptyHaltRecord_ilu : (s.emptyHaltRecord).ilu = { s.ilu with haltRecord := [] } := rfl
@[simp] theorem State.emptyHaltRecord_mdc : (s.emptyHaltRecord).mdc = s.mdc := rfl
@[simp] theorem State.emptyHaltRecord_ports : (s.emptyHaltRecord).ports = s.ports := rfl
@[simp] theorem State.emptyHaltRecord_evu : (s.emptyHaltRecord).evu = s.evu := rfl
@[simp] theorem State.emptyHaltRecord_smp : (s.emptyHaltRecord).smp = s.smp := rfl
@[simp] theorem State.emptyHaltRecord_pending : (s.emptyHaltRecord).pending = s.pending := rfl

@[simp] theorem State.setReceiver_now (lk : Link) (rx : Receiver) : (s.setReceiver lk rx).now = s.now := rfl
@[simp] theorem State.setReceiver_free (lk : Link) (rx : Receiver) : (s.setReceiver lk rx).free = s.free := rfl
@[simp] theorem State.setReceiver_params (lk : Link) (rx : Receiver) : (s.setReceiver lk rx).params = s.params := rfl
@[simp] theorem State.setReceiver_classes (lk : Link) (rx : Receiver) : (s.setReceiver lk rx).classes = s.classes := rfl
@[simp] theorem State.setReceiver_conns (lk : Link) (rx : Receiver) : (s.setReceiver lk rx).conns = s.conns := rfl
@[simp] theorem State.setReceiver_fmu (lk : Link) (rx : Receiver) : (s.setReceiver lk rx).fmu = s.fmu := rfl
@[simp] theorem State.setReceiver_tbs (lk : Link) (rx : Receiver) : (s.setReceiver lk rx).tbs = s.tbs := rfl
@[simp] theorem State.setReceiver_bpl (lk : Link) (rx : Receiver) : (s.setReceiver lk rx).bpl = s.bpl := rfl
@[simp] theorem State.setReceiver_mvq (lk : Link) (rx : Receiver) : (s.setReceiver lk rx).mvq = s.mvq := rfl
@[simp] theorem State.setReceiver_txe (lk : Link) (rx : Receiver) : (s.setReceiver lk rx).txe = s.txe := rfl
@[simp] theorem State.setReceiver_sbc (lk : Link) (rx : Receiver) : (s.setReceiver lk rx).sbc = s.sbc := rfl
@[simp] theorem State.setReceiver_esm (lk : Link) (rx : Receiver) : (s.setReceiver lk rx).esm = s.esm := rfl
@[simp] theorem State.setReceiver_ilu (lk : Link) (rx : Receiver) : (s.setReceiver lk rx).ilu = s.ilu := rfl
@[simp] theorem State.setReceiver_mdc (lk : Link) (rx : Receiver) : (s.setReceiver lk rx).mdc = s.mdc := rfl
@[simp] theorem State.setReceiver_ports (lk : Link) (rx : Receiver) :
    (s.setReceiver lk rx).ports = s.ports.set lk { s.port lk with rx := rx } := rfl
@[simp] theorem State.setReceiver_evu (lk : Link) (rx : Receiver) : (s.setReceiver lk rx).evu = s.evu := rfl
@[simp] theorem State.setReceiver_smp (lk : Link) (rx : Receiver) : (s.setReceiver lk rx).smp = s.smp := rfl
@[simp] theorem State.setReceiver_pending (lk : Link) (rx : Receiver) : (s.setReceiver lk rx).pending = s.pending := rfl

@[simp] theorem State.setReply_now (lk : Link) (r : List Byte) : (s.setReply lk r).now = s.now := rfl
@[simp] theorem State.setReply_free (lk : Link) (r : List Byte) : (s.setReply lk r).free = s.free := rfl
@[simp] theorem State.setReply_params (lk : Link) (r : List Byte) : (s.setReply lk r).params = s.params := rfl
@[simp] theorem State.setReply_classes (lk : Link) (r : List Byte) : (s.setReply lk r).classes = s.classes := rfl
@[simp] theorem State.setReply_conns (lk : Link) (r : List Byte) : (s.setReply lk r).conns = s.conns := rfl
@[simp] theorem State.setReply_fmu (lk : Link) (r : List Byte) : (s.setReply lk r).fmu = s.fmu := rfl
@[simp] theorem State.setReply_tbs (lk : Link) (r : List Byte) : (s.setReply lk r).tbs = s.tbs := rfl
@[simp] theorem State.setReply_bpl (lk : Link) (r : List Byte) : (s.setReply lk r).bpl = s.bpl := rfl
@[simp] theorem State.setReply_mvq (lk : Link) (r : List Byte) : (s.setReply lk r).mvq = s.mvq := rfl
@[simp] theorem State.setReply_txe (lk : Link) (r : List Byte) : (s.setReply lk r).txe = s.txe := rfl
@[simp] theorem State.setReply_sbc (lk : Link) (r : List Byte) : (s.setReply lk r).sbc = s.sbc := rfl
@[simp] theorem State.setReply_esm (lk : Link) (r : List Byte) : (s.setReply lk r).esm = s.esm := rfl
@[simp] theorem State.setReply_ilu (lk : Link) (r : List Byte) : (s.setReply lk r).ilu = s.ilu := rfl
@[simp] theorem State.setReply_mdc (lk : Link) (r : List Byte) : (s.setReply lk r).mdc = s.mdc := rfl
@[simp] theorem State.setReply_ports (lk : Link) (r : List Byte) :
    (s.setReply lk r).ports = s.ports.set lk ((s.port lk).answered r) := rfl
@[simp] theorem State.setReply_evu (lk : Link) (r : List Byte) : (s.setReply lk r).evu = s.evu := rfl
@[simp] theorem State.setReply_smp (lk : Link) (r : List Byte) : (s.setReply lk r).smp = s.smp := rfl
@[simp] theorem State.setReply_pending (lk : Link) (r : List Byte) : (s.setReply lk r).pending = s.pending := rfl

@[simp] theorem State.clearEvents_now (x : Half) : (s.clearEvents x).now = s.now := rfl
@[simp] theorem State.clearEvents_free (x : Half) : (s.clearEvents x).free = s.free := rfl
@[simp] theorem State.clearEvents_params (x : Half) : (s.clearEvents x).params = s.params := rfl
@[simp] theorem State.clearEvents_classes (x : Half) : (s.clearEvents x).classes = s.classes := rfl
@[simp] theorem State.clearEvents_conns (x : Half) : (s.clearEvents x).conns = s.conns := rfl
@[simp] theorem State.clearEvents_fmu (x : Half) : (s.clearEvents x).fmu = s.fmu := rfl
@[simp] theorem State.clearEvents_tbs (x : Half) : (s.clearEvents x).tbs = s.tbs := rfl
@[simp] theorem State.clearEvents_bpl (x : Half) : (s.clearEvents x).bpl = s.bpl := rfl
@[simp] theorem State.clearEvents_mvq (x : Half) : (s.clearEvents x).mvq = s.mvq := rfl
@[simp] theorem State.clearEvents_txe (x : Half) : (s.clearEvents x).txe = s.txe := rfl
@[simp] theorem State.clearEvents_sbc (x : Half) : (s.clearEvents x).sbc = s.sbc := rfl
@[simp] theorem State.clearEvents_esm (x : Half) : (s.clearEvents x).esm = s.esm := rfl
@[simp] theorem State.clearEvents_ilu (x : Half) : (s.clearEvents x).ilu = s.ilu := rfl
@[simp] theorem State.clearEvents_mdc (x : Half) : (s.clearEvents x).mdc = s.mdc := rfl
@[simp] theorem State.clearEvents_ports (x : Half) : (s.clearEvents x).ports = s.ports := rfl
@[simp] theorem State.clearEvents_evu (x : Half) :
    (s.clearEvents x).evu = { s.evu with statuses := clearedStatuses s.evu.statuses x } := rfl
@[simp] theorem State.clearEvents_smp (x : Half) : (s.clearEvents x).smp = s.smp := rfl
@[simp] theorem State.clearEvents_pending (x : Half) : (s.clearEvents x).pending = s.pending := rfl

@[simp] theorem State.setClass_now (k : Fin 4) (c : TimingClass) : (s.setClass k c).now = s.now := rfl
@[simp] theorem State.setClass_free (k : Fin 4) (c : TimingClass) : (s.setClass k c).free = s.free := rfl
@[simp] theorem State.setClass_params (k : Fin 4) (c : TimingClass) : (s.setClass k c).params = s.params := rfl
@[simp] theorem State.setClass_classes (k : Fin 4) (c : TimingClass) :
    (s.setClass k c).classes = s.classes.set k c := rfl
@[simp] theorem State.setClass_conns (k : Fin 4) (c : TimingClass) : (s.setClass k c).conns = s.conns := rfl
@[simp] theorem State.setClass_fmu (k : Fin 4) (c : TimingClass) : (s.setClass k c).fmu = s.fmu := rfl
@[simp] theorem State.setClass_tbs (k : Fin 4) (c : TimingClass) : (s.setClass k c).tbs = s.tbs := rfl
@[simp] theorem State.setClass_bpl (k : Fin 4) (c : TimingClass) : (s.setClass k c).bpl = s.bpl := rfl
@[simp] theorem State.setClass_mvq (k : Fin 4) (c : TimingClass) : (s.setClass k c).mvq = s.mvq := rfl
@[simp] theorem State.setClass_txe (k : Fin 4) (c : TimingClass) : (s.setClass k c).txe = s.txe := rfl
@[simp] theorem State.setClass_sbc (k : Fin 4) (c : TimingClass) : (s.setClass k c).sbc = s.sbc := rfl
@[simp] theorem State.setClass_esm (k : Fin 4) (c : TimingClass) : (s.setClass k c).esm = s.esm := rfl
@[simp] theorem State.setClass_ilu (k : Fin 4) (c : TimingClass) : (s.setClass k c).ilu = s.ilu := rfl
@[simp] theorem State.setClass_mdc (k : Fin 4) (c : TimingClass) : (s.setClass k c).mdc = s.mdc := rfl
@[simp] theorem State.setClass_ports (k : Fin 4) (c : TimingClass) : (s.setClass k c).ports = s.ports := rfl
@[simp] theorem State.setClass_evu (k : Fin 4) (c : TimingClass) : (s.setClass k c).evu = s.evu := rfl
@[simp] theorem State.setClass_smp (k : Fin 4) (c : TimingClass) : (s.setClass k c).smp = s.smp := rfl
@[simp] theorem State.setClass_pending (k : Fin 4) (c : TimingClass) : (s.setClass k c).pending = s.pending := rfl

@[simp] theorem State.deselect_now : (s.deselect).now = s.now := rfl
@[simp] theorem State.deselect_free : (s.deselect).free = s.free := rfl
@[simp] theorem State.deselect_params : (s.deselect).params = s.params := rfl
@[simp] theorem State.deselect_classes : (s.deselect).classes = s.classes := rfl
@[simp] theorem State.deselect_conns : (s.deselect).conns = s.conns := rfl
@[simp] theorem State.deselect_fmu : (s.deselect).fmu = s.fmu := rfl
@[simp] theorem State.deselect_tbs : (s.deselect).tbs = s.tbs := rfl
@[simp] theorem State.deselect_bpl : (s.deselect).bpl = s.bpl := rfl
@[simp] theorem State.deselect_mvq : (s.deselect).mvq = s.mvq := rfl
@[simp] theorem State.deselect_txe : (s.deselect).txe = s.txe := rfl
@[simp] theorem State.deselect_sbc : (s.deselect).sbc = s.sbc := rfl
@[simp] theorem State.deselect_esm : (s.deselect).esm = s.esm := rfl
@[simp] theorem State.deselect_ilu : (s.deselect).ilu = s.ilu := rfl
@[simp] theorem State.deselect_mdc : (s.deselect).mdc = s.mdc := rfl
@[simp] theorem State.deselect_ports : (s.deselect).ports = s.ports := rfl
@[simp] theorem State.deselect_evu : (s.deselect).evu = s.evu := rfl
@[simp] theorem State.deselect_smp : (s.deselect).smp = { s.smp with selectLow := false } := rfl
@[simp] theorem State.deselect_pending : (s.deselect).pending = s.pending := rfl

@[simp] theorem State.judgeOutputs_now : (s.judgeOutputs).now = s.now := rfl
@[simp] theorem State.judgeOutputs_free : (s.judgeOutputs).free = s.free := rfl
@[simp] theorem State.judgeOutputs_params : (s.judgeOutputs).params = s.params := rfl
@[simp] theorem State.judgeOutputs_classes : (s.judgeOutputs).classes = s.classes := rfl
@[simp] theorem State.judgeOutputs_conns : (s.judgeOutputs).conns = s.conns := rfl
@[simp] theorem State.judgeOutputs_fmu : (s.judgeOutputs).fmu = s.fmu := rfl
@[simp] theorem State.judgeOutputs_tbs : (s.judgeOutputs).tbs = s.tbs := rfl
@[simp] theorem State.judgeOutputs_bpl : (s.judgeOutputs).bpl = s.bpl := rfl
@[simp] theorem State.judgeOutputs_mvq : (s.judgeOutputs).mvq = s.mvq := rfl
@[simp] theorem State.judgeOutputs_txe : (s.judgeOutputs).txe = s.txe := rfl
@[simp] theorem State.judgeOutputs_sbc : (s.judgeOutputs).sbc = s.sbc := rfl
@[simp] theorem State.judgeOutputs_esm : (s.judgeOutputs).esm = s.esm := rfl
@[simp] theorem State.judgeOutputs_ilu : (s.judgeOutputs).ilu = s.ilu := rfl
@[simp] theorem State.judgeOutputs_mdc : (s.judgeOutputs).mdc = s.mdc := rfl
@[simp] theorem State.judgeOutputs_ports : (s.judgeOutputs).ports = s.ports := rfl
@[simp] theorem State.judgeOutputs_smp : (s.judgeOutputs).smp = s.smp := rfl
@[simp] theorem State.judgeOutputs_pending : (s.judgeOutputs).pending = s.pending := rfl

@[simp] theorem State.renewSummary_now : (s.renewSummary).now = s.now := rfl
@[simp] theorem State.renewSummary_free : (s.renewSummary).free = s.free := rfl
@[simp] theorem State.renewSummary_params : (s.renewSummary).params = s.params := rfl
@[simp] theorem State.renewSummary_classes : (s.renewSummary).classes = s.classes := rfl
@[simp] theorem State.renewSummary_conns : (s.renewSummary).conns = s.conns := rfl
@[simp] theorem State.renewSummary_fmu : (s.renewSummary).fmu = s.fmu := rfl
@[simp] theorem State.renewSummary_tbs : (s.renewSummary).tbs = s.tbs := rfl
@[simp] theorem State.renewSummary_bpl : (s.renewSummary).bpl = s.bpl := rfl
@[simp] theorem State.renewSummary_mvq : (s.renewSummary).mvq = s.mvq := rfl
@[simp] theorem State.renewSummary_txe : (s.renewSummary).txe = s.txe := rfl
@[simp] theorem State.renewSummary_sbc : (s.renewSummary).sbc = s.sbc := rfl
@[simp] theorem State.renewSummary_esm : (s.renewSummary).esm = s.esm := rfl
@[simp] theorem State.renewSummary_ilu : (s.renewSummary).ilu = s.ilu := rfl
@[simp] theorem State.renewSummary_mdc : (s.renewSummary).mdc = s.mdc := rfl
@[simp] theorem State.renewSummary_ports : (s.renewSummary).ports = s.ports := rfl
@[simp] theorem State.renewSummary_evu : (s.renewSummary).evu = s.evu := rfl
@[simp] theorem State.renewSummary_smp :
    (s.renewSummary).smp = { s.smp with published := renewed s.smp.published s.figures } := rfl
@[simp] theorem State.renewSummary_pending : (s.renewSummary).pending = s.pending := rfl

@[simp] theorem State.settle_now : s.settle.now = s.now := rfl
@[simp] theorem State.settle_free : s.settle.free = s.free := rfl
@[simp] theorem State.settle_params : s.settle.params = s.params := rfl
@[simp] theorem State.settle_classes : s.settle.classes = s.classes := rfl
@[simp] theorem State.settle_conns : s.settle.conns = s.conns := rfl
@[simp] theorem State.settle_fmu : s.settle.fmu = s.fmu := rfl
@[simp] theorem State.settle_tbs : s.settle.tbs = s.tbs := rfl
@[simp] theorem State.settle_bpl : s.settle.bpl = s.bpl := rfl
@[simp] theorem State.settle_mvq : s.settle.mvq = s.mvq := rfl
@[simp] theorem State.settle_txe : s.settle.txe = s.txe := rfl
@[simp] theorem State.settle_sbc : s.settle.sbc = s.sbc := rfl
@[simp] theorem State.settle_esm : s.settle.esm = s.esm := rfl
@[simp] theorem State.settle_ilu : s.settle.ilu = s.ilu := rfl
@[simp] theorem State.settle_mdc : s.settle.mdc = s.mdc := rfl
@[simp] theorem State.settle_ports : s.settle.ports = s.ports := rfl
@[simp] theorem State.settle_pending : s.settle.pending = s.pending := rfl

end Sys2Proof.Machine
end

