-- ==== Sys2Proof/Laws/Frames.lean ====
section
/-! SUPPORT. What the shared operations leave unchanged: one lemma for each operation, all its unchanged fields in one
conjunction, so that simp rewrites with it. -/

namespace Sys2Proof.Machine

open Sys2Proof

/-- A fold keeps what each of its steps keeps. -/
theorem foldl_keeps {α β : Type} (f : State → α → State) (g : State → β) (h : ∀ s a, g (f s a) = g s) (l : List α)
    (s : State) : g (l.foldl f s) = g s := by
  induction l generalizing s with
  | nil => rfl
  | cons a l ih => rw [List.foldl_cons, ih, h]

variable (s : State)

@[simp] theorem State.setChatterHold_frame (n : ConnId) :
    (s.setChatterHold n).now = s.now ∧ (s.setChatterHold n).free = s.free ∧ (s.setChatterHold n).params = s.params ∧
    (s.setChatterHold n).classes = s.classes ∧ (s.setChatterHold n).fmu = s.fmu ∧ (s.setChatterHold n).tbs = s.tbs ∧
    (s.setChatterHold n).bpl = s.bpl ∧ (s.setChatterHold n).mvq = s.mvq ∧ (s.setChatterHold n).txe = s.txe ∧
    (s.setChatterHold n).sbc = s.sbc ∧ (s.setChatterHold n).esm = s.esm ∧ (s.setChatterHold n).ilu = s.ilu ∧
    (s.setChatterHold n).mdc = s.mdc ∧ (s.setChatterHold n).ports = s.ports ∧ (s.setChatterHold n).smp = s.smp ∧
    (s.setChatterHold n).pending = s.pending := by
  simp [State.setChatterHold]

@[simp] theorem State.chatterAfterReply_frame (n : ConnId) :
    (s.chatterAfterReply n).now = s.now ∧ (s.chatterAfterReply n).free = s.free ∧
    (s.chatterAfterReply n).params = s.params ∧ (s.chatterAfterReply n).classes = s.classes ∧
    (s.chatterAfterReply n).fmu = s.fmu ∧ (s.chatterAfterReply n).tbs = s.tbs ∧ (s.chatterAfterReply n).bpl = s.bpl ∧
    (s.chatterAfterReply n).mvq = s.mvq ∧ (s.chatterAfterReply n).txe = s.txe ∧ (s.chatterAfterReply n).sbc = s.sbc ∧
    (s.chatterAfterReply n).esm = s.esm ∧ (s.chatterAfterReply n).ilu = s.ilu ∧ (s.chatterAfterReply n).mdc = s.mdc ∧
    (s.chatterAfterReply n).ports = s.ports ∧ (s.chatterAfterReply n).smp = s.smp ∧
    (s.chatterAfterReply n).pending = s.pending := by
  unfold State.chatterAfterReply; try dsimp only
  (repeat' split) <;> simp

@[simp] theorem State.deferredChatter_frame (n : ConnId) :
    (s.deferredChatter n).now = s.now ∧ (s.deferredChatter n).free = s.free ∧
    (s.deferredChatter n).params = s.params ∧ (s.deferredChatter n).classes = s.classes ∧
    (s.deferredChatter n).fmu = s.fmu ∧ (s.deferredChatter n).tbs = s.tbs ∧ (s.deferredChatter n).bpl = s.bpl ∧
    (s.deferredChatter n).mvq = s.mvq ∧ (s.deferredChatter n).txe = s.txe ∧ (s.deferredChatter n).sbc = s.sbc ∧
    (s.deferredChatter n).esm = s.esm ∧ (s.deferredChatter n).ilu = s.ilu ∧ (s.deferredChatter n).mdc = s.mdc ∧
    (s.deferredChatter n).ports = s.ports ∧ (s.deferredChatter n).smp = s.smp ∧
    (s.deferredChatter n).pending = s.pending := by
  unfold State.deferredChatter; try dsimp only
  (repeat' split) <;> simp

@[simp] theorem State.uncommanded_frame (n : ConnId) (d : Nat) :
    (s.uncommanded n d).now = s.now ∧ (s.uncommanded n d).free = s.free ∧ (s.uncommanded n d).params = s.params ∧
    (s.uncommanded n d).classes = s.classes ∧ (s.uncommanded n d).tbs = s.tbs ∧ (s.uncommanded n d).bpl = s.bpl ∧
    (s.uncommanded n d).mvq = s.mvq ∧ (s.uncommanded n d).txe = s.txe ∧ (s.uncommanded n d).sbc = s.sbc ∧
    (s.uncommanded n d).esm = s.esm ∧ (s.uncommanded n d).ilu = s.ilu ∧ (s.uncommanded n d).mdc = s.mdc ∧
    (s.uncommanded n d).ports = s.ports ∧ (s.uncommanded n d).smp = s.smp ∧
    (s.uncommanded n d).pending = s.pending := by
  simp [State.uncommanded]

@[simp] theorem State.applyReply_frame (n : ConnId) (r : StatusReport) :
    (s.applyReply n r).now = s.now ∧ (s.applyReply n r).free = s.free ∧ (s.applyReply n r).params = s.params ∧
    (s.applyReply n r).classes = s.classes ∧ (s.applyReply n r).tbs = s.tbs ∧ (s.applyReply n r).bpl = s.bpl ∧
    (s.applyReply n r).mvq = s.mvq ∧ (s.applyReply n r).txe = s.txe ∧ (s.applyReply n r).sbc = s.sbc ∧
    (s.applyReply n r).esm = s.esm ∧ (s.applyReply n r).ilu = s.ilu ∧ (s.applyReply n r).mdc = s.mdc ∧
    (s.applyReply n r).ports = s.ports ∧ (s.applyReply n r).smp = s.smp ∧ (s.applyReply n r).pending = s.pending := by
  unfold State.applyReply; try dsimp only
  (repeat' split) <;> simp

@[simp] theorem State.ctbOutcome_frame (n : ConnId) (b i : Confirmed) (o : ActOutcome) :
    (s.ctbOutcome n b i o).now = s.now ∧ (s.ctbOutcome n b i o).free = s.free ∧
    (s.ctbOutcome n b i o).params = s.params ∧ (s.ctbOutcome n b i o).classes = s.classes ∧
    (s.ctbOutcome n b i o).fmu = s.fmu ∧ (s.ctbOutcome n b i o).tbs = s.tbs ∧ (s.ctbOutcome n b i o).bpl = s.bpl ∧
    (s.ctbOutcome n b i o).mvq = s.mvq ∧ (s.ctbOutcome n b i o).txe = s.txe ∧ (s.ctbOutcome n b i o).sbc = s.sbc ∧
    (s.ctbOutcome n b i o).esm = s.esm ∧ (s.ctbOutcome n b i o).ilu = s.ilu ∧ (s.ctbOutcome n b i o).mdc = s.mdc ∧
    (s.ctbOutcome n b i o).ports = s.ports ∧ (s.ctbOutcome n b i o).evu = s.evu ∧
    (s.ctbOutcome n b i o).smp = s.smp ∧ (s.ctbOutcome n b i o).pending = s.pending := by
  cases o <;> simp [State.ctbOutcome]

@[simp] theorem State.pollMissed_frame (n : ConnId) :
    (s.pollMissed n).now = s.now ∧ (s.pollMissed n).free = s.free ∧ (s.pollMissed n).params = s.params ∧
    (s.pollMissed n).classes = s.classes ∧ (s.pollMissed n).fmu = s.fmu ∧ (s.pollMissed n).tbs = s.tbs ∧
    (s.pollMissed n).bpl = s.bpl ∧ (s.pollMissed n).mvq = s.mvq ∧ (s.pollMissed n).txe = s.txe ∧
    (s.pollMissed n).esm = s.esm ∧ (s.pollMissed n).ilu = s.ilu ∧ (s.pollMissed n).mdc = s.mdc ∧
    (s.pollMissed n).ports = s.ports ∧ (s.pollMissed n).evu = s.evu ∧ (s.pollMissed n).smp = s.smp ∧
    (s.pollMissed n).pending = s.pending := by
  unfold State.pollMissed; try dsimp only
  (repeat' split) <;> simp

@[simp] theorem State.applyEnding_frame (n : ConnId) (res : Result) (p : Phase) :
    (s.applyEnding n res p).now = s.now ∧ (s.applyEnding n res p).free = s.free ∧
    (s.applyEnding n res p).params = s.params ∧ (s.applyEnding n res p).classes = s.classes ∧
    (s.applyEnding n res p).fmu = s.fmu ∧ (s.applyEnding n res p).tbs = s.tbs ∧ (s.applyEnding n res p).bpl = s.bpl ∧
    (s.applyEnding n res p).mvq = s.mvq ∧ (s.applyEnding n res p).txe = s.txe ∧ (s.applyEnding n res p).sbc = s.sbc ∧
    (s.applyEnding n res p).esm = s.esm ∧ (s.applyEnding n res p).ilu = s.ilu ∧ (s.applyEnding n res p).mdc = s.mdc ∧
    (s.applyEnding n res p).ports = s.ports ∧ (s.applyEnding n res p).smp = s.smp ∧
    (s.applyEnding n res p).pending = s.pending := by
  simp [State.applyEnding]

@[simp] theorem State.finishRecord_frame (r : MoveRec) (res : Result) :
    (s.finishRecord r res).now = s.now ∧ (s.finishRecord r res).free = s.free ∧
    (s.finishRecord r res).params = s.params ∧ (s.finishRecord r res).classes = s.classes ∧
    (s.finishRecord r res).fmu = s.fmu ∧ (s.finishRecord r res).tbs = s.tbs ∧ (s.finishRecord r res).bpl = s.bpl ∧
    (s.finishRecord r res).txe = s.txe ∧ (s.finishRecord r res).sbc = s.sbc ∧ (s.finishRecord r res).esm = s.esm ∧
    (s.finishRecord r res).ilu = s.ilu ∧ (s.finishRecord r res).mdc = s.mdc ∧
    (s.finishRecord r res).ports = s.ports ∧ (s.finishRecord r res).smp = s.smp ∧
    (s.finishRecord r res).pending = s.pending := by
  unfold State.finishRecord; try dsimp only
  (repeat' split) <;> simp

@[simp] theorem State.endQueued_frame (r : MoveRec) (res : Result) :
    (s.endQueued r res).now = s.now ∧ (s.endQueued r res).free = s.free ∧ (s.endQueued r res).params = s.params ∧
    (s.endQueued r res).classes = s.classes ∧ (s.endQueued r res).fmu = s.fmu ∧ (s.endQueued r res).tbs = s.tbs ∧
    (s.endQueued r res).bpl = s.bpl ∧ (s.endQueued r res).txe = s.txe ∧ (s.endQueued r res).sbc = s.sbc ∧
    (s.endQueued r res).esm = s.esm ∧ (s.endQueued r res).ilu = s.ilu ∧ (s.endQueued r res).mdc = s.mdc ∧
    (s.endQueued r res).ports = s.ports ∧ (s.endQueued r res).smp = s.smp ∧
    (s.endQueued r res).pending = s.pending := by
  simp [State.endQueued]

@[simp] theorem State.accept_frame (n : ConnId) (x y : Phase) (o : Origin) :
    (s.accept n x y o).now = s.now ∧ (s.accept n x y o).free = s.free ∧ (s.accept n x y o).params = s.params ∧
    (s.accept n x y o).classes = s.classes ∧ (s.accept n x y o).fmu = s.fmu ∧ (s.accept n x y o).tbs = s.tbs ∧
    (s.accept n x y o).bpl = s.bpl ∧ (s.accept n x y o).txe = s.txe ∧ (s.accept n x y o).sbc = s.sbc ∧
    (s.accept n x y o).esm = s.esm ∧ (s.accept n x y o).ilu = s.ilu ∧ (s.accept n x y o).mdc = s.mdc ∧
    (s.accept n x y o).ports = s.ports ∧ (s.accept n x y o).evu = s.evu ∧ (s.accept n x y o).smp = s.smp ∧
    (s.accept n x y o).pending = s.pending := by
  simp [State.accept]

@[simp] theorem State.makeRoom_frame :
    (s.makeRoom).now = s.now ∧ (s.makeRoom).free = s.free ∧ (s.makeRoom).params = s.params ∧
    (s.makeRoom).classes = s.classes ∧ (s.makeRoom).fmu = s.fmu ∧ (s.makeRoom).tbs = s.tbs ∧
    (s.makeRoom).bpl = s.bpl ∧ (s.makeRoom).txe = s.txe ∧ (s.makeRoom).sbc = s.sbc ∧ (s.makeRoom).esm = s.esm ∧
    (s.makeRoom).ilu = s.ilu ∧ (s.makeRoom).mdc = s.mdc ∧ (s.makeRoom).ports = s.ports ∧ (s.makeRoom).smp = s.smp ∧
    (s.makeRoom).pending = s.pending := by
  unfold State.makeRoom; try dsimp only
  (repeat' split) <;> simp

@[simp] theorem State.endAllQueued_frame (res : Result) :
    (s.endAllQueued res).now = s.now ∧ (s.endAllQueued res).free = s.free ∧ (s.endAllQueued res).params = s.params ∧
    (s.endAllQueued res).classes = s.classes ∧ (s.endAllQueued res).fmu = s.fmu ∧ (s.endAllQueued res).tbs = s.tbs ∧
    (s.endAllQueued res).bpl = s.bpl ∧ (s.endAllQueued res).txe = s.txe ∧ (s.endAllQueued res).sbc = s.sbc ∧
    (s.endAllQueued res).esm = s.esm ∧ (s.endAllQueued res).ilu = s.ilu ∧ (s.endAllQueued res).mdc = s.mdc ∧
    (s.endAllQueued res).ports = s.ports ∧ (s.endAllQueued res).smp = s.smp ∧
    (s.endAllQueued res).pending = s.pending := by
  unfold State.endAllQueued
  refine ⟨?_, ?_, ?_, ?_, ?_, ?_, ?_, ?_, ?_, ?_, ?_, ?_, ?_, ?_, ?_⟩ <;> exact foldl_keeps _ _ (by intros; simp) _ _

@[simp] theorem State.expireQueued_frame (e : Word) :
    (s.expireQueued e).now = s.now ∧ (s.expireQueued e).free = s.free ∧ (s.expireQueued e).params = s.params ∧
    (s.expireQueued e).classes = s.classes ∧ (s.expireQueued e).fmu = s.fmu ∧ (s.expireQueued e).tbs = s.tbs ∧
    (s.expireQueued e).bpl = s.bpl ∧ (s.expireQueued e).txe = s.txe ∧ (s.expireQueued e).sbc = s.sbc ∧
    (s.expireQueued e).esm = s.esm ∧ (s.expireQueued e).ilu = s.ilu ∧ (s.expireQueued e).mdc = s.mdc ∧
    (s.expireQueued e).ports = s.ports ∧ (s.expireQueued e).smp = s.smp ∧ (s.expireQueued e).pending = s.pending := by
  unfold State.expireQueued
  refine ⟨?_, ?_, ?_, ?_, ?_, ?_, ?_, ?_, ?_, ?_, ?_, ?_, ?_, ?_, ?_⟩ <;> exact foldl_keeps _ _ (by intros; simp) _ _

@[simp] theorem State.trimQueue_frame (k : Nat) :
    (State.trimQueue k s).now = s.now ∧ (State.trimQueue k s).free = s.free ∧
    (State.trimQueue k s).params = s.params ∧ (State.trimQueue k s).classes = s.classes ∧
    (State.trimQueue k s).fmu = s.fmu ∧ (State.trimQueue k s).tbs = s.tbs ∧ (State.trimQueue k s).bpl = s.bpl ∧
    (State.trimQueue k s).txe = s.txe ∧ (State.trimQueue k s).sbc = s.sbc ∧ (State.trimQueue k s).esm = s.esm ∧
    (State.trimQueue k s).ilu = s.ilu ∧ (State.trimQueue k s).mdc = s.mdc ∧ (State.trimQueue k s).ports = s.ports ∧
    (State.trimQueue k s).smp = s.smp ∧ (State.trimQueue k s).pending = s.pending := by
  induction k generalizing s with
  | zero => simp [State.trimQueue]
  | succ k ih => unfold State.trimQueue; (repeat' split) <;> simp [ih]

@[simp] theorem State.freeSlotOf_frame (k : SlotId) :
    (s.freeSlotOf k).now = s.now ∧ (s.freeSlotOf k).free = s.free ∧ (s.freeSlotOf k).params = s.params ∧
    (s.freeSlotOf k).classes = s.classes ∧ (s.freeSlotOf k).conns = s.conns ∧ (s.freeSlotOf k).fmu = s.fmu ∧
    (s.freeSlotOf k).tbs = s.tbs ∧ (s.freeSlotOf k).bpl = s.bpl ∧ (s.freeSlotOf k).mvq = s.mvq ∧
    (s.freeSlotOf k).esm = s.esm ∧ (s.freeSlotOf k).ilu = s.ilu ∧ (s.freeSlotOf k).mdc = s.mdc ∧
    (s.freeSlotOf k).ports = s.ports ∧ (s.freeSlotOf k).evu = s.evu ∧ (s.freeSlotOf k).smp = s.smp ∧
    (s.freeSlotOf k).pending = s.pending := by
  simp [State.freeSlotOf]

@[simp] theorem State.returnToQueue_frame (k : SlotId) :
    (s.returnToQueue k).now = s.now ∧ (s.returnToQueue k).free = s.free ∧ (s.returnToQueue k).params = s.params ∧
    (s.returnToQueue k).classes = s.classes ∧ (s.returnToQueue k).conns = s.conns ∧ (s.returnToQueue k).fmu = s.fmu ∧
    (s.returnToQueue k).tbs = s.tbs ∧ (s.returnToQueue k).bpl = s.bpl ∧ (s.returnToQueue k).esm = s.esm ∧
    (s.returnToQueue k).ilu = s.ilu ∧ (s.returnToQueue k).mdc = s.mdc ∧ (s.returnToQueue k).ports = s.ports ∧
    (s.returnToQueue k).evu = s.evu ∧ (s.returnToQueue k).smp = s.smp ∧ (s.returnToQueue k).pending = s.pending := by
  unfold State.returnToQueue; try dsimp only
  (repeat' split) <;> simp

@[simp] theorem State.handBack_frame (k : SlotId) :
    (s.handBack k).now = s.now ∧ (s.handBack k).free = s.free ∧ (s.handBack k).params = s.params ∧
    (s.handBack k).classes = s.classes ∧ (s.handBack k).fmu = s.fmu ∧ (s.handBack k).tbs = s.tbs ∧
    (s.handBack k).bpl = s.bpl ∧ (s.handBack k).esm = s.esm ∧ (s.handBack k).ilu = s.ilu ∧
    (s.handBack k).mdc = s.mdc ∧ (s.handBack k).ports = s.ports ∧ (s.handBack k).smp = s.smp ∧
    (s.handBack k).pending = s.pending := by
  simp [State.handBack]

@[simp] theorem State.handBackAll_frame :
    (s.handBackAll).now = s.now ∧ (s.handBackAll).free = s.free ∧ (s.handBackAll).params = s.params ∧
    (s.handBackAll).classes = s.classes ∧ (s.handBackAll).fmu = s.fmu ∧ (s.handBackAll).tbs = s.tbs ∧
    (s.handBackAll).bpl = s.bpl ∧ (s.handBackAll).esm = s.esm ∧ (s.handBackAll).ilu = s.ilu ∧
    (s.handBackAll).mdc = s.mdc ∧ (s.handBackAll).ports = s.ports ∧ (s.handBackAll).smp = s.smp ∧
    (s.handBackAll).pending = s.pending := by
  simp [State.handBackAll, allSlots, List.foldl]; (repeat' split) <;> simp

@[simp] theorem State.enterSlot_frame (k : SlotId) (r : MoveRec) :
    (s.enterSlot k r).now = s.now ∧ (s.enterSlot k r).free = s.free ∧ (s.enterSlot k r).params = s.params ∧
    (s.enterSlot k r).classes = s.classes ∧ (s.enterSlot k r).fmu = s.fmu ∧ (s.enterSlot k r).tbs = s.tbs ∧
    (s.enterSlot k r).bpl = s.bpl ∧ (s.enterSlot k r).sbc = s.sbc ∧ (s.enterSlot k r).esm = s.esm ∧
    (s.enterSlot k r).ilu = s.ilu ∧ (s.enterSlot k r).mdc = s.mdc ∧ (s.enterSlot k r).ports = s.ports ∧
    (s.enterSlot k r).evu = s.evu ∧ (s.enterSlot k r).smp = s.smp ∧ (s.enterSlot k r).pending = s.pending := by
  simp [State.enterSlot]

@[simp] theorem State.examineHead_frame (k : SlotId) (r : MoveRec) :
    (s.examineHead k r).now = s.now ∧ (s.examineHead k r).free = s.free ∧ (s.examineHead k r).params = s.params ∧
    (s.examineHead k r).classes = s.classes ∧ (s.examineHead k r).fmu = s.fmu ∧ (s.examineHead k r).tbs = s.tbs ∧
    (s.examineHead k r).bpl = s.bpl ∧ (s.examineHead k r).sbc = s.sbc ∧ (s.examineHead k r).esm = s.esm ∧
    (s.examineHead k r).ilu = s.ilu ∧ (s.examineHead k r).mdc = s.mdc ∧ (s.examineHead k r).ports = s.ports ∧
    (s.examineHead k r).smp = s.smp ∧ (s.examineHead k r).pending = s.pending := by
  unfold State.examineHead; try dsimp only
  (repeat' split) <;> simp

@[simp] theorem State.examineHeads_frame (n : Nat) :
    (State.examineHeads n s).now = s.now ∧ (State.examineHeads n s).free = s.free ∧
    (State.examineHeads n s).params = s.params ∧ (State.examineHeads n s).classes = s.classes ∧
    (State.examineHeads n s).fmu = s.fmu ∧ (State.examineHeads n s).tbs = s.tbs ∧
    (State.examineHeads n s).bpl = s.bpl ∧ (State.examineHeads n s).sbc = s.sbc ∧
    (State.examineHeads n s).esm = s.esm ∧ (State.examineHeads n s).ilu = s.ilu ∧
    (State.examineHeads n s).mdc = s.mdc ∧ (State.examineHeads n s).ports = s.ports ∧
    (State.examineHeads n s).smp = s.smp ∧ (State.examineHeads n s).pending = s.pending := by
  induction n generalizing s with
  | zero => simp [State.examineHeads]
  | succ k ih => unfold State.examineHeads; (repeat' split) <;> simp [ih]

@[simp] theorem State.takeAdmission_frame :
    (s.takeAdmission).now = s.now ∧ (s.takeAdmission).free = s.free ∧ (s.takeAdmission).params = s.params ∧
    (s.takeAdmission).classes = s.classes ∧ (s.takeAdmission).fmu = s.fmu ∧ (s.takeAdmission).tbs = s.tbs ∧
    (s.takeAdmission).bpl = s.bpl ∧ (s.takeAdmission).sbc = s.sbc ∧ (s.takeAdmission).esm = s.esm ∧
    (s.takeAdmission).ilu = s.ilu ∧ (s.takeAdmission).mdc = s.mdc ∧ (s.takeAdmission).ports = s.ports ∧
    (s.takeAdmission).smp = s.smp ∧ (s.takeAdmission).pending = s.pending := by
  simp [State.takeAdmission]

@[simp] theorem State.enterMode_frame (m : BaseMode) :
    (s.enterMode m).now = s.now ∧ (s.enterMode m).free = s.free ∧ (s.enterMode m).params = s.params ∧
    (s.enterMode m).classes = s.classes ∧ (s.enterMode m).fmu = s.fmu ∧ (s.enterMode m).tbs = s.tbs ∧
    (s.enterMode m).bpl = s.bpl ∧ (s.enterMode m).sbc = s.sbc ∧ (s.enterMode m).esm = s.esm ∧
    (s.enterMode m).ilu = s.ilu ∧ (s.enterMode m).ports = s.ports ∧ (s.enterMode m).smp = s.smp ∧
    (s.enterMode m).pending = s.pending := by
  simp [State.enterMode]

@[simp] theorem State.modSlot_frame (k : SlotId) (f : Slot → Slot) :
    (s.modSlot k f).now = s.now ∧ (s.modSlot k f).free = s.free ∧ (s.modSlot k f).params = s.params ∧
    (s.modSlot k f).classes = s.classes ∧ (s.modSlot k f).conns = s.conns ∧ (s.modSlot k f).fmu = s.fmu ∧
    (s.modSlot k f).tbs = s.tbs ∧ (s.modSlot k f).bpl = s.bpl ∧ (s.modSlot k f).mvq = s.mvq ∧
    (s.modSlot k f).sbc = s.sbc ∧ (s.modSlot k f).esm = s.esm ∧ (s.modSlot k f).ilu = s.ilu ∧
    (s.modSlot k f).mdc = s.mdc ∧ (s.modSlot k f).ports = s.ports ∧ (s.modSlot k f).evu = s.evu ∧
    (s.modSlot k f).smp = s.smp ∧ (s.modSlot k f).pending = s.pending := by
  unfold State.modSlot; try dsimp only
  (repeat' split) <;> simp

@[simp] theorem State.endRecord_frame (k : SlotId) (res : Result) :
    (s.endRecord k res).now = s.now ∧ (s.endRecord k res).free = s.free ∧ (s.endRecord k res).params = s.params ∧
    (s.endRecord k res).classes = s.classes ∧ (s.endRecord k res).fmu = s.fmu ∧ (s.endRecord k res).tbs = s.tbs ∧
    (s.endRecord k res).bpl = s.bpl ∧ (s.endRecord k res).esm = s.esm ∧ (s.endRecord k res).ilu = s.ilu ∧
    (s.endRecord k res).mdc = s.mdc ∧ (s.endRecord k res).ports = s.ports ∧ (s.endRecord k res).smp = s.smp ∧
    (s.endRecord k res).pending = s.pending := by
  unfold State.endRecord; try dsimp only
  (repeat' split) <;> simp

@[simp] theorem State.enterOrphaned_frame (k : SlotId) :
    (s.enterOrphaned k).now = s.now ∧ (s.enterOrphaned k).free = s.free ∧ (s.enterOrphaned k).params = s.params ∧
    (s.enterOrphaned k).classes = s.classes ∧ (s.enterOrphaned k).fmu = s.fmu ∧ (s.enterOrphaned k).tbs = s.tbs ∧
    (s.enterOrphaned k).bpl = s.bpl ∧ (s.enterOrphaned k).esm = s.esm ∧ (s.enterOrphaned k).ilu = s.ilu ∧
    (s.enterOrphaned k).mdc = s.mdc ∧ (s.enterOrphaned k).ports = s.ports ∧ (s.enterOrphaned k).smp = s.smp ∧
    (s.enterOrphaned k).pending = s.pending := by
  unfold State.enterOrphaned; try dsimp only
  (repeat' split) <;> simp

@[simp] theorem State.holdWaitReturn_frame (k : SlotId) :
    (s.holdWaitReturn k).now = s.now ∧ (s.holdWaitReturn k).free = s.free ∧ (s.holdWaitReturn k).params = s.params ∧
    (s.holdWaitReturn k).classes = s.classes ∧ (s.holdWaitReturn k).fmu = s.fmu ∧ (s.holdWaitReturn k).tbs = s.tbs ∧
    (s.holdWaitReturn k).bpl = s.bpl ∧ (s.holdWaitReturn k).esm = s.esm ∧ (s.holdWaitReturn k).ilu = s.ilu ∧
    (s.holdWaitReturn k).mdc = s.mdc ∧ (s.holdWaitReturn k).ports = s.ports ∧ (s.holdWaitReturn k).smp = s.smp ∧
    (s.holdWaitReturn k).pending = s.pending := by
  unfold State.holdWaitReturn; try dsimp only
  (repeat' split) <;> simp

@[simp] theorem State.enterWaitReturn_frame (k : SlotId) :
    (s.enterWaitReturn k).now = s.now ∧ (s.enterWaitReturn k).free = s.free ∧
    (s.enterWaitReturn k).params = s.params ∧ (s.enterWaitReturn k).classes = s.classes ∧
    (s.enterWaitReturn k).fmu = s.fmu ∧ (s.enterWaitReturn k).tbs = s.tbs ∧ (s.enterWaitReturn k).bpl = s.bpl ∧
    (s.enterWaitReturn k).esm = s.esm ∧ (s.enterWaitReturn k).ilu = s.ilu ∧ (s.enterWaitReturn k).mdc = s.mdc ∧
    (s.enterWaitReturn k).ports = s.ports ∧ (s.enterWaitReturn k).smp = s.smp ∧
    (s.enterWaitReturn k).pending = s.pending := by
  simp [State.enterWaitReturn]

@[simp] theorem State.enterWaitMake_frame (k : SlotId) :
    (s.enterWaitMake k).now = s.now ∧ (s.enterWaitMake k).free = s.free ∧ (s.enterWaitMake k).params = s.params ∧
    (s.enterWaitMake k).classes = s.classes ∧ (s.enterWaitMake k).fmu = s.fmu ∧ (s.enterWaitMake k).tbs = s.tbs ∧
    (s.enterWaitMake k).bpl = s.bpl ∧ (s.enterWaitMake k).esm = s.esm ∧ (s.enterWaitMake k).ilu = s.ilu ∧
    (s.enterWaitMake k).mdc = s.mdc ∧ (s.enterWaitMake k).ports = s.ports ∧ (s.enterWaitMake k).smp = s.smp ∧
    (s.enterWaitMake k).pending = s.pending := by
  unfold State.enterWaitMake; try dsimp only
  (repeat' split) <;> simp

@[simp] theorem State.confirmBreak_frame (k : SlotId) :
    (s.confirmBreak k).now = s.now ∧ (s.confirmBreak k).free = s.free ∧ (s.confirmBreak k).params = s.params ∧
    (s.confirmBreak k).classes = s.classes ∧ (s.confirmBreak k).conns = s.conns ∧ (s.confirmBreak k).fmu = s.fmu ∧
    (s.confirmBreak k).tbs = s.tbs ∧ (s.confirmBreak k).bpl = s.bpl ∧ (s.confirmBreak k).mvq = s.mvq ∧
    (s.confirmBreak k).sbc = s.sbc ∧ (s.confirmBreak k).esm = s.esm ∧ (s.confirmBreak k).ilu = s.ilu ∧
    (s.confirmBreak k).mdc = s.mdc ∧ (s.confirmBreak k).ports = s.ports ∧ (s.confirmBreak k).evu = s.evu ∧
    (s.confirmBreak k).smp = s.smp ∧ (s.confirmBreak k).pending = s.pending := by
  simp [State.confirmBreak]

@[simp] theorem State.enterGap_frame (k : SlotId) :
    (s.enterGap k).now = s.now ∧ (s.enterGap k).free = s.free ∧ (s.enterGap k).params = s.params ∧
    (s.enterGap k).classes = s.classes ∧ (s.enterGap k).fmu = s.fmu ∧ (s.enterGap k).tbs = s.tbs ∧
    (s.enterGap k).bpl = s.bpl ∧ (s.enterGap k).esm = s.esm ∧ (s.enterGap k).ilu = s.ilu ∧
    (s.enterGap k).mdc = s.mdc ∧ (s.enterGap k).ports = s.ports ∧ (s.enterGap k).smp = s.smp ∧
    (s.enterGap k).pending = s.pending := by
  unfold State.enterGap; try dsimp only
  (repeat' split) <;> simp

@[simp] theorem State.backToWaitBreak_frame (k : SlotId) :
    (s.backToWaitBreak k).now = s.now ∧ (s.backToWaitBreak k).free = s.free ∧
    (s.backToWaitBreak k).params = s.params ∧ (s.backToWaitBreak k).classes = s.classes ∧
    (s.backToWaitBreak k).fmu = s.fmu ∧ (s.backToWaitBreak k).tbs = s.tbs ∧ (s.backToWaitBreak k).bpl = s.bpl ∧
    (s.backToWaitBreak k).esm = s.esm ∧ (s.backToWaitBreak k).ilu = s.ilu ∧ (s.backToWaitBreak k).mdc = s.mdc ∧
    (s.backToWaitBreak k).ports = s.ports ∧ (s.backToWaitBreak k).smp = s.smp ∧
    (s.backToWaitBreak k).pending = s.pending := by
  unfold State.backToWaitBreak; try dsimp only
  (repeat' split) <;> simp

@[simp] theorem State.requestCancel_frame (k : SlotId) :
    (s.requestCancel k).now = s.now ∧ (s.requestCancel k).free = s.free ∧ (s.requestCancel k).params = s.params ∧
    (s.requestCancel k).classes = s.classes ∧ (s.requestCancel k).conns = s.conns ∧ (s.requestCancel k).fmu = s.fmu ∧
    (s.requestCancel k).tbs = s.tbs ∧ (s.requestCancel k).bpl = s.bpl ∧ (s.requestCancel k).mvq = s.mvq ∧
    (s.requestCancel k).sbc = s.sbc ∧ (s.requestCancel k).esm = s.esm ∧ (s.requestCancel k).ilu = s.ilu ∧
    (s.requestCancel k).mdc = s.mdc ∧ (s.requestCancel k).ports = s.ports ∧ (s.requestCancel k).evu = s.evu ∧
    (s.requestCancel k).smp = s.smp ∧ (s.requestCancel k).pending = s.pending := by
  simp [State.requestCancel]

@[simp] theorem State.cancelSlot_frame (k : SlotId) :
    (s.cancelSlot k).now = s.now ∧ (s.cancelSlot k).free = s.free ∧ (s.cancelSlot k).params = s.params ∧
    (s.cancelSlot k).classes = s.classes ∧ (s.cancelSlot k).fmu = s.fmu ∧ (s.cancelSlot k).tbs = s.tbs ∧
    (s.cancelSlot k).bpl = s.bpl ∧ (s.cancelSlot k).esm = s.esm ∧ (s.cancelSlot k).ilu = s.ilu ∧
    (s.cancelSlot k).mdc = s.mdc ∧ (s.cancelSlot k).ports = s.ports ∧ (s.cancelSlot k).smp = s.smp ∧
    (s.cancelSlot k).pending = s.pending := by
  unfold State.cancelSlot; try dsimp only
  (repeat' split) <;> simp

@[simp] theorem State.treatSlot_frame (k : SlotId) :
    (s.treatSlot k).now = s.now ∧ (s.treatSlot k).free = s.free ∧ (s.treatSlot k).params = s.params ∧
    (s.treatSlot k).classes = s.classes ∧ (s.treatSlot k).fmu = s.fmu ∧ (s.treatSlot k).tbs = s.tbs ∧
    (s.treatSlot k).bpl = s.bpl ∧ (s.treatSlot k).esm = s.esm ∧ (s.treatSlot k).ilu = s.ilu ∧
    (s.treatSlot k).mdc = s.mdc ∧ (s.treatSlot k).ports = s.ports ∧ (s.treatSlot k).smp = s.smp ∧
    (s.treatSlot k).pending = s.pending := by
  unfold State.treatSlot; try dsimp only
  (repeat' split) <;> simp

@[simp] theorem State.haltTreatment_frame :
    (s.haltTreatment).now = s.now ∧ (s.haltTreatment).free = s.free ∧ (s.haltTreatment).params = s.params ∧
    (s.haltTreatment).classes = s.classes ∧ (s.haltTreatment).fmu = s.fmu ∧ (s.haltTreatment).tbs = s.tbs ∧
    (s.haltTreatment).bpl = s.bpl ∧ (s.haltTreatment).esm = s.esm ∧ (s.haltTreatment).ilu = s.ilu ∧
    (s.haltTreatment).mdc = s.mdc ∧ (s.haltTreatment).ports = s.ports ∧ (s.haltTreatment).smp = s.smp ∧
    (s.haltTreatment).pending = s.pending := by
  simp [State.haltTreatment, allSlots, List.foldl]

@[simp] theorem State.recheckSlot_frame (k : SlotId) :
    (s.recheckSlot k).now = s.now ∧ (s.recheckSlot k).free = s.free ∧ (s.recheckSlot k).params = s.params ∧
    (s.recheckSlot k).classes = s.classes ∧ (s.recheckSlot k).fmu = s.fmu ∧ (s.recheckSlot k).tbs = s.tbs ∧
    (s.recheckSlot k).bpl = s.bpl ∧ (s.recheckSlot k).esm = s.esm ∧ (s.recheckSlot k).ilu = s.ilu ∧
    (s.recheckSlot k).mdc = s.mdc ∧ (s.recheckSlot k).ports = s.ports ∧ (s.recheckSlot k).smp = s.smp ∧
    (s.recheckSlot k).pending = s.pending := by
  unfold State.recheckSlot; try dsimp only
  (repeat' split) <;> simp

@[simp] theorem State.recheckSlots_frame :
    (s.recheckSlots).now = s.now ∧ (s.recheckSlots).free = s.free ∧ (s.recheckSlots).params = s.params ∧
    (s.recheckSlots).classes = s.classes ∧ (s.recheckSlots).fmu = s.fmu ∧ (s.recheckSlots).tbs = s.tbs ∧
    (s.recheckSlots).bpl = s.bpl ∧ (s.recheckSlots).esm = s.esm ∧ (s.recheckSlots).ilu = s.ilu ∧
    (s.recheckSlots).mdc = s.mdc ∧ (s.recheckSlots).ports = s.ports ∧ (s.recheckSlots).smp = s.smp ∧
    (s.recheckSlots).pending = s.pending := by
  simp [State.recheckSlots, allSlots, List.foldl]

@[simp] theorem State.abandonSlots_frame :
    (s.abandonSlots).now = s.now ∧ (s.abandonSlots).free = s.free ∧ (s.abandonSlots).params = s.params ∧
    (s.abandonSlots).classes = s.classes ∧ (s.abandonSlots).fmu = s.fmu ∧ (s.abandonSlots).tbs = s.tbs ∧
    (s.abandonSlots).bpl = s.bpl ∧ (s.abandonSlots).esm = s.esm ∧ (s.abandonSlots).ilu = s.ilu ∧
    (s.abandonSlots).mdc = s.mdc ∧ (s.abandonSlots).ports = s.ports ∧ (s.abandonSlots).smp = s.smp ∧
    (s.abandonSlots).pending = s.pending := by
  simp [State.abandonSlots, allSlots, List.foldl]

@[simp] theorem State.flushAndTreat_frame :
    (s.flushAndTreat).now = s.now ∧ (s.flushAndTreat).free = s.free ∧ (s.flushAndTreat).params = s.params ∧
    (s.flushAndTreat).classes = s.classes ∧ (s.flushAndTreat).fmu = s.fmu ∧ (s.flushAndTreat).tbs = s.tbs ∧
    (s.flushAndTreat).bpl = s.bpl ∧ (s.flushAndTreat).esm = s.esm ∧ (s.flushAndTreat).ilu = s.ilu ∧
    (s.flushAndTreat).mdc = s.mdc ∧ (s.flushAndTreat).ports = s.ports ∧ (s.flushAndTreat).smp = s.smp ∧
    (s.flushAndTreat).pending = s.pending := by
  simp [State.flushAndTreat]

@[simp] theorem State.enterHalt_frame (h : HaltSource) :
    (s.enterHalt h).now = s.now ∧ (s.enterHalt h).free = s.free ∧ (s.enterHalt h).params = s.params ∧
    (s.enterHalt h).classes = s.classes ∧ (s.enterHalt h).conns = s.conns ∧ (s.enterHalt h).fmu = s.fmu ∧
    (s.enterHalt h).tbs = s.tbs ∧ (s.enterHalt h).bpl = s.bpl ∧ (s.enterHalt h).mvq = s.mvq ∧
    (s.enterHalt h).txe = s.txe ∧ (s.enterHalt h).sbc = s.sbc ∧ (s.enterHalt h).esm = s.esm ∧
    (s.enterHalt h).mdc = s.mdc ∧ (s.enterHalt h).ports = s.ports ∧ (s.enterHalt h).evu = s.evu ∧
    (s.enterHalt h).smp = s.smp ∧ (s.enterHalt h).pending = s.pending := by
  unfold State.enterHalt; try dsimp only
  (repeat' split) <;> simp

@[simp] theorem State.haltMode_frame :
    (s.haltMode).now = s.now ∧ (s.haltMode).free = s.free ∧ (s.haltMode).params = s.params ∧
    (s.haltMode).classes = s.classes ∧ (s.haltMode).fmu = s.fmu ∧ (s.haltMode).tbs = s.tbs ∧
    (s.haltMode).bpl = s.bpl ∧ (s.haltMode).esm = s.esm ∧ (s.haltMode).ilu = s.ilu ∧ (s.haltMode).ports = s.ports ∧
    (s.haltMode).smp = s.smp ∧ (s.haltMode).pending = s.pending := by
  unfold State.haltMode; try dsimp only
  (repeat' split) <;> simp

@[simp] theorem State.haltEvent_frame (h : HaltSource) :
    (s.haltEvent h).now = s.now ∧ (s.haltEvent h).free = s.free ∧ (s.haltEvent h).params = s.params ∧
    (s.haltEvent h).classes = s.classes ∧ (s.haltEvent h).fmu = s.fmu ∧ (s.haltEvent h).tbs = s.tbs ∧
    (s.haltEvent h).bpl = s.bpl ∧ (s.haltEvent h).esm = s.esm ∧ (s.haltEvent h).ports = s.ports ∧
    (s.haltEvent h).smp = s.smp ∧ (s.haltEvent h).pending = s.pending := by
  unfold State.haltEvent; try dsimp only
  (repeat' split) <;> simp

@[simp] theorem State.setMapFault_frame :
    (s.setMapFault).now = s.now ∧ (s.setMapFault).free = s.free ∧ (s.setMapFault).params = s.params ∧
    (s.setMapFault).classes = s.classes ∧ (s.setMapFault).fmu = s.fmu ∧ (s.setMapFault).tbs = s.tbs ∧
    (s.setMapFault).bpl = s.bpl ∧ (s.setMapFault).esm = s.esm ∧ (s.setMapFault).ports = s.ports ∧
    (s.setMapFault).smp = s.smp ∧ (s.setMapFault).pending = s.pending := by
  unfold State.setMapFault; try dsimp only
  (repeat' split) <;> simp

@[simp] theorem State.endTransfer_frame (k : SlotId) (res : Result) :
    (s.endTransfer k res).now = s.now ∧ (s.endTransfer k res).free = s.free ∧
    (s.endTransfer k res).params = s.params ∧ (s.endTransfer k res).classes = s.classes ∧
    (s.endTransfer k res).fmu = s.fmu ∧ (s.endTransfer k res).tbs = s.tbs ∧ (s.endTransfer k res).bpl = s.bpl ∧
    (s.endTransfer k res).esm = s.esm ∧ (s.endTransfer k res).ports = s.ports ∧ (s.endTransfer k res).smp = s.smp ∧
    (s.endTransfer k res).pending = s.pending := by
  unfold State.endTransfer; try dsimp only
  (repeat' split) <;> simp

@[simp] theorem State.supplyStart_frame :
    (s.supplyStart).now = s.now ∧ (s.supplyStart).free = s.free ∧ (s.supplyStart).params = s.params ∧
    (s.supplyStart).classes = s.classes ∧ (s.supplyStart).fmu = s.fmu ∧ (s.supplyStart).tbs = s.tbs ∧
    (s.supplyStart).bpl = s.bpl ∧ (s.supplyStart).esm = s.esm ∧ (s.supplyStart).ilu = s.ilu ∧
    (s.supplyStart).ports = s.ports ∧ (s.supplyStart).smp = s.smp ∧ (s.supplyStart).pending = s.pending := by
  unfold State.supplyStart; try dsimp only
  (repeat' split) <;> simp

@[simp] theorem State.qualifiedClear_frame :
    (s.qualifiedClear).now = s.now ∧ (s.qualifiedClear).free = s.free ∧ (s.qualifiedClear).params = s.params ∧
    (s.qualifiedClear).classes = s.classes ∧ (s.qualifiedClear).fmu = s.fmu ∧ (s.qualifiedClear).tbs = s.tbs ∧
    (s.qualifiedClear).bpl = s.bpl ∧ (s.qualifiedClear).sbc = s.sbc ∧ (s.qualifiedClear).esm = s.esm ∧
    (s.qualifiedClear).ilu = s.ilu ∧ (s.qualifiedClear).ports = s.ports ∧ (s.qualifiedClear).smp = s.smp ∧
    (s.qualifiedClear).pending = s.pending := by
  unfold State.qualifiedClear; try dsimp only
  (repeat' split) <;> simp

@[simp] theorem State.supplyChanged_frame (b : Bool) :
    (s.supplyChanged b).now = s.now ∧ (s.supplyChanged b).free = s.free ∧ (s.supplyChanged b).params = s.params ∧
    (s.supplyChanged b).classes = s.classes ∧ (s.supplyChanged b).fmu = s.fmu ∧ (s.supplyChanged b).tbs = s.tbs ∧
    (s.supplyChanged b).bpl = s.bpl ∧ (s.supplyChanged b).esm = s.esm ∧ (s.supplyChanged b).ports = s.ports ∧
    (s.supplyChanged b).smp = s.smp ∧ (s.supplyChanged b).pending = s.pending := by
  unfold State.supplyChanged; try dsimp only
  (repeat' split) <;> simp

@[simp] theorem State.keyChanged_frame :
    (s.keyChanged).now = s.now ∧ (s.keyChanged).free = s.free ∧ (s.keyChanged).params = s.params ∧
    (s.keyChanged).classes = s.classes ∧ (s.keyChanged).conns = s.conns ∧ (s.keyChanged).fmu = s.fmu ∧
    (s.keyChanged).tbs = s.tbs ∧ (s.keyChanged).bpl = s.bpl ∧ (s.keyChanged).mvq = s.mvq ∧
    (s.keyChanged).txe = s.txe ∧ (s.keyChanged).sbc = s.sbc ∧ (s.keyChanged).esm = s.esm ∧
    (s.keyChanged).ilu = s.ilu ∧ (s.keyChanged).ports = s.ports ∧ (s.keyChanged).smp = s.smp ∧
    (s.keyChanged).pending = s.pending := by
  simp [State.keyChanged]

@[simp] theorem State.setStatus_frame (i : InputLine) (v : Bool) :
    (s.setStatus i v).now = s.now ∧ (s.setStatus i v).free = s.free ∧ (s.setStatus i v).params = s.params ∧
    (s.setStatus i v).classes = s.classes ∧ (s.setStatus i v).fmu = s.fmu ∧ (s.setStatus i v).tbs = s.tbs ∧
    (s.setStatus i v).bpl = s.bpl ∧ (s.setStatus i v).esm = s.esm ∧ (s.setStatus i v).ports = s.ports ∧
    (s.setStatus i v).smp = s.smp ∧ (s.setStatus i v).pending = s.pending := by
  unfold State.setStatus; try dsimp only
  (repeat' split) <;> simp

@[simp] theorem State.followLevel_frame (i : InputLine) :
    (s.followLevel i).now = s.now ∧ (s.followLevel i).free = s.free ∧ (s.followLevel i).params = s.params ∧
    (s.followLevel i).classes = s.classes ∧ (s.followLevel i).fmu = s.fmu ∧ (s.followLevel i).tbs = s.tbs ∧
    (s.followLevel i).bpl = s.bpl ∧ (s.followLevel i).esm = s.esm ∧ (s.followLevel i).ports = s.ports ∧
    (s.followLevel i).smp = s.smp ∧ (s.followLevel i).pending = s.pending := by
  unfold State.followLevel; try dsimp only
  (repeat' split) <;> simp

@[simp] theorem State.debouncedChanged_frame (i : InputLine) :
    (s.debouncedChanged i).now = s.now ∧ (s.debouncedChanged i).free = s.free ∧
    (s.debouncedChanged i).params = s.params ∧ (s.debouncedChanged i).classes = s.classes ∧
    (s.debouncedChanged i).fmu = s.fmu ∧ (s.debouncedChanged i).tbs = s.tbs ∧ (s.debouncedChanged i).bpl = s.bpl ∧
    (s.debouncedChanged i).esm = s.esm ∧ (s.debouncedChanged i).ports = s.ports ∧
    (s.debouncedChanged i).smp = s.smp ∧ (s.debouncedChanged i).pending = s.pending := by
  cases i <;> simp [State.debouncedChanged]

@[simp] theorem State.sampleInput_frame (i : InputLine) (b : Bool) :
    (s.sampleInput i b).free = s.free ∧ (s.sampleInput i b).params = s.params ∧
    (s.sampleInput i b).classes = s.classes ∧ (s.sampleInput i b).fmu = s.fmu ∧ (s.sampleInput i b).tbs = s.tbs ∧
    (s.sampleInput i b).bpl = s.bpl ∧ (s.sampleInput i b).esm = s.esm ∧ (s.sampleInput i b).ports = s.ports ∧
    (s.sampleInput i b).smp = s.smp ∧ (s.sampleInput i b).pending = s.pending := by
  unfold State.sampleInput; try dsimp only
  (repeat' split) <;> simp

@[simp] theorem State.clearEdge_frame (x : Byte) (i : InputLine) :
    (s.clearEdge x i).now = s.now ∧ (s.clearEdge x i).free = s.free ∧ (s.clearEdge x i).params = s.params ∧
    (s.clearEdge x i).classes = s.classes ∧ (s.clearEdge x i).conns = s.conns ∧ (s.clearEdge x i).fmu = s.fmu ∧
    (s.clearEdge x i).tbs = s.tbs ∧ (s.clearEdge x i).bpl = s.bpl ∧ (s.clearEdge x i).mvq = s.mvq ∧
    (s.clearEdge x i).txe = s.txe ∧ (s.clearEdge x i).sbc = s.sbc ∧ (s.clearEdge x i).esm = s.esm ∧
    (s.clearEdge x i).mdc = s.mdc ∧ (s.clearEdge x i).ports = s.ports ∧ (s.clearEdge x i).evu = s.evu ∧
    (s.clearEdge x i).smp = s.smp ∧ (s.clearEdge x i).pending = s.pending := by
  unfold State.clearEdge; try dsimp only
  (repeat' split) <;> simp

@[simp] theorem State.clearInputs_frame (x : Byte) :
    (s.clearInputs x).now = s.now ∧ (s.clearInputs x).free = s.free ∧ (s.clearInputs x).params = s.params ∧
    (s.clearInputs x).classes = s.classes ∧ (s.clearInputs x).conns = s.conns ∧ (s.clearInputs x).fmu = s.fmu ∧
    (s.clearInputs x).tbs = s.tbs ∧ (s.clearInputs x).bpl = s.bpl ∧ (s.clearInputs x).mvq = s.mvq ∧
    (s.clearInputs x).txe = s.txe ∧ (s.clearInputs x).sbc = s.sbc ∧ (s.clearInputs x).esm = s.esm ∧
    (s.clearInputs x).mdc = s.mdc ∧ (s.clearInputs x).ports = s.ports ∧ (s.clearInputs x).evu = s.evu ∧
    (s.clearInputs x).smp = s.smp ∧ (s.clearInputs x).pending = s.pending := by
  simp [State.clearInputs, sourceInputs, List.foldl]; split <;> simp

@[simp] theorem State.clearMisses_frame (k : SlotId) :
    (s.clearMisses k).now = s.now ∧ (s.clearMisses k).free = s.free ∧ (s.clearMisses k).params = s.params ∧
    (s.clearMisses k).classes = s.classes ∧ (s.clearMisses k).conns = s.conns ∧ (s.clearMisses k).fmu = s.fmu ∧
    (s.clearMisses k).tbs = s.tbs ∧ (s.clearMisses k).bpl = s.bpl ∧ (s.clearMisses k).mvq = s.mvq ∧
    (s.clearMisses k).sbc = s.sbc ∧ (s.clearMisses k).esm = s.esm ∧ (s.clearMisses k).ilu = s.ilu ∧
    (s.clearMisses k).mdc = s.mdc ∧ (s.clearMisses k).ports = s.ports ∧ (s.clearMisses k).evu = s.evu ∧
    (s.clearMisses k).smp = s.smp ∧ (s.clearMisses k).pending = s.pending := by
  simp [State.clearMisses]

@[simp] theorem State.verifyBreaking_frame (k : SlotId) (sl : Slot) (c : Option Phase) :
    (s.verifyBreaking k sl c).now = s.now ∧ (s.verifyBreaking k sl c).free = s.free ∧
    (s.verifyBreaking k sl c).params = s.params ∧ (s.verifyBreaking k sl c).classes = s.classes ∧
    (s.verifyBreaking k sl c).fmu = s.fmu ∧ (s.verifyBreaking k sl c).tbs = s.tbs ∧
    (s.verifyBreaking k sl c).bpl = s.bpl ∧ (s.verifyBreaking k sl c).esm = s.esm ∧
    (s.verifyBreaking k sl c).ports = s.ports ∧ (s.verifyBreaking k sl c).smp = s.smp ∧
    (s.verifyBreaking k sl c).pending = s.pending := by
  unfold State.verifyBreaking; try dsimp only
  (repeat' split) <;> simp

@[simp] theorem State.verifyMaking_frame (k : SlotId) (sl : Slot) (c : Option Phase) :
    (s.verifyMaking k sl c).now = s.now ∧ (s.verifyMaking k sl c).free = s.free ∧
    (s.verifyMaking k sl c).params = s.params ∧ (s.verifyMaking k sl c).classes = s.classes ∧
    (s.verifyMaking k sl c).fmu = s.fmu ∧ (s.verifyMaking k sl c).tbs = s.tbs ∧ (s.verifyMaking k sl c).bpl = s.bpl ∧
    (s.verifyMaking k sl c).esm = s.esm ∧ (s.verifyMaking k sl c).ports = s.ports ∧
    (s.verifyMaking k sl c).smp = s.smp ∧ (s.verifyMaking k sl c).pending = s.pending := by
  unfold State.verifyMaking; try dsimp only
  (repeat' split) <;> simp

@[simp] theorem State.verifyReturning_frame (k : SlotId) (sl : Slot) (c : Option Phase) :
    (s.verifyReturning k sl c).now = s.now ∧ (s.verifyReturning k sl c).free = s.free ∧
    (s.verifyReturning k sl c).params = s.params ∧ (s.verifyReturning k sl c).classes = s.classes ∧
    (s.verifyReturning k sl c).fmu = s.fmu ∧ (s.verifyReturning k sl c).tbs = s.tbs ∧
    (s.verifyReturning k sl c).bpl = s.bpl ∧ (s.verifyReturning k sl c).esm = s.esm ∧
    (s.verifyReturning k sl c).ports = s.ports ∧ (s.verifyReturning k sl c).smp = s.smp ∧
    (s.verifyReturning k sl c).pending = s.pending := by
  unfold State.verifyReturning; try dsimp only
  (repeat' split) <;> simp

@[simp] theorem State.seeClosed_frame (k : SlotId) (sl : Slot) (c : Option Phase) :
    (s.seeClosed k sl c).now = s.now ∧ (s.seeClosed k sl c).free = s.free ∧ (s.seeClosed k sl c).params = s.params ∧
    (s.seeClosed k sl c).classes = s.classes ∧ (s.seeClosed k sl c).fmu = s.fmu ∧ (s.seeClosed k sl c).tbs = s.tbs ∧
    (s.seeClosed k sl c).bpl = s.bpl ∧ (s.seeClosed k sl c).esm = s.esm ∧ (s.seeClosed k sl c).ports = s.ports ∧
    (s.seeClosed k sl c).smp = s.smp ∧ (s.seeClosed k sl c).pending = s.pending := by
  unfold State.seeClosed; try dsimp only
  (repeat' split) <;> simp

@[simp] theorem State.statusAtWaitBreak_frame (k : SlotId) (sl : Slot) (c : Option Phase) :
    (s.statusAtWaitBreak k sl c).now = s.now ∧ (s.statusAtWaitBreak k sl c).free = s.free ∧
    (s.statusAtWaitBreak k sl c).params = s.params ∧ (s.statusAtWaitBreak k sl c).classes = s.classes ∧
    (s.statusAtWaitBreak k sl c).fmu = s.fmu ∧ (s.statusAtWaitBreak k sl c).tbs = s.tbs ∧
    (s.statusAtWaitBreak k sl c).bpl = s.bpl ∧ (s.statusAtWaitBreak k sl c).esm = s.esm ∧
    (s.statusAtWaitBreak k sl c).ports = s.ports ∧ (s.statusAtWaitBreak k sl c).smp = s.smp ∧
    (s.statusAtWaitBreak k sl c).pending = s.pending := by
  unfold State.statusAtWaitBreak; try dsimp only
  (repeat' split) <;> simp

@[simp] theorem State.statusToSlot_frame (k : SlotId) (c : Option Phase) :
    (s.statusToSlot k c).now = s.now ∧ (s.statusToSlot k c).free = s.free ∧ (s.statusToSlot k c).params = s.params ∧
    (s.statusToSlot k c).classes = s.classes ∧ (s.statusToSlot k c).fmu = s.fmu ∧ (s.statusToSlot k c).tbs = s.tbs ∧
    (s.statusToSlot k c).bpl = s.bpl ∧ (s.statusToSlot k c).esm = s.esm ∧ (s.statusToSlot k c).ports = s.ports ∧
    (s.statusToSlot k c).smp = s.smp ∧ (s.statusToSlot k c).pending = s.pending := by
  unfold State.statusToSlot; try dsimp only
  (repeat' split) <;> simp

@[simp] theorem State.verifyDecision_frame (k : SlotId) (c : Option Phase) :
    (s.verifyDecision k c).now = s.now ∧ (s.verifyDecision k c).free = s.free ∧
    (s.verifyDecision k c).params = s.params ∧ (s.verifyDecision k c).classes = s.classes ∧
    (s.verifyDecision k c).fmu = s.fmu ∧ (s.verifyDecision k c).tbs = s.tbs ∧ (s.verifyDecision k c).bpl = s.bpl ∧
    (s.verifyDecision k c).esm = s.esm ∧ (s.verifyDecision k c).ports = s.ports ∧
    (s.verifyDecision k c).smp = s.smp ∧ (s.verifyDecision k c).pending = s.pending := by
  unfold State.verifyDecision; try dsimp only
  (repeat' split) <;> simp

@[simp] theorem State.verifyMissed_frame (k : SlotId) :
    (s.verifyMissed k).now = s.now ∧ (s.verifyMissed k).free = s.free ∧ (s.verifyMissed k).params = s.params ∧
    (s.verifyMissed k).classes = s.classes ∧ (s.verifyMissed k).fmu = s.fmu ∧ (s.verifyMissed k).tbs = s.tbs ∧
    (s.verifyMissed k).bpl = s.bpl ∧ (s.verifyMissed k).esm = s.esm ∧ (s.verifyMissed k).ports = s.ports ∧
    (s.verifyMissed k).smp = s.smp ∧ (s.verifyMissed k).pending = s.pending := by
  unfold State.verifyMissed; try dsimp only
  (repeat' split) <;> simp

@[simp] theorem State.setVerifyDue_frame (k : SlotId) (f : Word) :
    (s.setVerifyDue k f).now = s.now ∧ (s.setVerifyDue k f).free = s.free ∧ (s.setVerifyDue k f).params = s.params ∧
    (s.setVerifyDue k f).classes = s.classes ∧ (s.setVerifyDue k f).conns = s.conns ∧
    (s.setVerifyDue k f).fmu = s.fmu ∧ (s.setVerifyDue k f).tbs = s.tbs ∧ (s.setVerifyDue k f).bpl = s.bpl ∧
    (s.setVerifyDue k f).mvq = s.mvq ∧ (s.setVerifyDue k f).sbc = s.sbc ∧ (s.setVerifyDue k f).esm = s.esm ∧
    (s.setVerifyDue k f).ilu = s.ilu ∧ (s.setVerifyDue k f).mdc = s.mdc ∧ (s.setVerifyDue k f).ports = s.ports ∧
    (s.setVerifyDue k f).evu = s.evu ∧ (s.setVerifyDue k f).smp = s.smp ∧
    (s.setVerifyDue k f).pending = s.pending := by
  simp [State.setVerifyDue]

@[simp] theorem State.slotOutcome_frame (k : SlotId) (a : ActKind) (f : Word) (o : ActOutcome) :
    (s.slotOutcome k a f o).now = s.now ∧ (s.slotOutcome k a f o).free = s.free ∧
    (s.slotOutcome k a f o).params = s.params ∧ (s.slotOutcome k a f o).classes = s.classes ∧
    (s.slotOutcome k a f o).fmu = s.fmu ∧ (s.slotOutcome k a f o).tbs = s.tbs ∧ (s.slotOutcome k a f o).bpl = s.bpl ∧
    (s.slotOutcome k a f o).esm = s.esm ∧ (s.slotOutcome k a f o).ports = s.ports ∧
    (s.slotOutcome k a f o).smp = s.smp ∧ (s.slotOutcome k a f o).pending = s.pending := by
  unfold State.slotOutcome; try dsimp only
  (repeat' split) <;> simp

@[simp] theorem State.enterCharging_frame :
    (s.enterCharging).now = s.now ∧ (s.enterCharging).free = s.free ∧ (s.enterCharging).params = s.params ∧
    (s.enterCharging).classes = s.classes ∧ (s.enterCharging).conns = s.conns ∧ (s.enterCharging).fmu = s.fmu ∧
    (s.enterCharging).tbs = s.tbs ∧ (s.enterCharging).bpl = s.bpl ∧ (s.enterCharging).mvq = s.mvq ∧
    (s.enterCharging).txe = s.txe ∧ (s.enterCharging).sbc = s.sbc ∧ (s.enterCharging).ilu = s.ilu ∧
    (s.enterCharging).mdc = s.mdc ∧ (s.enterCharging).ports = s.ports ∧ (s.enterCharging).evu = s.evu ∧
    (s.enterCharging).smp = s.smp ∧ (s.enterCharging).pending = s.pending := by
  unfold State.enterCharging; try dsimp only
  (repeat' split) <;> simp

@[simp] theorem State.judgeVoltage_frame :
    (s.judgeVoltage).now = s.now ∧ (s.judgeVoltage).free = s.free ∧ (s.judgeVoltage).params = s.params ∧
    (s.judgeVoltage).classes = s.classes ∧ (s.judgeVoltage).conns = s.conns ∧ (s.judgeVoltage).fmu = s.fmu ∧
    (s.judgeVoltage).tbs = s.tbs ∧ (s.judgeVoltage).bpl = s.bpl ∧ (s.judgeVoltage).mvq = s.mvq ∧
    (s.judgeVoltage).txe = s.txe ∧ (s.judgeVoltage).sbc = s.sbc ∧ (s.judgeVoltage).ilu = s.ilu ∧
    (s.judgeVoltage).mdc = s.mdc ∧ (s.judgeVoltage).ports = s.ports ∧ (s.judgeVoltage).evu = s.evu ∧
    (s.judgeVoltage).smp = s.smp ∧ (s.judgeVoltage).pending = s.pending := by
  unfold State.judgeVoltage; try dsimp only
  (repeat' split) <;> simp

@[simp] theorem State.recoveryTick_frame :
    (s.recoveryTick).now = s.now ∧ (s.recoveryTick).free = s.free ∧ (s.recoveryTick).params = s.params ∧
    (s.recoveryTick).classes = s.classes ∧ (s.recoveryTick).conns = s.conns ∧ (s.recoveryTick).fmu = s.fmu ∧
    (s.recoveryTick).tbs = s.tbs ∧ (s.recoveryTick).bpl = s.bpl ∧ (s.recoveryTick).mvq = s.mvq ∧
    (s.recoveryTick).txe = s.txe ∧ (s.recoveryTick).sbc = s.sbc ∧ (s.recoveryTick).ilu = s.ilu ∧
    (s.recoveryTick).mdc = s.mdc ∧ (s.recoveryTick).ports = s.ports ∧ (s.recoveryTick).evu = s.evu ∧
    (s.recoveryTick).smp = s.smp ∧ (s.recoveryTick).pending = s.pending := by
  unfold State.recoveryTick; try dsimp only
  (repeat' split) <;> simp

@[simp] theorem State.storeOutcome_frame (n : ConnId) (f : Word) (o : ActOutcome) :
    (s.storeOutcome n f o).now = s.now ∧ (s.storeOutcome n f o).free = s.free ∧
    (s.storeOutcome n f o).params = s.params ∧ (s.storeOutcome n f o).classes = s.classes ∧
    (s.storeOutcome n f o).conns = s.conns ∧ (s.storeOutcome n f o).fmu = s.fmu ∧
    (s.storeOutcome n f o).tbs = s.tbs ∧ (s.storeOutcome n f o).bpl = s.bpl ∧ (s.storeOutcome n f o).mvq = s.mvq ∧
    (s.storeOutcome n f o).txe = s.txe ∧ (s.storeOutcome n f o).sbc = s.sbc ∧ (s.storeOutcome n f o).ilu = s.ilu ∧
    (s.storeOutcome n f o).mdc = s.mdc ∧ (s.storeOutcome n f o).ports = s.ports ∧
    (s.storeOutcome n f o).evu = s.evu ∧ (s.storeOutcome n f o).smp = s.smp ∧
    (s.storeOutcome n f o).pending = s.pending := by
  unfold State.storeOutcome; try dsimp only
  (repeat' split) <;> simp

@[simp] theorem State.finishQuery_frame (n : ConnId) (b : List Byte) :
    (s.finishQuery n b).now = s.now ∧ (s.finishQuery n b).free = s.free ∧ (s.finishQuery n b).params = s.params ∧
    (s.finishQuery n b).classes = s.classes ∧ (s.finishQuery n b).conns = s.conns ∧ (s.finishQuery n b).fmu = s.fmu ∧
    (s.finishQuery n b).tbs = s.tbs ∧ (s.finishQuery n b).bpl = s.bpl ∧ (s.finishQuery n b).mvq = s.mvq ∧
    (s.finishQuery n b).txe = s.txe ∧ (s.finishQuery n b).esm = s.esm ∧ (s.finishQuery n b).ilu = s.ilu ∧
    (s.finishQuery n b).mdc = s.mdc ∧ (s.finishQuery n b).evu = s.evu ∧ (s.finishQuery n b).smp = s.smp ∧
    (s.finishQuery n b).pending = s.pending := by
  unfold State.finishQuery; try dsimp only
  (repeat' split) <;> simp

@[simp] theorem State.statusTaken_frame (n : ConnId) (r : StatusReport) :
    (s.statusTaken n r).now = s.now ∧ (s.statusTaken n r).free = s.free ∧ (s.statusTaken n r).params = s.params ∧
    (s.statusTaken n r).classes = s.classes ∧ (s.statusTaken n r).tbs = s.tbs ∧ (s.statusTaken n r).bpl = s.bpl ∧
    (s.statusTaken n r).esm = s.esm ∧ (s.statusTaken n r).ports = s.ports ∧ (s.statusTaken n r).smp = s.smp ∧
    (s.statusTaken n r).pending = s.pending := by
  unfold State.statusTaken; try dsimp only
  (repeat' split) <;> simp

@[simp] theorem State.verifyTaken_frame (k : SlotId) (o : Nat) (n : ConnId) (r : StatusReport) :
    (s.verifyTaken k o n r).now = s.now ∧ (s.verifyTaken k o n r).free = s.free ∧
    (s.verifyTaken k o n r).params = s.params ∧ (s.verifyTaken k o n r).classes = s.classes ∧
    (s.verifyTaken k o n r).tbs = s.tbs ∧ (s.verifyTaken k o n r).bpl = s.bpl ∧ (s.verifyTaken k o n r).esm = s.esm ∧
    (s.verifyTaken k o n r).ports = s.ports ∧ (s.verifyTaken k o n r).smp = s.smp ∧
    (s.verifyTaken k o n r).pending = s.pending := by
  unfold State.verifyTaken; try dsimp only
  (repeat' split) <;> simp

@[simp] theorem State.actuationOutcome_frame (n : ConnId) (k : SlotId) (w : Nat) (a : ActKind) (b i : Confirmed) (o : ActOutcome) :
    (s.actuationOutcome n k w a b i o).now = s.now ∧ (s.actuationOutcome n k w a b i o).free = s.free ∧
    (s.actuationOutcome n k w a b i o).params = s.params ∧ (s.actuationOutcome n k w a b i o).classes = s.classes ∧
    (s.actuationOutcome n k w a b i o).fmu = s.fmu ∧ (s.actuationOutcome n k w a b i o).tbs = s.tbs ∧
    (s.actuationOutcome n k w a b i o).bpl = s.bpl ∧ (s.actuationOutcome n k w a b i o).ports = s.ports ∧
    (s.actuationOutcome n k w a b i o).smp = s.smp ∧ (s.actuationOutcome n k w a b i o).pending = s.pending := by
  unfold State.actuationOutcome; try dsimp only
  (repeat' split) <;> simp

@[simp] theorem State.missTransaction_frame :
    (s.missTransaction).now = s.now ∧ (s.missTransaction).free = s.free ∧ (s.missTransaction).params = s.params ∧
    (s.missTransaction).classes = s.classes ∧ (s.missTransaction).fmu = s.fmu ∧ (s.missTransaction).tbs = s.tbs ∧
    (s.missTransaction).bpl = s.bpl ∧ (s.missTransaction).smp = s.smp ∧ (s.missTransaction).pending = s.pending := by
  unfold State.missTransaction; try dsimp only
  (repeat' split) <;> simp

@[simp] theorem State.takeReply_frame (t : Transaction) (m : List Byte) :
    (s.takeReply t m).now = s.now ∧ (s.takeReply t m).free = s.free ∧ (s.takeReply t m).params = s.params ∧
    (s.takeReply t m).classes = s.classes ∧ (s.takeReply t m).tbs = s.tbs ∧ (s.takeReply t m).bpl = s.bpl ∧
    (s.takeReply t m).smp = s.smp ∧ (s.takeReply t m).pending = s.pending := by
  unfold State.takeReply; try dsimp only
  (repeat' split) <;> simp

@[simp] theorem State.takeMessage_frame (m : Arrival) :
    (s.takeMessage m).now = s.now ∧ (s.takeMessage m).free = s.free ∧ (s.takeMessage m).params = s.params ∧
    (s.takeMessage m).classes = s.classes ∧ (s.takeMessage m).tbs = s.tbs ∧ (s.takeMessage m).bpl = s.bpl ∧
    (s.takeMessage m).smp = s.smp ∧ (s.takeMessage m).pending = s.pending := by
  unfold State.takeMessage; try dsimp only
  (repeat' split) <;> simp

@[simp] theorem State.noteFrameEnds_frame :
    (s.noteFrameEnds).now = s.now ∧ (s.noteFrameEnds).free = s.free ∧ (s.noteFrameEnds).params = s.params ∧
    (s.noteFrameEnds).classes = s.classes ∧ (s.noteFrameEnds).conns = s.conns ∧ (s.noteFrameEnds).fmu = s.fmu ∧
    (s.noteFrameEnds).tbs = s.tbs ∧ (s.noteFrameEnds).bpl = s.bpl ∧ (s.noteFrameEnds).mvq = s.mvq ∧
    (s.noteFrameEnds).sbc = s.sbc ∧ (s.noteFrameEnds).esm = s.esm ∧ (s.noteFrameEnds).ilu = s.ilu ∧
    (s.noteFrameEnds).mdc = s.mdc ∧ (s.noteFrameEnds).ports = s.ports ∧ (s.noteFrameEnds).evu = s.evu ∧
    (s.noteFrameEnds).smp = s.smp ∧ (s.noteFrameEnds).pending = s.pending := by
  simp [State.noteFrameEnds, allSlots, List.foldl]

@[simp] theorem State.openFrame_frame :
    (s.openFrame).now = s.now ∧ (s.openFrame).free = s.free ∧ (s.openFrame).params = s.params ∧
    (s.openFrame).classes = s.classes ∧ (s.openFrame).conns = s.conns ∧ (s.openFrame).fmu = s.fmu ∧
    (s.openFrame).tbs = s.tbs ∧ (s.openFrame).bpl = s.bpl ∧ (s.openFrame).mvq = s.mvq ∧ (s.openFrame).txe = s.txe ∧
    (s.openFrame).esm = s.esm ∧ (s.openFrame).ilu = s.ilu ∧ (s.openFrame).mdc = s.mdc ∧
    (s.openFrame).ports = s.ports ∧ (s.openFrame).evu = s.evu ∧ (s.openFrame).smp = s.smp ∧
    (s.openFrame).pending = s.pending := by
  simp [State.openFrame]

@[simp] theorem State.grant_frame (p : Presented) (sl : Slot) :
    (s.grant p sl).now = s.now ∧ (s.grant p sl).free = s.free ∧ (s.grant p sl).params = s.params ∧
    (s.grant p sl).classes = s.classes ∧ (s.grant p sl).conns = s.conns ∧ (s.grant p sl).tbs = s.tbs ∧
    (s.grant p sl).bpl = s.bpl ∧ (s.grant p sl).mvq = s.mvq ∧ (s.grant p sl).ilu = s.ilu ∧
    (s.grant p sl).mdc = s.mdc ∧ (s.grant p sl).ports = s.ports ∧ (s.grant p sl).evu = s.evu ∧
    (s.grant p sl).smp = s.smp ∧ (s.grant p sl).pending = s.pending := by
  simp [State.grant]

@[simp] theorem State.grantStep_frame :
    (s.grantStep).now = s.now ∧ (s.grantStep).free = s.free ∧ (s.grantStep).params = s.params ∧
    (s.grantStep).classes = s.classes ∧ (s.grantStep).conns = s.conns ∧ (s.grantStep).tbs = s.tbs ∧
    (s.grantStep).bpl = s.bpl ∧ (s.grantStep).mvq = s.mvq ∧ (s.grantStep).ilu = s.ilu ∧ (s.grantStep).mdc = s.mdc ∧
    (s.grantStep).ports = s.ports ∧ (s.grantStep).evu = s.evu ∧ (s.grantStep).smp = s.smp ∧
    (s.grantStep).pending = s.pending := by
  unfold State.grantStep; try dsimp only
  (repeat' split) <;> simp

@[simp] theorem State.frameBoundary_frame :
    (s.frameBoundary).now = s.now ∧ (s.frameBoundary).free = s.free ∧ (s.frameBoundary).params = s.params ∧
    (s.frameBoundary).classes = s.classes ∧ (s.frameBoundary).tbs = s.tbs ∧ (s.frameBoundary).bpl = s.bpl ∧
    (s.frameBoundary).smp = s.smp ∧ (s.frameBoundary).pending = s.pending := by
  simp [State.frameBoundary]

@[simp] theorem State.startTxn_frame (u v : Nat) (n : ConnId) (p : Purpose) (b : List Byte) :
    (s.startTxn u v n p b).now = s.now ∧ (s.startTxn u v n p b).free = s.free ∧
    (s.startTxn u v n p b).params = s.params ∧ (s.startTxn u v n p b).classes = s.classes ∧
    (s.startTxn u v n p b).conns = s.conns ∧ (s.startTxn u v n p b).fmu = s.fmu ∧
    (s.startTxn u v n p b).tbs = s.tbs ∧ (s.startTxn u v n p b).bpl = s.bpl ∧ (s.startTxn u v n p b).mvq = s.mvq ∧
    (s.startTxn u v n p b).txe = s.txe ∧ (s.startTxn u v n p b).esm = s.esm ∧ (s.startTxn u v n p b).ilu = s.ilu ∧
    (s.startTxn u v n p b).mdc = s.mdc ∧ (s.startTxn u v n p b).ports = s.ports ∧
    (s.startTxn u v n p b).evu = s.evu ∧ (s.startTxn u v n p b).smp = s.smp ∧
    (s.startTxn u v n p b).pending = s.pending := by
  simp [State.startTxn]

@[simp] theorem State.arbitrate_frame (u : Nat) :
    (s.arbitrate u).now = s.now ∧ (s.arbitrate u).free = s.free ∧ (s.arbitrate u).params = s.params ∧
    (s.arbitrate u).classes = s.classes ∧ (s.arbitrate u).conns = s.conns ∧ (s.arbitrate u).fmu = s.fmu ∧
    (s.arbitrate u).tbs = s.tbs ∧ (s.arbitrate u).bpl = s.bpl ∧ (s.arbitrate u).mvq = s.mvq ∧
    (s.arbitrate u).txe = s.txe ∧ (s.arbitrate u).esm = s.esm ∧ (s.arbitrate u).ilu = s.ilu ∧
    (s.arbitrate u).mdc = s.mdc ∧ (s.arbitrate u).ports = s.ports ∧ (s.arbitrate u).evu = s.evu ∧
    (s.arbitrate u).smp = s.smp ∧ (s.arbitrate u).pending = s.pending := by
  unfold State.arbitrate State.startVerify State.startQuery State.startProbe State.startSurvey
  (repeat' split) <;> simp

@[simp] theorem State.beginUnit_frame :
    (s.beginUnit).free = s.free ∧ (s.beginUnit).params = s.params ∧ (s.beginUnit).classes = s.classes ∧
    (s.beginUnit).fmu = s.fmu ∧ (s.beginUnit).tbs = s.tbs ∧ (s.beginUnit).bpl = s.bpl ∧ (s.beginUnit).smp = s.smp ∧
    (s.beginUnit).pending = s.pending := by
  unfold State.beginUnit; try dsimp only
  (repeat' split) <;> simp

@[simp] theorem State.acceptBatch_frame (l : List PlanEntry) :
    (s.acceptBatch l).now = s.now ∧ (s.acceptBatch l).free = s.free ∧ (s.acceptBatch l).params = s.params ∧
    (s.acceptBatch l).classes = s.classes ∧ (s.acceptBatch l).fmu = s.fmu ∧ (s.acceptBatch l).tbs = s.tbs ∧
    (s.acceptBatch l).bpl = s.bpl ∧ (s.acceptBatch l).txe = s.txe ∧ (s.acceptBatch l).sbc = s.sbc ∧
    (s.acceptBatch l).esm = s.esm ∧ (s.acceptBatch l).ilu = s.ilu ∧ (s.acceptBatch l).mdc = s.mdc ∧
    (s.acceptBatch l).ports = s.ports ∧ (s.acceptBatch l).evu = s.evu ∧ (s.acceptBatch l).smp = s.smp ∧
    (s.acceptBatch l).pending = s.pending := by
  unfold State.acceptBatch
  refine ⟨?_, ?_, ?_, ?_, ?_, ?_, ?_, ?_, ?_, ?_, ?_, ?_, ?_, ?_, ?_, ?_⟩ <;> exact foldl_keeps _ _ (by intros; simp) _ _

@[simp] theorem State.planOn_frame (e : Word) (w : PerPhase Int) :
    (s.planOn e w).now = s.now ∧ (s.planOn e w).free = s.free ∧ (s.planOn e w).params = s.params ∧
    (s.planOn e w).classes = s.classes ∧ (s.planOn e w).fmu = s.fmu ∧ (s.planOn e w).tbs = s.tbs ∧
    (s.planOn e w).txe = s.txe ∧ (s.planOn e w).sbc = s.sbc ∧ (s.planOn e w).esm = s.esm ∧
    (s.planOn e w).ilu = s.ilu ∧ (s.planOn e w).mdc = s.mdc ∧ (s.planOn e w).ports = s.ports ∧
    (s.planOn e w).smp = s.smp ∧ (s.planOn e w).pending = s.pending := by
  unfold State.planOn; try dsimp only
  (repeat' split) <;> simp

@[simp] theorem State.plannerRun_frame (e : Word) (d : Bool) :
    (s.plannerRun e d).now = s.now ∧ (s.plannerRun e d).free = s.free ∧ (s.plannerRun e d).params = s.params ∧
    (s.plannerRun e d).classes = s.classes ∧ (s.plannerRun e d).fmu = s.fmu ∧ (s.plannerRun e d).tbs = s.tbs ∧
    (s.plannerRun e d).txe = s.txe ∧ (s.plannerRun e d).sbc = s.sbc ∧ (s.plannerRun e d).esm = s.esm ∧
    (s.plannerRun e d).ilu = s.ilu ∧ (s.plannerRun e d).mdc = s.mdc ∧ (s.plannerRun e d).ports = s.ports ∧
    (s.plannerRun e d).smp = s.smp ∧ (s.plannerRun e d).pending = s.pending := by
  unfold State.plannerRun; try dsimp only
  (repeat' split) <;> simp

end Sys2Proof.Machine
end

