-- ==== Sys2Proof/Laws/Access.lean ====
section
/-! SUPPORT. Reading back what a write left: containers, records, slots, channels, inputs, ports; and what `settle` does. -/

namespace Sys2Proof.Machine

open Sys2Proof

variable (s : State)

/-! ### Containers -/

@[simp] theorem PerPhase.get_set_same {α : Type} (t : PerPhase α) (p : Phase) (x : α) : (t.set p x).get p = x := by
  cases p <;> rfl

theorem PerPhase.get_set_ne {α : Type} (t : PerPhase α) {p q : Phase} (x : α) (h : q ≠ p) :
    (t.set p x).get q = t.get q := by
  cases p <;> cases q <;> first | rfl | exact absurd rfl h

@[simp] theorem PerPhase.get_map {α β : Type} (t : PerPhase α) (f : α → β) (p : Phase) :
    (t.map f).get p = f (t.get p) := by
  cases p <;> rfl

@[simp] theorem PerLink.get_set_same {α : Type} (t : PerLink α) (lk : Link) (x : α) : (t.set lk x).get lk = x := by
  cases lk <;> rfl

theorem PerLink.get_set_ne {α : Type} (t : PerLink α) {lk l : Link} (x : α) (h : l ≠ lk) :
    (t.set lk x).get l = t.get l := by
  cases lk <;> cases l <;> first | rfl | exact absurd rfl h

@[simp] theorem PerLink.set_set {α : Type} (t : PerLink α) (lk : Link) (x y : α) : (t.set lk x).set lk y = t.set lk y := by
  cases lk <;> rfl

@[simp] theorem PerLink.set_get {α : Type} (t : PerLink α) (lk : Link) : t.set lk (t.get lk) = t := by
  cases lk <;> rfl

@[simp] theorem inputOf_withInput_same {α : Type} (t : PerInput α) (i : InputLine) (x : α) :
    inputOf (withInput t i x) i = x := by
  cases i <;> rfl

theorem inputOf_withInput_ne {α : Type} (t : PerInput α) {i j : InputLine} (x : α) (h : j ≠ i) :
    inputOf (withInput t i x) j = inputOf t j := by
  cases i <;> cases j <;> first | rfl | exact absurd rfl h

@[simp] theorem getElem_mapAll {α β : Type} {n : Nat} (f : α → β) (v : Vector α n) (i : Nat) (h : i < n) :
    (mapAll f v)[i] = f v[i] := by
  simp [mapAll, Vector.getElem_mk]

/-! ### Records -/

@[simp] theorem State.conn_setConn_same (n : ConnId) (c : Conn) : (s.setConn n c).conn n = c := by
  simp [State.conn, State.setConn]

theorem State.conn_setConn_ne {n m : ConnId} (c : Conn) (h : m ≠ n) : (s.setConn n c).conn m = s.conn m := by
  have h' : n.val ≠ m.val := fun e => h (Fin.ext e.symm)
  simp [State.conn, State.setConn, h']

/-- A record after a write to a record, whichever it is. -/
theorem State.conn_setConn (n m : ConnId) (c : Conn) : (s.setConn n c).conn m = if m = n then c else s.conn m := by
  split
  · subst m; simp
  · exact s.conn_setConn_ne c ‹_›

@[simp] theorem State.setConn_setConn (n : ConnId) (c d : Conn) : (s.setConn n c).setConn n d = s.setConn n d := by
  simp [State.setConn]

@[simp] theorem State.setConn_conn (n : ConnId) : s.setConn n (s.conn n) = s := by
  simp [State.setConn, State.conn]

/-! ### Slots -/

@[simp] theorem State.slot_setSlot_same (k : SlotId) (x : Option Slot) : (s.setSlot k x).slot k = x := by
  simp [State.slot, State.setSlot]

theorem State.slot_setSlot_ne {k j : SlotId} (x : Option Slot) (h : j ≠ k) : (s.setSlot k x).slot j = s.slot j := by
  have h' : k.val ≠ j.val := fun e => h (Fin.ext e.symm)
  simp [State.slot, State.setSlot, h']

/-- A slot after a write to a slot, whichever it is. -/
theorem State.slot_setSlot (k j : SlotId) (x : Option Slot) :
    (s.setSlot k x).slot j = if j = k then x else s.slot j := by
  split
  · subst j; simp
  · exact s.slot_setSlot_ne x ‹_›

@[simp] theorem State.setSlot_setSlot (k : SlotId) (x y : Option Slot) : (s.setSlot k x).setSlot k y = s.setSlot k y := by
  simp [State.setSlot]

/-! ### Channels, inputs, ports -/

@[simp] theorem State.chan_setChan_same (p : Phase) (c : PhaseChannel) : (s.setChan p c).chan p = c := by
  simp [State.chan]

theorem State.chan_setChan_ne {p q : Phase} (c : PhaseChannel) (h : q ≠ p) : (s.setChan p c).chan q = s.chan q := by
  simp [State.chan, PerPhase.get_set_ne _ _ h]

@[simp] theorem State.input_setInput_same (i : InputLine) (r : InputRec) : (s.setInput i r).input i = r := by
  simp [State.input]

theorem State.input_setInput_ne {i j : InputLine} (r : InputRec) (h : j ≠ i) :
    (s.setInput i r).input j = s.input j := by
  simp [State.input, inputOf_withInput_ne _ _ h]

@[simp] theorem State.port_setPort_same (lk : Link) (p : Port) : (s.setPort lk p).port lk = p := by
  simp [State.port]

theorem State.port_setPort_ne {lk l : Link} (p : Port) (h : l ≠ lk) : (s.setPort lk p).port l = s.port l := by
  simp [State.port, PerLink.get_set_ne _ _ h]

@[simp] theorem State.setPort_setPort (lk : Link) (p q : Port) : (s.setPort lk p).setPort lk q = s.setPort lk q := by
  simp [State.setPort]

@[simp] theorem State.setPort_port (lk : Link) : s.setPort lk (s.port lk) = s := by
  simp [State.setPort, State.port]

/-! ### What `settle` does -/

/-- Settling leaves the edge statuses and makes the condition statuses what the conditions give (R191). -/
@[simp] theorem State.settle_statuses : s.settle.evu.statuses = s.statusesNow := rfl

@[simp] theorem State.settle_alert : s.settle.evu.alert = outputOf s.statusesNow s.params.alertMask := rfl

@[simp] theorem State.settle_lamp : s.settle.evu.lamp = outputOf s.statusesNow s.params.lampMask := rfl

@[simp] theorem State.settle_latched : s.settle.smp.latched = s.smp.latched := rfl

@[simp] theorem State.settle_bit : s.settle.smp.bit = s.smp.bit := rfl

@[simp] theorem State.settle_selectLow : s.settle.smp.selectLow = s.smp.selectLow := rfl

@[simp] theorem State.settle_figures : s.settle.figures = s.figures := rfl

@[simp] theorem State.settle_published : s.settle.smp.published = renewed s.smp.published s.figures := rfl

@[simp] theorem State.settle_conditionBits : s.settle.conditionBits = s.conditionBits := rfl

/-- A record equal in its figures is not renewed; any other takes the new figures (R194). -/
theorem renewed_figures (p : Published) (f : Figures) : (renewed p f).figures = f := by
  unfold renewed; split <;> simp_all

end Sys2Proof.Machine
end

