-- ==== Sys2Proof/Laws/Admission.lean ====
section
/-! SUPPORT. What one admission can do (R78 to R80): nothing without its conditions, and otherwise one examined head after
another. -/

namespace Sys2Proof.Machine

open Sys2Proof

variable (s : State)

/-- An admission keeps whatever the examination of one head keeps. -/
theorem State.takeAdmission_keeps (P : State → Prop)
    (step : ∀ t k r rs, P t → t.movesAllowed = true → t.freeSlot = some k → t.mvq.queue = r :: rs →
      P (t.examineHead k r)) (h : P s) : P s.takeAdmission := by
  unfold State.takeAdmission
  generalize s.mvq.queue.length = fuel
  induction fuel generalizing s with
  | zero => exact h
  | succ n ih =>
    unfold State.examineHeads
    split
    · split
      · next allowed _ _ k r rs slot queue => exact ih _ (step _ _ _ _ h allowed slot queue)
      · exact h
    · exact h

theorem State.takeAdmission_of_not_allowed (h : s.movesAllowed = false) : s.takeAdmission = s := by
  unfold State.takeAdmission
  cases s.mvq.queue.length <;> simp [State.examineHeads, h]

theorem State.takeAdmission_of_queue_nil (h : s.mvq.queue = []) : s.takeAdmission = s := by
  simp [State.takeAdmission, h, State.examineHeads]

theorem State.takeAdmission_of_no_slot (h : s.freeSlot = none) : s.takeAdmission = s := by
  unfold State.takeAdmission
  cases s.mvq.queue.length <;> simp [State.examineHeads, h]

end Sys2Proof.Machine
end

