-- ==== Sys2Proof/Laws/Feeder.lean ====
section
/-! SUPPORT. What rescue passes, measurement and the time base leave unchanged. -/

namespace Sys2Proof.Machine

open Sys2Proof

variable (s : State)

@[simp] theorem Pass.place_frame (a : Pass) (n : ConnId) (x y : Phase) (l : Int) :
    (a.place n x y l).state.now = a.state.now ∧ (a.place n x y l).state.free = a.state.free ∧
    (a.place n x y l).state.params = a.state.params ∧ (a.place n x y l).state.classes = a.state.classes ∧
    (a.place n x y l).state.fmu = a.state.fmu ∧ (a.place n x y l).state.tbs = a.state.tbs ∧
    (a.place n x y l).state.bpl = a.state.bpl ∧ (a.place n x y l).state.txe = a.state.txe ∧
    (a.place n x y l).state.sbc = a.state.sbc ∧ (a.place n x y l).state.esm = a.state.esm ∧
    (a.place n x y l).state.ilu = a.state.ilu ∧ (a.place n x y l).state.mdc = a.state.mdc ∧
    (a.place n x y l).state.ports = a.state.ports ∧ (a.place n x y l).state.smp = a.state.smp ∧
    (a.place n x y l).state.pending = a.state.pending := by
  unfold Pass.place; split <;> simp

@[simp] theorem Pass.examine_frame (a : Pass) (n : ConnId) :
    (a.examine n).state.now = a.state.now ∧ (a.examine n).state.free = a.state.free ∧
    (a.examine n).state.params = a.state.params ∧ (a.examine n).state.classes = a.state.classes ∧
    (a.examine n).state.fmu = a.state.fmu ∧ (a.examine n).state.tbs = a.state.tbs ∧
    (a.examine n).state.bpl = a.state.bpl ∧ (a.examine n).state.txe = a.state.txe ∧
    (a.examine n).state.sbc = a.state.sbc ∧ (a.examine n).state.esm = a.state.esm ∧
    (a.examine n).state.ilu = a.state.ilu ∧ (a.examine n).state.mdc = a.state.mdc ∧
    (a.examine n).state.ports = a.state.ports ∧ (a.examine n).state.smp = a.state.smp ∧
    (a.examine n).state.pending = a.state.pending := by
  unfold Pass.examine; dsimp only
  (repeat' split) <;> simp

@[simp] theorem Pass.examineAll_frame (l : List ConnId) (a : Pass) :
    (l.foldl Pass.examine a).state.now = a.state.now ∧ (l.foldl Pass.examine a).state.free = a.state.free ∧
    (l.foldl Pass.examine a).state.params = a.state.params ∧
    (l.foldl Pass.examine a).state.classes = a.state.classes ∧ (l.foldl Pass.examine a).state.fmu = a.state.fmu ∧
    (l.foldl Pass.examine a).state.tbs = a.state.tbs ∧ (l.foldl Pass.examine a).state.bpl = a.state.bpl ∧
    (l.foldl Pass.examine a).state.txe = a.state.txe ∧ (l.foldl Pass.examine a).state.sbc = a.state.sbc ∧
    (l.foldl Pass.examine a).state.esm = a.state.esm ∧ (l.foldl Pass.examine a).state.ilu = a.state.ilu ∧
    (l.foldl Pass.examine a).state.mdc = a.state.mdc ∧ (l.foldl Pass.examine a).state.ports = a.state.ports ∧
    (l.foldl Pass.examine a).state.smp = a.state.smp ∧ (l.foldl Pass.examine a).state.pending = a.state.pending := by
  induction l generalizing a with
  | nil => simp
  | cons n l ih => rw [List.foldl_cons]; simp [ih]

@[simp] theorem State.rescuePass_frame (cause : RescueCause) :
    (s.rescuePass cause).now = s.now ∧ (s.rescuePass cause).free = s.free ∧ (s.rescuePass cause).params = s.params ∧
    (s.rescuePass cause).classes = s.classes ∧ (s.rescuePass cause).fmu = s.fmu ∧ (s.rescuePass cause).tbs = s.tbs ∧
    (s.rescuePass cause).txe = s.txe ∧ (s.rescuePass cause).sbc = s.sbc ∧ (s.rescuePass cause).esm = s.esm ∧
    (s.rescuePass cause).ilu = s.ilu ∧ (s.rescuePass cause).mdc = s.mdc ∧ (s.rescuePass cause).ports = s.ports ∧
    (s.rescuePass cause).smp = s.smp ∧ (s.rescuePass cause).pending = s.pending := by
  unfold State.rescuePass; try dsimp only
  (repeat' split) <;> simp

@[simp] theorem State.epochRescue_frame :
    (s.epochRescue).now = s.now ∧ (s.epochRescue).free = s.free ∧ (s.epochRescue).params = s.params ∧
    (s.epochRescue).classes = s.classes ∧ (s.epochRescue).fmu = s.fmu ∧ (s.epochRescue).tbs = s.tbs ∧
    (s.epochRescue).txe = s.txe ∧ (s.epochRescue).sbc = s.sbc ∧ (s.epochRescue).esm = s.esm ∧
    (s.epochRescue).ilu = s.ilu ∧ (s.epochRescue).mdc = s.mdc ∧ (s.epochRescue).ports = s.ports ∧
    (s.epochRescue).smp = s.smp ∧ (s.epochRescue).pending = s.pending := by
  unfold State.epochRescue; try dsimp only
  (repeat' split) <;> simp

@[simp] theorem State.signalEnd_frame (e : Word) (d : Bool) (x : ExpiryPlace) :
    (s.signalEnd e d x).now = s.now ∧ (s.signalEnd e d x).free = s.free ∧ (s.signalEnd e d x).params = s.params ∧
    (s.signalEnd e d x).classes = s.classes ∧ (s.signalEnd e d x).fmu = s.fmu ∧ (s.signalEnd e d x).tbs = s.tbs ∧
    (s.signalEnd e d x).txe = s.txe ∧ (s.signalEnd e d x).sbc = s.sbc ∧ (s.signalEnd e d x).esm = s.esm ∧
    (s.signalEnd e d x).ilu = s.ilu ∧ (s.signalEnd e d x).mdc = s.mdc ∧ (s.signalEnd e d x).ports = s.ports ∧
    (s.signalEnd e d x).smp = s.smp ∧ (s.signalEnd e d x).pending = s.pending := by
  unfold State.signalEnd; split <;> simp

@[simp] theorem State.reportLoss_frame :
    (s.reportLoss).now = s.now ∧ (s.reportLoss).free = s.free ∧ (s.reportLoss).params = s.params ∧
    (s.reportLoss).classes = s.classes ∧ (s.reportLoss).fmu = s.fmu ∧ (s.reportLoss).tbs = s.tbs ∧
    (s.reportLoss).txe = s.txe ∧ (s.reportLoss).sbc = s.sbc ∧ (s.reportLoss).esm = s.esm ∧
    (s.reportLoss).ilu = s.ilu ∧ (s.reportLoss).mdc = s.mdc ∧ (s.reportLoss).ports = s.ports ∧
    (s.reportLoss).smp = s.smp ∧ (s.reportLoss).pending = s.pending := by
  unfold State.reportLoss; try dsimp only
  (repeat' split) <;> simp

@[simp] theorem State.enteredHealthy_frame (p : Phase) :
    (s.enteredHealthy p).now = s.now ∧ (s.enteredHealthy p).free = s.free ∧ (s.enteredHealthy p).params = s.params ∧
    (s.enteredHealthy p).classes = s.classes ∧ (s.enteredHealthy p).conns = s.conns ∧
    (s.enteredHealthy p).tbs = s.tbs ∧ (s.enteredHealthy p).bpl = s.bpl ∧ (s.enteredHealthy p).mvq = s.mvq ∧
    (s.enteredHealthy p).txe = s.txe ∧ (s.enteredHealthy p).sbc = s.sbc ∧ (s.enteredHealthy p).esm = s.esm ∧
    (s.enteredHealthy p).ilu = s.ilu ∧ (s.enteredHealthy p).mdc = s.mdc ∧ (s.enteredHealthy p).ports = s.ports ∧
    (s.enteredHealthy p).smp = s.smp ∧ (s.enteredHealthy p).pending = s.pending := by
  unfold State.enteredHealthy; try dsimp only
  (repeat' split) <;> simp

@[simp] theorem State.realign_frame :
    (s.realign).now = s.now ∧ (s.realign).free = s.free ∧ (s.realign).params = s.params ∧
    (s.realign).classes = s.classes ∧ (s.realign).conns = s.conns ∧ (s.realign).tbs = s.tbs ∧
    (s.realign).bpl = s.bpl ∧ (s.realign).mvq = s.mvq ∧ (s.realign).txe = s.txe ∧ (s.realign).esm = s.esm ∧
    (s.realign).ilu = s.ilu ∧ (s.realign).mdc = s.mdc ∧ (s.realign).ports = s.ports ∧ (s.realign).evu = s.evu ∧
    (s.realign).smp = s.smp ∧ (s.realign).pending = s.pending := by
  unfold State.realign; try dsimp only
  (repeat' split) <;> simp

@[simp] theorem State.healthChanged_frame (p : Phase) (old : Health) :
    (s.healthChanged p old).now = s.now ∧ (s.healthChanged p old).free = s.free ∧
    (s.healthChanged p old).params = s.params ∧ (s.healthChanged p old).classes = s.classes ∧
    (s.healthChanged p old).tbs = s.tbs ∧ (s.healthChanged p old).esm = s.esm ∧ (s.healthChanged p old).ilu = s.ilu ∧
    (s.healthChanged p old).mdc = s.mdc ∧ (s.healthChanged p old).ports = s.ports ∧
    (s.healthChanged p old).smp = s.smp ∧ (s.healthChanged p old).pending = s.pending := by
  unfold State.healthChanged; try dsimp only
  (repeat' split) <;> simp

@[simp] theorem State.completeCycle_frame (p : Phase) (x : Sums) :
    (s.completeCycle p x).now = s.now ∧ (s.completeCycle p x).free = s.free ∧
    (s.completeCycle p x).params = s.params ∧ (s.completeCycle p x).classes = s.classes ∧
    (s.completeCycle p x).tbs = s.tbs ∧ (s.completeCycle p x).esm = s.esm ∧ (s.completeCycle p x).ilu = s.ilu ∧
    (s.completeCycle p x).mdc = s.mdc ∧ (s.completeCycle p x).ports = s.ports ∧ (s.completeCycle p x).smp = s.smp ∧
    (s.completeCycle p x).pending = s.pending := by
  simp [State.completeCycle]

@[simp] theorem State.closeNeutralWindow_frame (p : Phase) (c : Option OpenCycle) :
    (s.closeNeutralWindow p c).now = s.now ∧ (s.closeNeutralWindow p c).free = s.free ∧
    (s.closeNeutralWindow p c).params = s.params ∧ (s.closeNeutralWindow p c).classes = s.classes ∧
    (s.closeNeutralWindow p c).conns = s.conns ∧ (s.closeNeutralWindow p c).tbs = s.tbs ∧
    (s.closeNeutralWindow p c).bpl = s.bpl ∧ (s.closeNeutralWindow p c).mvq = s.mvq ∧
    (s.closeNeutralWindow p c).txe = s.txe ∧ (s.closeNeutralWindow p c).sbc = s.sbc ∧
    (s.closeNeutralWindow p c).esm = s.esm ∧ (s.closeNeutralWindow p c).ilu = s.ilu ∧
    (s.closeNeutralWindow p c).mdc = s.mdc ∧ (s.closeNeutralWindow p c).ports = s.ports ∧
    (s.closeNeutralWindow p c).evu = s.evu ∧ (s.closeNeutralWindow p c).smp = s.smp ∧
    (s.closeNeutralWindow p c).pending = s.pending := by
  unfold State.closeNeutralWindow; try dsimp only
  (repeat' split) <;> simp

@[simp] theorem State.openNeutralWindow_frame (p : Phase) (x : Nat) :
    (s.openNeutralWindow p x).now = s.now ∧ (s.openNeutralWindow p x).free = s.free ∧
    (s.openNeutralWindow p x).params = s.params ∧ (s.openNeutralWindow p x).classes = s.classes ∧
    (s.openNeutralWindow p x).conns = s.conns ∧ (s.openNeutralWindow p x).tbs = s.tbs ∧
    (s.openNeutralWindow p x).bpl = s.bpl ∧ (s.openNeutralWindow p x).mvq = s.mvq ∧
    (s.openNeutralWindow p x).txe = s.txe ∧ (s.openNeutralWindow p x).sbc = s.sbc ∧
    (s.openNeutralWindow p x).esm = s.esm ∧ (s.openNeutralWindow p x).ilu = s.ilu ∧
    (s.openNeutralWindow p x).mdc = s.mdc ∧ (s.openNeutralWindow p x).ports = s.ports ∧
    (s.openNeutralWindow p x).evu = s.evu ∧ (s.openNeutralWindow p x).smp = s.smp ∧
    (s.openNeutralWindow p x).pending = s.pending := by
  unfold State.openNeutralWindow State.setNeutral; split <;> simp

@[simp] theorem State.reportCrossing_frame (p : Phase) :
    (s.reportCrossing p).now = s.now ∧ (s.reportCrossing p).free = s.free ∧ (s.reportCrossing p).params = s.params ∧
    (s.reportCrossing p).classes = s.classes ∧ (s.reportCrossing p).conns = s.conns ∧
    (s.reportCrossing p).fmu = s.fmu ∧ (s.reportCrossing p).tbs = s.tbs ∧ (s.reportCrossing p).bpl = s.bpl ∧
    (s.reportCrossing p).mvq = s.mvq ∧ (s.reportCrossing p).txe = s.txe ∧ (s.reportCrossing p).esm = s.esm ∧
    (s.reportCrossing p).ilu = s.ilu ∧ (s.reportCrossing p).mdc = s.mdc ∧ (s.reportCrossing p).ports = s.ports ∧
    (s.reportCrossing p).evu = s.evu ∧ (s.reportCrossing p).smp = s.smp ∧
    (s.reportCrossing p).pending = s.pending := by
  unfold State.reportCrossing; try dsimp only
  (repeat' split) <;> simp

@[simp] theorem State.positiveCrossing_frame (p : Phase) (x : Nat) (y : Sums) :
    (s.positiveCrossing p x y).now = s.now ∧ (s.positiveCrossing p x y).free = s.free ∧
    (s.positiveCrossing p x y).params = s.params ∧ (s.positiveCrossing p x y).classes = s.classes ∧
    (s.positiveCrossing p x y).tbs = s.tbs ∧ (s.positiveCrossing p x y).esm = s.esm ∧
    (s.positiveCrossing p x y).ilu = s.ilu ∧ (s.positiveCrossing p x y).mdc = s.mdc ∧
    (s.positiveCrossing p x y).ports = s.ports ∧ (s.positiveCrossing p x y).smp = s.smp ∧
    (s.positiveCrossing p x y).pending = s.pending := by
  unfold State.positiveCrossing; try dsimp only
  (repeat' split) <;> simp

@[simp] theorem State.takeSample_frame (p : Phase) (v i : Int) :
    (s.takeSample p v i).free = s.free ∧ (s.takeSample p v i).params = s.params ∧
    (s.takeSample p v i).classes = s.classes ∧ (s.takeSample p v i).tbs = s.tbs ∧ (s.takeSample p v i).esm = s.esm ∧
    (s.takeSample p v i).ilu = s.ilu ∧ (s.takeSample p v i).mdc = s.mdc ∧ (s.takeSample p v i).ports = s.ports ∧
    (s.takeSample p v i).smp = s.smp ∧ (s.takeSample p v i).pending = s.pending := by
  unfold State.takeSample; try dsimp only
  (repeat' split) <;> simp

@[simp] theorem State.takeWindow_frame :
    (s.takeWindow).free = s.free ∧ (s.takeWindow).params = s.params ∧ (s.takeWindow).classes = s.classes ∧
    (s.takeWindow).conns = s.conns ∧ (s.takeWindow).tbs = s.tbs ∧ (s.takeWindow).bpl = s.bpl ∧
    (s.takeWindow).mvq = s.mvq ∧ (s.takeWindow).txe = s.txe ∧ (s.takeWindow).sbc = s.sbc ∧
    (s.takeWindow).esm = s.esm ∧ (s.takeWindow).ilu = s.ilu ∧ (s.takeWindow).mdc = s.mdc ∧
    (s.takeWindow).ports = s.ports ∧ (s.takeWindow).evu = s.evu ∧ (s.takeWindow).smp = s.smp ∧
    (s.takeWindow).pending = s.pending := by
  unfold State.takeWindow; try dsimp only
  (repeat' split) <;> simp

@[simp] theorem State.neutralWindow_frame (x : Nat) :
    (s.neutralWindow x).now = s.now ∧ (s.neutralWindow x).free = s.free ∧ (s.neutralWindow x).params = s.params ∧
    (s.neutralWindow x).classes = s.classes ∧ (s.neutralWindow x).tbs = s.tbs ∧ (s.neutralWindow x).esm = s.esm ∧
    (s.neutralWindow x).ports = s.ports ∧ (s.neutralWindow x).smp = s.smp ∧
    (s.neutralWindow x).pending = s.pending := by
  unfold State.neutralWindow; try dsimp only
  (repeat' split) <;> simp

@[simp] theorem State.writeNominal_frame (x : Nominal) :
    (s.writeNominal x).now = s.now ∧ (s.writeNominal x).free = s.free ∧ (s.writeNominal x).classes = s.classes ∧
    (s.writeNominal x).conns = s.conns ∧ (s.writeNominal x).tbs = s.tbs ∧ (s.writeNominal x).bpl = s.bpl ∧
    (s.writeNominal x).mvq = s.mvq ∧ (s.writeNominal x).txe = s.txe ∧ (s.writeNominal x).sbc = s.sbc ∧
    (s.writeNominal x).esm = s.esm ∧ (s.writeNominal x).ilu = s.ilu ∧ (s.writeNominal x).mdc = s.mdc ∧
    (s.writeNominal x).ports = s.ports ∧ (s.writeNominal x).evu = s.evu ∧ (s.writeNominal x).smp = s.smp ∧
    (s.writeNominal x).pending = s.pending := by
  simp [State.writeNominal]

@[simp] theorem State.closeAverages_frame :
    (s.closeAverages).now = s.now ∧ (s.closeAverages).free = s.free ∧ (s.closeAverages).params = s.params ∧
    (s.closeAverages).classes = s.classes ∧ (s.closeAverages).conns = s.conns ∧ (s.closeAverages).tbs = s.tbs ∧
    (s.closeAverages).bpl = s.bpl ∧ (s.closeAverages).mvq = s.mvq ∧ (s.closeAverages).txe = s.txe ∧
    (s.closeAverages).sbc = s.sbc ∧ (s.closeAverages).esm = s.esm ∧ (s.closeAverages).ilu = s.ilu ∧
    (s.closeAverages).mdc = s.mdc ∧ (s.closeAverages).ports = s.ports ∧ (s.closeAverages).evu = s.evu ∧
    (s.closeAverages).smp = s.smp ∧ (s.closeAverages).pending = s.pending := by
  simp [State.closeAverages, State.clearAccumulators]

@[simp] theorem State.closeLoads_frame :
    (s.closeLoads).now = s.now ∧ (s.closeLoads).free = s.free ∧ (s.closeLoads).params = s.params ∧
    (s.closeLoads).classes = s.classes ∧ (s.closeLoads).fmu = s.fmu ∧ (s.closeLoads).tbs = s.tbs ∧
    (s.closeLoads).bpl = s.bpl ∧ (s.closeLoads).mvq = s.mvq ∧ (s.closeLoads).txe = s.txe ∧
    (s.closeLoads).sbc = s.sbc ∧ (s.closeLoads).esm = s.esm ∧ (s.closeLoads).ilu = s.ilu ∧
    (s.closeLoads).mdc = s.mdc ∧ (s.closeLoads).ports = s.ports ∧ (s.closeLoads).evu = s.evu ∧
    (s.closeLoads).smp = s.smp ∧ (s.closeLoads).pending = s.pending := by
  simp [State.closeLoads]

@[simp] theorem State.advanceEpoch_frame :
    (s.advanceEpoch).now = s.now ∧ (s.advanceEpoch).free = s.free ∧ (s.advanceEpoch).params = s.params ∧
    (s.advanceEpoch).classes = s.classes ∧ (s.advanceEpoch).conns = s.conns ∧ (s.advanceEpoch).fmu = s.fmu ∧
    (s.advanceEpoch).bpl = s.bpl ∧ (s.advanceEpoch).mvq = s.mvq ∧ (s.advanceEpoch).txe = s.txe ∧
    (s.advanceEpoch).sbc = s.sbc ∧ (s.advanceEpoch).esm = s.esm ∧ (s.advanceEpoch).ilu = s.ilu ∧
    (s.advanceEpoch).mdc = s.mdc ∧ (s.advanceEpoch).ports = s.ports ∧ (s.advanceEpoch).evu = s.evu ∧
    (s.advanceEpoch).smp = s.smp ∧ (s.advanceEpoch).pending = s.pending := by
  simp [State.advanceEpoch]

@[simp] theorem State.endEpoch_frame :
    (s.endEpoch).now = s.now ∧ (s.endEpoch).params = s.params ∧ (s.endEpoch).classes = s.classes ∧
    (s.endEpoch).txe = s.txe ∧ (s.endEpoch).sbc = s.sbc ∧ (s.endEpoch).esm = s.esm ∧ (s.endEpoch).ilu = s.ilu ∧
    (s.endEpoch).mdc = s.mdc ∧ (s.endEpoch).ports = s.ports ∧ (s.endEpoch).smp = s.smp ∧
    (s.endEpoch).pending = s.pending := by
  simp [State.endEpoch]

@[simp] theorem State.takeOwedEnd_frame :
    (s.takeOwedEnd).now = s.now ∧ (s.takeOwedEnd).params = s.params ∧ (s.takeOwedEnd).classes = s.classes ∧
    (s.takeOwedEnd).txe = s.txe ∧ (s.takeOwedEnd).sbc = s.sbc ∧ (s.takeOwedEnd).esm = s.esm ∧
    (s.takeOwedEnd).ilu = s.ilu ∧ (s.takeOwedEnd).mdc = s.mdc ∧ (s.takeOwedEnd).ports = s.ports ∧
    (s.takeOwedEnd).smp = s.smp ∧ (s.takeOwedEnd).pending = s.pending := by
  unfold State.takeOwedEnd; try dsimp only
  (repeat' split) <;> simp

@[simp] theorem State.rollDay_frame :
    (s.rollDay).now = s.now ∧ (s.rollDay).free = s.free ∧ (s.rollDay).params = s.params ∧
    (s.rollDay).classes = s.classes ∧ (s.rollDay).fmu = s.fmu ∧ (s.rollDay).bpl = s.bpl ∧ (s.rollDay).mvq = s.mvq ∧
    (s.rollDay).txe = s.txe ∧ (s.rollDay).sbc = s.sbc ∧ (s.rollDay).esm = s.esm ∧ (s.rollDay).ilu = s.ilu ∧
    (s.rollDay).mdc = s.mdc ∧ (s.rollDay).ports = s.ports ∧ (s.rollDay).smp = s.smp ∧
    (s.rollDay).pending = s.pending := by
  simp [State.rollDay]

@[simp] theorem State.nextSecond_frame :
    (s.nextSecond).now = s.now ∧ (s.nextSecond).free = s.free ∧ (s.nextSecond).params = s.params ∧
    (s.nextSecond).classes = s.classes ∧ (s.nextSecond).fmu = s.fmu ∧ (s.nextSecond).bpl = s.bpl ∧
    (s.nextSecond).mvq = s.mvq ∧ (s.nextSecond).txe = s.txe ∧ (s.nextSecond).sbc = s.sbc ∧
    (s.nextSecond).esm = s.esm ∧ (s.nextSecond).ilu = s.ilu ∧ (s.nextSecond).mdc = s.mdc ∧
    (s.nextSecond).ports = s.ports ∧ (s.nextSecond).smp = s.smp ∧ (s.nextSecond).pending = s.pending := by
  unfold State.nextSecond; try dsimp only
  (repeat' split) <;> simp

@[simp] theorem State.markEnd_frame :
    (s.markEnd).now = s.now ∧ (s.markEnd).free = s.free ∧ (s.markEnd).params = s.params ∧
    (s.markEnd).classes = s.classes ∧ (s.markEnd).conns = s.conns ∧ (s.markEnd).fmu = s.fmu ∧
    (s.markEnd).bpl = s.bpl ∧ (s.markEnd).mvq = s.mvq ∧ (s.markEnd).txe = s.txe ∧ (s.markEnd).sbc = s.sbc ∧
    (s.markEnd).esm = s.esm ∧ (s.markEnd).ilu = s.ilu ∧ (s.markEnd).mdc = s.mdc ∧ (s.markEnd).ports = s.ports ∧
    (s.markEnd).evu = s.evu ∧ (s.markEnd).smp = s.smp ∧ (s.markEnd).pending = s.pending := by
  unfold State.markEnd; try dsimp only
  (repeat' split) <;> simp

@[simp] theorem State.tick_frame :
    (s.tick).params = s.params ∧ (s.tick).classes = s.classes ∧ (s.tick).txe = s.txe ∧ (s.tick).sbc = s.sbc ∧
    (s.tick).esm = s.esm ∧ (s.tick).ilu = s.ilu ∧ (s.tick).mdc = s.mdc ∧ (s.tick).ports = s.ports ∧
    (s.tick).smp = s.smp ∧ (s.tick).pending = s.pending := by
  simp [State.tick]

@[simp] theorem State.setTime_frame (t : Nat) (d : Half) :
    (s.setTime t d).now = s.now ∧ (s.setTime t d).params = s.params ∧ (s.setTime t d).classes = s.classes ∧
    (s.setTime t d).txe = s.txe ∧ (s.setTime t d).sbc = s.sbc ∧ (s.setTime t d).esm = s.esm ∧
    (s.setTime t d).ilu = s.ilu ∧ (s.setTime t d).mdc = s.mdc ∧ (s.setTime t d).ports = s.ports ∧
    (s.setTime t d).smp = s.smp ∧ (s.setTime t d).pending = s.pending := by
  simp [State.setTime]

end Sys2Proof.Machine
end

