-- ==== Sys2Proof/Laws/Requests.lean ====
section
/-! SUPPORT. Requests of a free port: what taking one comes to, what a request sees of the state it is asked in, and the
operand forms read back from the bytes they were written as. -/

namespace Sys2Proof.Machine

open Sys2Proof

variable (s : State) (lk : Link) (code tag : Byte)

/-! ### Taking a request (R176) -/

/-- Taking a request at a free port: its body is carried out in the asking state, and its reply, if known, is set. -/
theorem takeRequest_of_free (body : State → Answered) (h : s.portFree lk) :
    takeRequest lk code tag body s = match (body (s.asking lk code tag)).2 with
      | some reply => (body (s.asking lk code tag)).1.setReply lk reply
      | none => (body (s.asking lk code tag)).1 := by
  unfold takeRequest
  rw [show (s.port lk).answer = .free from h]
  rfl

@[simp] theorem State.setReply_asking (reply : List Byte) :
    (s.asking lk code tag).setReply lk reply = s.answering lk code tag reply := by
  simp [State.asking, State.setReply, State.answering, Port.asked, Port.answered]

/-- A request that only replies leaves the answering state. -/
theorem takeRequest_reply {body : State → Answered} {reply : List Byte} (h : s.portFree lk)
    (hb : body (s.asking lk code tag) = (s.asking lk code tag, some reply)) :
    takeRequest lk code tag body s = s.answering lk code tag reply := by
  rw [takeRequest_of_free _ _ _ _ _ h, hb]
  exact s.setReply_asking lk code tag reply

/-- A request that changes the state outside the ports leaves the changed state, answering. -/
theorem takeRequest_effect {body : State → Answered} {u : State} {reply : List Byte} (h : s.portFree lk)
    (hu : u.ports = s.ports)
    (hb : body (s.asking lk code tag) = ({ u with ports := (s.asking lk code tag).ports }, some reply)) :
    takeRequest lk code tag body s = u.answering lk code tag reply := by
  rw [takeRequest_of_free _ _ _ _ _ h, hb]
  simp [State.asking, State.setReply, State.answering, State.port, State.setPort, Port.asked, Port.answered, hu]

/-- A command of the in-control link with its argument parsed does its effect. -/
theorem controlled_inControl {α : Type} {a : α} {effect : α → State → Answered} (h : s.mdc.authority = lk) :
    controlled lk (some a) effect (s.asking lk code tag) = effect a (s.asking lk code tag) := by
  simp [controlled, State.inControl, State.asking, h]

/-- A command of the in-control link from the other link is refused. -/
theorem controlled_otherLink {α : Type} {arg : Option α} {effect : α → State → Answered} (h : s.mdc.authority ≠ lk) :
    controlled lk arg effect (s.asking lk code tag) = (s.asking lk code tag, some [0x03]) := by
  simp [controlled, State.inControl, State.asking, h, refuse, Status.code]

/-! ### The asking state differs in its ports alone -/

@[simp] theorem State.asking_frame :
    (s.asking lk code tag).now = s.now ∧ (s.asking lk code tag).free = s.free ∧
    (s.asking lk code tag).params = s.params ∧ (s.asking lk code tag).classes = s.classes ∧
    (s.asking lk code tag).conns = s.conns ∧ (s.asking lk code tag).fmu = s.fmu ∧
    (s.asking lk code tag).tbs = s.tbs ∧ (s.asking lk code tag).bpl = s.bpl ∧ (s.asking lk code tag).mvq = s.mvq ∧
    (s.asking lk code tag).txe = s.txe ∧ (s.asking lk code tag).sbc = s.sbc ∧ (s.asking lk code tag).esm = s.esm ∧
    (s.asking lk code tag).ilu = s.ilu ∧ (s.asking lk code tag).mdc = s.mdc ∧ (s.asking lk code tag).evu = s.evu ∧
    (s.asking lk code tag).smp = s.smp ∧ (s.asking lk code tag).pending = s.pending := by
  simp [State.asking]

@[simp] theorem State.asking_conn (n : ConnId) : (s.asking lk code tag).conn n = s.conn n := rfl
@[simp] theorem State.asking_slot (k : SlotId) : (s.asking lk code tag).slot k = s.slot k := rfl
@[simp] theorem State.asking_slotOf (n : ConnId) : (s.asking lk code tag).slotOf n = s.slotOf n := rfl
@[simp] theorem State.asking_health (p : Phase) : (s.asking lk code tag).health p = s.health p := rfl
@[simp] theorem State.asking_modeName : (s.asking lk code tag).modeName = s.modeName := rfl
@[simp] theorem State.asking_keyLocal : (s.asking lk code tag).keyLocal = s.keyLocal := rfl
@[simp] theorem State.asking_haltActive : (s.asking lk code tag).haltActive = s.haltActive := rfl
@[simp] theorem State.asking_someUnseen : (s.asking lk code tag).someUnseen = s.someUnseen := rfl
@[simp] theorem State.asking_slotsEmpty : (s.asking lk code tag).slotsEmpty = s.slotsEmpty := rfl
@[simp] theorem State.asking_queueFull : (s.asking lk code tag).queueFull = s.queueFull := rfl
@[simp] theorem State.asking_youngestPlanner : (s.asking lk code tag).youngestPlanner = s.youngestPlanner := rfl

/-! ### Operands read back -/

@[simp] theorem connOf?_connNumber (n : ConnId) : connOf? (BitVec.ofNat 8 (connNumber n)).toNat = some n := by
  revert n; decide

@[simp] theorem argConn_connNumber (n : ConnId) : argConn (u8 (connNumber n)) = some n := connOf?_connNumber n

theorem half_be16 (q : Half) : half (q.extractLsb' 8 8) (q.extractLsb' 0 8) = q := by
  unfold half
  rw [BitVec.extractLsb'_append_extractLsb'_eq_extractLsb' (by omega)]
  exact BitVec.extractLsb'_eq_self

theorem word_be32 (w : Word) :
    word (w.extractLsb' 24 8) (w.extractLsb' 16 8) (w.extractLsb' 8 8) (w.extractLsb' 0 8) = w := by
  unfold word
  rw [BitVec.extractLsb'_append_extractLsb'_eq_extractLsb' (by omega),
    BitVec.extractLsb'_append_extractLsb'_eq_extractLsb' (by omega),
    BitVec.extractLsb'_append_extractLsb'_eq_extractLsb' (by omega)]
  exact BitVec.extractLsb'_eq_self

end Sys2Proof.Machine
end

