-- ==== Sys2Proof/Laws/Transfer.lean ====
section
/-! SUPPORT. What entering a waiting stage comes to, once the slot's break time is known: the instants and the return
phase decide, and nothing else (R87, R88, R97, R99). -/

namespace Sys2Proof.Machine

open Sys2Proof

variable (s : State)

/-- The deferred chatter test reads and writes no slot. -/
theorem State.deferredChatter_setSlot (n : ConnId) (k : SlotId) (x : Option Slot) :
    (s.setSlot k x).deferredChatter n = (s.deferredChatter n).setSlot k x := by
  by_cases h : (s.conn n).chatterPending = true
  · have h' : ((s.setSlot k x).conn n).chatterPending = true := h
    have e (u v : State) (hv : u.setConn n { u.conn n with chatterPending := false } = v)
        (hu : (u.conn n).chatterPending = true) :
        u.deferredChatter n = if chatterTest v.params (v.conn n) = true then v.setChatterHold n else v := by
      unfold State.deferredChatter
      rw [if_pos hu, hv]
    obtain ⟨v, hv⟩ : ∃ v, s.setConn n { s.conn n with chatterPending := false } = v := ⟨_, rfl⟩
    rw [e s v hv h, e (s.setSlot k x) (v.setSlot k x) (hv ▸ rfl) h']
    by_cases hc : chatterTest v.params (v.conn n) = true
    · rw [if_pos hc, if_pos (show chatterTest (v.setSlot k x).params ((v.setSlot k x).conn n) = true from hc)]; rfl
    · rw [if_neg hc, if_neg (show ¬ chatterTest (v.setSlot k x).params ((v.setSlot k x).conn n) = true from hc)]
  · have h' : ¬ ((s.setSlot k x).conn n).chatterPending = true := h
    unfold State.deferredChatter
    rw [if_neg h', if_neg h]

/-- An ending depends on the slot's record alone, whatever else the slot holds. -/
theorem State.endRecord_setSlot (k : SlotId) (x y : Slot) (res : Result) (h : x.record = y.record) :
    (s.setSlot k (some x)).endRecord k res = (s.setSlot k (some y)).endRecord k res := by
  unfold State.endRecord State.applyEnding
  simp only [State.slot_setSlot_same, h]
  have e : ∀ (z : Slot) (n : ConnId) (c : Conn),
      (s.setSlot k (some z)).setConn n c = (s.setConn n c).setSlot k (some z) := fun _ _ _ => rfl
  have f : ∀ (u : State) (z : Slot), (u.setSlot k (some z)).freeSlotOf k = u.freeSlotOf k := fun u z => by
    simp [State.freeSlotOf, State.setSlot]
  simp only [e, State.deferredChatter_setSlot, f]
  rfl

variable {s} {k : SlotId} {sl : Slot} {bt : Nat}

/-- The return phase exists exactly when R88 finds one. -/
theorem State.returnPhase_isNone (r : MoveRec) :
    (s.returnPhase r).isNone = true ↔ ¬ (s.health r.source ≠ .lost ∨ s.health r.target = .healthy) := by
  unfold State.returnPhase
  split
  · simp_all
  · split <;> simp_all

/-- Entering ORPHANED with a confirmed break (R101). -/
theorem State.enterOrphaned_eq (h : s.slot k = some sl) (hb : sl.record.breakTime = some bt) :
    s.enterOrphaned k = if s.now < bt + msToTicks ((s.timing sl.record.conn).orphan + 1000) then
        s.setSlot k (some { sl with stage := .orphaned, verifyDue := some (s.sbc.frame + 1) })
      else (s.setSlot k (some sl)).endRecord k .dark := by
  let x : Slot := { sl with stage := .orphaned, verifyDue := some (s.sbc.frame + 1) }
  have hu : s.enterOrphaned k = if (s.setSlot k (some x)).reached ((s.setSlot k (some x)).darkInstant sl.record) = true
      then (s.setSlot k (some x)).endRecord k .dark else s.setSlot k (some x) := by
    unfold State.enterOrphaned
    rw [h]
  have hd : (s.setSlot k (some x)).reached ((s.setSlot k (some x)).darkInstant sl.record) = true
      ↔ bt + msToTicks ((s.timing sl.record.conn).orphan + 1000) ≤ s.now := by
    simp only [State.reached, State.darkInstant, hb, Option.map_some, decide_eq_true_eq]
    exact Iff.rfl
  rw [hu, s.endRecord_setSlot k x sl .dark rfl]
  split <;> rename_i hc <;> rw [hd] at hc
  · rw [if_neg (by omega)]
  · rw [if_pos (by omega)]

/-- Entering WAIT_RETURN with a confirmed break (R99). -/
theorem State.enterWaitReturn_eq (h : s.slot k = some sl) (hb : sl.record.breakTime = some bt) :
    s.enterWaitReturn k = s.turnBack k sl bt := by
  have hm : s.modSlot k (fun sl => { sl with stage := .waitReturn, verifyDue := none })
      = s.setSlot k (some { sl with stage := .waitReturn, verifyDue := none }) := by
    simp only [State.modSlot, h]
  have hh : ∀ (x : Option Slot) (p : Phase), (s.setSlot k x).health p = s.health p := fun _ _ => rfl
  have ht : ∀ (x : Option Slot) (n : ConnId), (s.setSlot k x).timing n = s.timing n := fun _ _ => rfl
  have hn : ∀ x : Option Slot, (s.setSlot k x).now = s.now := fun _ => rfl
  unfold State.enterWaitReturn State.turnBack State.holdWaitReturn
  rw [hm]
  simp only [State.slot_setSlot_same, State.returnPhase_isNone, hh]
  by_cases hr : s.returnable sl.record bt
  · rw [if_pos hr, if_neg]
    simp only [State.reached, State.orphanInstant, hb, Option.map_some, ht, hn, decide_eq_true_eq]
    rintro (h1 | h1)
    · exact h1 hr.1
    · exact absurd hr.2 (by omega)
  · rw [if_neg hr, if_pos]
    · have e : ∀ y : Slot, y.record = sl.record → (s.setSlot k (some y)).enterOrphaned k = _ := fun y hy =>
        State.enterOrphaned_eq (s.slot_setSlot_same k _) (hy ▸ hb)
      rw [e { sl with stage := .waitReturn, verifyDue := none } rfl]
      simp only [State.setSlot_setSlot]
      exact if_congr Iff.rfl rfl (s.endRecord_setSlot k _ _ _ rfl)
    · simp only [State.reached, State.orphanInstant, hb, Option.map_some, ht, hn, decide_eq_true_eq]
      by_contra hc
      rw [not_or] at hc
      exact hr ⟨not_not.mp hc.1, by omega⟩

/-- Entering WAIT_MAKE with a confirmed break (R97). -/
theorem State.enterWaitMake_eq (h : s.slot k = some sl) (hb : sl.record.breakTime = some bt) :
    s.enterWaitMake k = s.goToMake k sl bt := by
  let x : Slot := { sl with stage := .waitMake, verifyDue := none }
  have hx : (s.setSlot k (some x)).slot k = some x := s.slot_setSlot_same k _
  have back : (s.setSlot k (some x)).turnBack k x bt = s.turnBack k sl bt := by
    unfold State.turnBack
    simp only [State.setSlot_setSlot]
    exact if_congr Iff.rfl rfl (if_congr Iff.rfl rfl (s.endRecord_setSlot k x sl .dark rfl))
  have hu : s.enterWaitMake k = if s.health sl.record.target ≠ .healthy then (s.setSlot k (some x)).enterWaitReturn k
      else if s.reached (s.orphanInstant sl.record) = true then (s.setSlot k (some x)).enterOrphaned k
      else s.setSlot k (some x) := by
    unfold State.enterWaitMake
    rw [h]
    rfl
  have ho : s.reached (s.orphanInstant sl.record) = true
      ↔ bt + msToTicks ((s.timing sl.record.conn).orphan - 300) ≤ s.now := by
    simp only [State.reached, State.orphanInstant, hb, Option.map_some, decide_eq_true_eq]
  rw [hu, State.enterWaitReturn_eq hx hb, back]
  unfold State.goToMake
  by_cases hh : s.health sl.record.target = .healthy
  · rw [if_neg (not_not.mpr hh)]
    by_cases hr : s.reached (s.orphanInstant sl.record) = true
    · have hl := ho.mp hr
      rw [if_pos hr, if_neg (by omega), ← back, State.enterOrphaned_eq hx hb]
      unfold State.turnBack
      rw [if_neg (c := (s.setSlot k (some x)).returnable x.record bt) fun c =>
        absurd (show s.now < bt + msToTicks ((s.timing sl.record.conn).orphan - 300) from c.2) (by omega)]
    · rw [if_neg hr, if_pos ⟨hh, by have := mt ho.mpr hr; omega⟩]
  · rw [if_pos hh, if_neg fun c => hh c.1]

end Sys2Proof.Machine
end

