-- ==== Sys2Proof/Tests/Slice0.lean ====
section
/-! SUPPORT. Tests: the checks of WellFormed, the spec's worked examples one step at a time, and a witness for every
statement that has hypotheses. Every expected value is the spec's. The theorems are elaborated one after another. -/

namespace Sys2Proof.Tests

open Sys2Proof Sys2Proof.Machine

set_option Elab.async false

/-! ### Small states -/

/-- The state a command leaves. -/
def after (c : Instr) (s : State) : State :=
  match exec c s with
  | .next t => t
  | .fault _ => s
  | .refused _ => s

/-- A present connection, ONLINE on phase A, with an epoch load. -/
def live : Conn := { freshConn with present := true, link := .online, phase := .on .A, epochLoad := some 4000 }

/-- A record of connection n + 1, from A to B. -/
def record (n : ConnId) (seq : Half) (origin : Origin) (order : Nat) : MoveRec :=
  { seq := seq, conn := n, source := .A, target := .B, origin := origin, load := none, acceptedEpoch := 0,
    cancel := false, breaks := 0, makes := 0, returns := 0, breakTime := none, order := order }

/-- A slot at a stage. -/
def slotAt (r : MoveRec) (stage : Stage) (order : Nat) : Slot :=
  { record := r, stage := stage, order := order, lastAct := none, verifyDue := none, misses := 0 }

def healthyPhase : PhaseChannel := { freshChannel with health := .healthy, started := true }

/-- MANUAL, all phases HEALTHY, the store READY, connection 1 present. -/
def manual : State :=
  let s := State.reset.setConn 0 live
  { s with
    mdc := { s.mdc with mode := .base .manual }
    fmu := { s.fmu with chan := { a := healthyPhase, b := healthyPhase, c := healthyPhase } }
    sbc := { s.sbc with alignment := some .A }
    esm := { s.esm with store := .ready, voltage := 620 } }

def inMode (m : Mode) : State := manual.setMode m

/-- The record of connection 1 waits in the queue. -/
def queued : State :=
  let s := manual.setConn 0 { live with recordLink := some 7 }
  { s with mvq := { s.mvq with queue := [record 0 7 .operator 3], seqCounter := 8, acceptCount := 4 } }

/-- The record of connection 1 stands in slot 0 at a stage, its break confirmed at instant 0 where it has one. -/
def inSlot (stage : Stage) (breakTime : Option Nat) : State :=
  let s := manual.setConn 0 { live with recordLink := some 7 }
  { s with
    txe := {
      slots := s.txe.slots.set 0 (some (slotAt { record 0 7 .operator 3 with breakTime := breakTime } stage 5))
      admitCount := 6 }
    mvq := { s.mvq with seqCounter := 8, acceptCount := 4 } }

/-- A transaction with connection 1 is in progress. -/
def asked (s : State) (p : Purpose) : State := s.setTxn (some { conn := 0, purpose := p, lastUnit := 2 })

def report (closed : Option Phase) (counter : Byte) : StatusReport :=
  { closed := closed, counter := counter, load := 1200, fault := false, localOp := false }

/-! ### WellFormed refuses what cannot be sent -/

theorem test_wellFormed_payload_too_long :
    (Instr.status .operator 0 (List.replicate 241 0)).wellFormed = false := by decide +kernel

theorem test_wellFormed_longest_payload :
    (Instr.status .operator 0 (List.replicate 240 0)).wellFormed = true := by decide +kernel

theorem test_wellFormed_empty_neutral_window : (Instr.neutralWindowEnd []).wellFormed = false := by decide

theorem test_wellFormed_known_code : (Instr.unknownCommand .operator 0x40 0 []).wellFormed = false := by decide

theorem test_wellFormed_unknown_code : (Instr.unknownCommand .operator 0x41 0 []).wellFormed = true := by decide

theorem test_wellFormed_unknown_too_long :
    (Instr.unknownCommand .operator 0x41 0 (List.replicate 241 0)).wellFormed = false := by decide +kernel

/-- The table gives no row any bits, so no word spells a command. -/
theorem test_no_word_spells_a_command : decodeTableWord 8 0 = none ∧ decodeTableWord 0 0 = none := by decide

/-! ### The spec's examples -/

/-- R186. -/
theorem test_crc_check_value :
    crc16 [0x31, 0x32, 0x33, 0x34, 0x35, 0x36, 0x37, 0x38, 0x39] = 0x29B1#16 := by decide +kernel

/-- R24: the two examples of a rest period of 10. -/
theorem test_rested : rested { live with lastMove := some 4000 } 4010 10 = true
    ∧ rested { live with lastMove := some 4000 } 4009 10 = false
    ∧ rested { live with lastMove := some 4294967290 } 4 10 = true
    ∧ rested { live with lastMove := some 4294967290 } 3 10 = false := by decide

/-- R13: the two examples of a closed epoch load. -/
theorem test_epoch_load :
    (closeLoad { live with accSum := 1200 + 1180 - 40 + 1210 + 1195, accCount := 5 }).epochLoad = some 949
      ∧ (closeLoad { live with accSum := -1001 - 1002 - 1000 - 1000, accCount := 4 }).epochLoad = some (-1000) := by
  decide

/-- R40: the two examples of an epoch average. -/
theorem test_epoch_average : averageOf { freshChannel with accSum := 126930000, accCount := 3000 } = some 42310
    ∧ averageOf { freshChannel with accSum := -2999999, accCount := 3000 } = some (-999) := by decide

/-- R132: the example of SET_CLASS for class 2. -/
theorem test_set_class_example :
    clampClass { breakPulse := 3, makePulse := 40, settle := 12, recovery := 8, gap := 900, orphan := 1000 }
      = { breakPulse := 5, makePulse := 40, settle := 10, recovery := 8, gap := 700, orphan := 1000 } := by decide

/-- Connection 31 of the example of chapter 1 while its MAKE(B) is unanswered. -/
def missedMake : Conn :=
  let act : PendingActuation := { before := .off, intended := .on .B, state := .unanswered }
  { live with phase := .off, expected := 13, pendingAct := some act }

/-- R6, R8: connection 31 after its MAKE(B) reply was missed, with B and counter 14 reported. -/
theorem test_missed_make_reply :
    uncommandedFound missedMake (report (some .B) 14) = 0 := by decide

/-- R6, R8: the same record with C reported: case 3 counts 1 less 1. -/
theorem test_missed_make_reply_wrong_phase :
    uncommandedFound missedMake (report (some .C) 14) = 0 := by decide

/-- R6: B with counter 16 against an expected 14 is two uncommanded changes. -/
theorem test_uncommanded_changes :
    uncommandedFound { live with phase := .on .B, expected := 14 } (report (some .B) 16) = 2 := by decide

/-- R72: the queue of the example, MANUAL records 600 to 612 before PLANNER records 590 to 592. -/
def fullQueue : State :=
  let ms := (List.range 13).map fun i => record (Fin.ofNat 96 (40 + i)) (BitVec.ofNat 16 (600 + i)) .service (20 + i)
  let ps := (List.range 3).map fun i => record (Fin.ofNat 96 (60 + i)) (BitVec.ofNat 16 (590 + i)) .planner (10 + i)
  { manual with mvq := { manual.mvq with queue := ms ++ ps, seqCounter := 613, acceptCount := 40 } }

/-- R72: the first MOVE of the example displaces 592, takes number 613 and stands behind 612. -/
theorem test_move_into_full_queue :
    ((after (.move .operator 9 [1, 2]) fullQueue).mvq.queue.drop 12).map (·.seq) = [612, 613, 590, 591] := by
  decide +kernel

theorem test_move_displacement_recorded :
    (after (.move .operator 9 [1, 2]) fullQueue).mvq.history.map (fun e => (e.seq, e.result))
      = [(592, .displaced)] := by
  decide +kernel

/-- R75: record 881 of the example, accepted in epoch 1,205, expires at the end of 1,207 and not of 1,206; the run at
the end of 1,204, after which it is accepted, does not end it either. -/
theorem test_expiry : expires 1206 { record 0 881 .planner 1 with acceptedEpoch := 1205 } = false
    ∧ expires 1207 { record 0 881 .planner 1 with acceptedEpoch := 1205 } = true
    ∧ expires 1204 { record 0 881 .planner 1 with acceptedEpoch := 1205 } = false := by decide

/-- R138: the three slots of the example of 7.9. -/
def threeSlots : State :=
  let s := (manual.setConn 13 live).setConn 50 live
  let back := { record 50 3 .operator 3 with breakTime := some 0 }
  let slots := ((s.txe.slots.set 1 (some (slotAt (record 13 1 .operator 1) .waitBreak 10))).set 0
    (some (slotAt { record 7 2 .operator 2 with breakTime := some 0 } .waitMake 11))).set 2
    (some (slotAt back .waitReturn 12))
  { s with now := 60 * 319488, txe := { slots := slots, admitCount := 13 } }

/-- R138: the RETURN of slot 2 outranks MAKE and BREAK. -/
theorem test_return_outranks : threeSlots.chosen.map (fun p => (p.slot, p.kind)) = some (2, .ret) := by decide +kernel

/-- R149, R171: a relay trip in AUTO halts the part and flushes the queue. -/
theorem test_relay_trip :
    (after (.debounceComplete .rlyTrip true) (queued.setMode (.base .auto))).mdc.mode = .base .halted
      ∧ (after (.debounceComplete .rlyTrip true) (queued.setMode (.base .auto))).mvq.queue = [] := by decide +kernel

/-- R157: the halt record shows the mode as it was. -/
theorem test_halt_record :
    (after (.debounceComplete .rlyTrip true) (inMode (.base .auto))).ilu.haltRecord
      = [{ source := .rlyTrip, mode := .auto, epoch := 0, timeOfDay := 0 }] := by decide +kernel

/-- R156: RESUME while RLY_TRIP's status is set is refused HALT_ACTIVE. -/
theorem test_resume_refused :
    ((after (.resume .operator 4 []) ((inMode (.base .halted)).setInput .rlyTrip
      { manual.input .rlyTrip with status := true })).port .operator).answer
      = .answering 0x2D 4 (some [0x05]) := by decide +kernel

/-- R192: CLEAR_EVENTS selecting TRANSFER_FAILED and HALT leaves PLAN_MADE; ALERT stays asserted, LAMP dark. -/
theorem test_clear_events :
    (after (.clearEvents .operator 1 [0x00, 0x11]) { manual with evu := { manual.evu with statuses := 0x0410 } }).evu
      = { statuses := 0x0400, alert := true, lamp := false } := by decide +kernel

/-- R192: then selecting PLAN_MADE leaves none, ALERT negated. -/
theorem test_clear_last_event :
    (after (.clearEvents .operator 1 [0x04, 0x00]) { manual with evu := { manual.evu with statuses := 0x0400 } }).evu
      = { statuses := 0x0000, alert := false, lamp := false } := by decide +kernel

/-- R34: two nominal periods without a crossing on phase B: LOST, the epoch disturbed, PHASE_LOST set. -/
theorem test_blown_fuse :
    (after (.noCrossingLoss .B) manual).health .B = .lost
      ∧ (after (.noCrossingLoss .B) manual).evu.statuses.getLsbD 1 = true := by decide +kernel

/-- R119: with connections 5, 40 and 77 and the survey position 40, the survey goes to 77. -/
theorem test_survey_rotation :
    let s := ((manual.setConn 4 live).setConn 39 live).setConn 76 live
    { s with sbc := { s.sbc with surveyPos := 40 } }.claimSurvey = some 76 := by decide +kernel

/-- R37: the tick at 86,399 rolls the day over. -/
theorem test_day_rollover :
    let s := { manual with tbs := { manual.tbs with timeOfDay := 86399, day := 65535 } }
    (after .dayRollover s).tbs.timeOfDay = 0 ∧ (after .dayRollover s).tbs.day = 0 := by decide +kernel

/-- R195: the port drives the most significant bit of byte 0 first; the snapshot number stands there. -/
theorem test_summary_first_bit :
    let p : Published := { figures := freshFigures, number := 0x8001 }
    (after .summarySelect { manual with smp := { manual.smp with published := p } }).dataOut = some true := by
  decide +kernel

/-- R165 step 3: AUTO_ON admits the record that waits, in the same operation. -/
theorem test_auto_on_admits : (after (.autoOn .operator 1 []) queued).slotStage 0 = some .waitBreak
    ∧ (after (.autoOn .operator 1 []) queued).mvq.queue = [] := by decide +kernel

/-- R113: a late reply of a closed window leaves the next transaction in progress. -/
theorem test_late_reply_discarded :
    (after (.pollReply { late := true, bytes := [1] }) (asked manual .survey)).sbc.txn = (asked manual .survey).sbc.txn := by
  decide +kernel

/-- R27, R111: a write of 60 Hz in CONFIG changes the fallback interval of the channels at once, and not the frame. -/
theorem test_nominal_write :
    let s := after (.setParam .operator 1 [0x01, 0, 0, 0, 0, 60]) State.reset
    (s.chan .A).interval = 5324800 / 128 ∧ s.sbc.framePeriod = State.reset.sbc.framePeriod := by decide +kernel

/-- R102, R153: a WRONG_PHASE ending with MAP_FAULT masked halts the part and flushes the queue. -/
theorem test_wrong_phase_halts :
    let s := (queued.setSlot 0 (some (slotAt (record 1 6 .operator 2) .making 5))).endTransfer 0 .wrongPhase
    s.mdc.mode = .base .halted ∧ s.mvq.queue = [] ∧ s.ilu.mapFault = true := by decide +kernel

/-- R47, R11: a load reported between the tick that ended the epoch and its EPOCH_END counts in the new epoch. -/
theorem test_load_after_the_tick :
    (countLoad true 1200 { live with accSum := 500, accCount := 1 }).accSum = 500
      ∧ (closeLoad (countLoad true 1200 { live with accSum := 500, accCount := 1 })).accSum = 1200
      ∧ (closeLoad (countLoad true 1200 { live with accSum := 500, accCount := 1 })).accCount = 1 := by decide

/-! ### Witnesses: states and operands that meet the hypotheses of a statement, clause by clause -/

/-- One record queued, one in a slot whose BREAK is under way: every invariant of Safety.lean holds, with work about. -/
def working : State :=
  let s := (manual.setConn 0 { live with recordLink := some 7 }).setConn 1 { live with recordLink := some 6 }
  let act : Transaction := { conn := 1, purpose := .actuation 0 5 .brk (.on .A) .off, lastUnit := 1 }
  { s with
    txe := { slots := s.txe.slots.set 0 (some (slotAt (record 1 6 .operator 2) .breaking 5)), admitCount := 6 }
    sbc := { s.sbc with txn := some act }
    mvq := { s.mvq with queue := [record 0 7 .operator 3], seqCounter := 8, acceptCount := 4 } }

/-- HALTED with a transfer being turned back. -/
def halted : State := (inSlot .waitReturn (some 0)).setMode (.base .halted)

/-- RIDE_THROUGH with MANUAL saved. -/
def riding : State := (inMode (.rideThrough .manual)).setSupply .warning

/-- The key at LOCAL, the service link in control. -/
def atLocal : State :=
  let s := manual.setInput .keyLocal { manual.input .keyLocal with debounced := true }
  { s with mdc := { s.mdc with authority := .service } }

/-- The operator port answers a request whose result is not known. -/
def portBusy : State := manual.setPort .operator { freshPort with answer := .answering 0x0C 2 none }

def withConn (c : Conn) : State := manual.setConn 0 c

def withStore (x : StoreState) : State := manual.setStore x

/-- AUTO at an epoch end with phase A 30 kW above the others: a planner run plans a move of connection 1. -/
def unbalanced : State :=
  let s := inMode (.base .auto)
  { s with fmu := { s.fmu with averages := some { epoch := 0, avg := ⟨some 30000, some 0, some 0⟩ } } }

/-- AUTO with phase A LOST. -/
def phaseAGone : State :=
  let s := inMode (.base .auto)
  s.setChan .A { healthyPhase with health := .lost }

/-- For StepRunsTheFrontCommand. -/
theorem witness_step :
    ({ manual with pending := [.secondTick, .unitStart] } : State).pending = [.secondTick, .unitStart] := rfl

/-- For OutputsFollowStatuses, PublishedRecordCurrent, ReadSeesOneCopy. -/
theorem witness_next : exec .secondTick working = .next (after .secondTick working)
    ∧ (∀ lines mV low, Instr.secondTick ≠ .powerOnReset lines mV low) := ⟨rfl, by simp⟩

/-- For OneRecordPerConnection. -/
theorem witness_linked : working.linked := by
  refine ⟨?_, ?_, ?_, ?_⟩ <;> decide +kernel

/-- For QueueBoundedAndOrdered. -/
theorem witness_queueOrdered : working.queueOrdered := by
  refine ⟨?_, ?_⟩ <;> decide +kernel

/-- For ModesAuthorityAndAlignmentKept, first clause. -/
theorem witness_configIdle : State.reset.configIdle ∧ working.configIdle := by
  unfold State.configIdle; decide +kernel

/-- For ModesAuthorityAndAlignmentKept, second clause. -/
theorem witness_keyObeyed : working.keyObeyed ∧ atLocal.keyObeyed := by
  unfold State.keyObeyed; decide +kernel

/-- For ModesAuthorityAndAlignmentKept, third clause. -/
theorem witness_warningObeyed : working.warningObeyed ∧ riding.warningObeyed := by
  unfold State.warningObeyed; decide +kernel

/-- For ModesAuthorityAndAlignmentKept, fourth clause. -/
theorem witness_aligned : working.aligned ∧ State.reset.aligned := by
  unfold State.aligned; decide +kernel

/-- For ActuationTiedToItsSlot. -/
theorem witness_actuationTied : working.actuationTied := by
  refine ⟨?_, ?_⟩
  · decide +revert +kernel
  · intro x k owner kind b i hx hp
    simp only [working, Option.some.injEq] at hx
    subst hx
    simp only [Purpose.actuation.injEq] at hp
    obtain ⟨rfl, rfl, rfl, rfl, rfl⟩ := hp
    refine ⟨by decide, ?_⟩
    intro sl h _
    have : working.slot 0 = some (slotAt (record 1 6 .operator 2) .breaking 5) := by decide +kernel
    rw [this, Option.some.injEq] at h
    subst h
    rfl

/-- For NoNewBreakWhileStopped. -/
theorem witness_noNewWork : halted.actuationTied ∧ halted.noNewWork ∧ halted.stopped := by
  refine ⟨⟨?_, ?_⟩, ⟨?_, ?_⟩, ?_⟩
  · decide +kernel
  · intro x _ _ _ _ _ hx
    rw [show halted.sbc.txn = none by decide +kernel] at hx
    exact absurd hx (by simp)
  · intro _
    decide +kernel
  · intro _
    decide +kernel
  · unfold State.stopped
    decide +kernel

/-- For ValuesStayInRange, first clause. -/
theorem witness_settingsInRange : working.settingsInRange := by
  refine ⟨?_, ?_, ?_, ?_, ?_, ?_, ?_, .hz50, ?_⟩
  · unfold Params.inRange
    decide +kernel
  · unfold TimingClass.inRange
    decide +kernel
  · decide +kernel
  · decide +kernel
  · intro i
    cases i <;> decide +kernel
  · intro p
    cases p <;> decide +kernel
  all_goals decide +kernel

/-- For ValuesStayInRange, second clause. -/
theorem witness_countsInRange : working.countsInRange := by
  refine ⟨?_, ?_, ?_, ?_, ?_, ?_, ?_, ?_⟩
  · unfold Conn.inRange
    decide +kernel
  all_goals decide +kernel

/-- For PinRemovedOnlyAtLocal. -/
theorem witness_pin : manual.keyLocal = false ∧ ((withConn { live with pin := true }).conn 0).pin = true
    ∧ exec (.unpin .operator 1 [1]) (withConn { live with pin := true })
      = .next (after (.unpin .operator 1 [1]) (withConn { live with pin := true })) := by
  refine ⟨by decide +kernel, by decide +kernel, rfl⟩

/-- For SummaryReadWhole. -/
theorem witness_summary : manual.smp.selectLow = false := by decide +kernel

/-- For RequestRowsAreFrames. -/
theorem witness_requestOf :
    requestOf? (.status .operator 1 []) = some (.operator, 0x01, 1, [])
      ∧ requestOf? (.unknownCommand .service 0x7F 1 [5]) = some (.service, 0x7F, 1, [5]) := by decide

/-- For FrameBytesTakenAsRequest. -/
theorem witness_upToDate : manual.settle.upToDate ∧ (manual.settle.port .service).rx = .hunt
    ∧ (List.replicate 240 (0 : Byte)).length ≤ 240 := by
  unfold State.upToDate
  decide +kernel

/-- For RequestsDiscardedOrRefusedWhole, first clause. -/
theorem witness_port_busy : (portBusy.port .operator).answer = .answering 0x0C 2 none := by decide +kernel

/-- For RequestsDiscardedOrRefusedWhole, second clause. -/
theorem witness_request_refused : manual.portFree .operator
    ∧ ((after (.move .operator 9 [0, 2]) manual).port .operator).answer = .answering 0x20 9 (some [0x02])
    ∧ (0x02 : Byte) ≠ 0x00 := by decide +kernel

/-- For FirstChecksRefuse, first clause. -/
theorem witness_other_link : requestOf? (.restart .service 1 []) = some (.service, Command.restart.code, 1, [])
    ∧ Command.restart ∈ controlledCommands ∧ manual.portFree .service ∧ manual.mdc.authority ≠ .service := by
  decide +kernel

/-- For FirstChecksRefuse, second clause. -/
theorem witness_unknown_codes : manual.portFree .operator ∧ (0x00 : Byte).toNat ∉ catalogueCodes
    ∧ (0x0D : Byte).toNat ∉ catalogueCodes ∧ (0xFF : Byte).toNat ∉ catalogueCodes := by decide +kernel

/-- A frame under way with the given bytes, the last just received. -/
def receiving (bytes : List Byte) : State := manual.setPort .operator { freshPort with rx := .inFrame bytes 0 }

/-- For LinkPortEvents, the receiver. -/
theorem witness_receiver : (manual.port .operator).rx = .hunt ∧ (0x7F : Byte) ≠ 0x7E
    ∧ ((receiving [2]).port .operator).rx = .inFrame ((2 : Byte) :: []) 0
    ∧ ((receiving [242]).port .operator).rx = .inFrame ((242 : Byte) :: []) 0
    ∧ manual.now - 0 ≤ msToTicks 20 ∧ ([] : List Byte).length + 1 < (2 : Byte).toNat + 2
    ∧ ((receiving []).port .operator).rx = .inFrame [] 0 ∧ (1 : Byte).toNat < 2 ∧ 242 < (243 : Byte).toNat
    ∧ ((receiving [2, 1, 9, 0]).port .operator).rx = .inFrame ((2 : Byte) :: [1, 9] ++ [0]) 0
    ∧ ([1, 9] : List Byte).length = (2 : Byte).toNat ∧ be16 (crc16 [2, 1, 9]) ≠ [0, 0] := by decide +kernel

/-- For LinkPortEvents, the reply. -/
theorem witness_reply : (portBusy.port .operator).answer = .answering 0x0C 2 none
    ∧ ((manual.setPort .service { freshPort with answer := .answering 1 2 (some [0]) }).port .service).answer
      = .answering 1 2 (some [0]) := by decide +kernel

/-- For ReadCommandsAnswer. -/
theorem witness_reads : manual.portFree .operator ∧ 1 ≤ (1 : Byte).toNat ∧ (16 : Byte).toNat ≤ 16
    ∧ paramOf? (0x01 : Byte).toNat (9 : Byte).toNat = some .nominal
    ∧ paramOf? (0x14 : Byte).toNat (6 : Byte).toNat = some (.debounce .aux2)
    ∧ paramOf? (0x17 : Byte).toNat (0 : Byte).toNat = some .lampMask := by decide +kernel

/-- An entry of record 600 in the history. -/
def entry600 : HistEntry :=
  { seq := 600, conn := 0, source := .A, target := .B, origin := .service, result := .done, epoch := 0, timeOfDay := 0,
    breaks := 1, makes := 1, returns := 0, breakConfirmed := true }

/-- For ReadCommandsAnswer, the layouts. -/
theorem witness_layouts : manual.bpl.plan = none ∧ manual.bpl.rescue = none ∧ manual.slot 0 = none
    ∧ (inSlot .gap (some 0)).slot 0 = some (slotAt { record 0 7 .operator 3 with breakTime := some 0 } .gap 5)
    ∧ ((unbalanced.plannerRun 0 false).bpl.plan.map (·.entries.length)) = some 1
    ∧ (phaseAGone.rescuePass .loss).bpl.rescue.isSome = true
    ∧ (∀ e ∈ [entry600], e.seq ≠ 601) ∧ (∃ e ∈ [entry600], e.seq = 600) := by decide +kernel

/-- A record with every count at the top of its range. -/
def topConn : Conn :=
  { live with timing := 3, allowance := 15, movesToday := 15, uncommanded := 15, missedRun := 3, lastMove := some 0 }

/-- For ConnectionEntryLayout. -/
theorem witness_entry : live.inRange ∧ topConn.inRange ∧ freshConn.inRange := by
  unfold Conn.inRange
  decide

/-- For BarsAndAllowanceTaken. -/
theorem witness_bars : manual.portFree .operator ∧ manual.mdc.authority = .operator
    ∧ (manual.conn 0).present = true ∧ manual.slotOf 0 = none ∧ (manual.conn 0).hold = none
    ∧ ((withConn { live with hold := some .chatter }).conn 0).hold ≠ none
    ∧ ((withConn { live with hold := some .chatter }).conn 0).present = true
    ∧ ((inSlot .waitBreak none).conn 0).present = true ∧ (inSlot .waitBreak none).slotOf 0 ≠ none
    ∧ (manual.conn 95).present = false := by decide +kernel

/-- For BarsAndAllowanceTaken, UNPIN. -/
theorem witness_unpin : atLocal.portFree .service ∧ atLocal.keyLocal = true ∧ (atLocal.conn 0).present = true
    ∧ (atLocal.conn 95).present = false ∧ manual.keyLocal = false := by decide +kernel

/-- For ReleaseTaken. -/
theorem witness_release : manual.portFree .service ∧ manual.mdc.authority ≠ .service
    ∧ (inSlot .gap none).slotOf 0 ≠ none ∧ manual.slotOf 0 = none
    ∧ ((withConn { live with hold := some .operator }).conn 0).hold = some .operator
    ∧ ((withConn { live with hold := some .chatter }).conn 0).hold = some .chatter
    ∧ (withConn { live with hold := some .chatter }).slotOf 0 = none ∧ (manual.conn 0).hold = none := by decide +kernel

/-- For ConfigurationCommandsTaken. -/
theorem witness_configuration : manual.portFree .operator ∧ manual.modeName ≠ .config
    ∧ State.reset.portFree .operator ∧ State.reset.mdc.authority = .operator ∧ State.reset.modeName = .config
    ∧ (State.reset.conn 95).present = false ∧ ((State.reset.setConn 0 live).conn 0).present = true := by decide +kernel

/-- For SetParamStoresAndEchoes. -/
theorem witness_setParam : manual.portFree .operator ∧ manual.mdc.authority = .operator
    ∧ paramOf? (0x00 : Byte).toNat 0 = none ∧ paramOf? (0x18 : Byte).toNat 0 = none
    ∧ paramOf? (0x12 : Byte).toNat (7 : Byte).toNat = none ∧ paramOf? (0x01 : Byte).toNat 0 = some .nominal
    ∧ manual.modeName ≠ .config ∧ State.reset.modeName = .config
    ∧ ((State.reset.asking .operator 0x28 1).writeParam .nominal 55).isNone = true
    ∧ ((State.reset.asking .operator 0x28 1).writeParam .nominal 60).isSome = true
    ∧ ((manual.asking .operator 0x28 1).writeParam .kmax 4).isSome = true := by decide +kernel

/-- For MoveRefusedByFirstFailure, the modes. -/
theorem witness_move_refused_by_mode : State.reset.modeName = .config ∧ riding.modeName = .rideThrough
    ∧ halted.modeName = .halted ∧ halted.portFree .operator ∧ halted.mdc.authority = .operator := by decide +kernel

/-- For MoveRefusedByFirstFailure, the arguments. -/
theorem witness_move_refused_by_argument : manual.modeName = .manual ∧ ([1] : List Byte).length ≠ 2
    ∧ (0 : Byte) = 0 ∧ 96 < (97 : Byte).toNat ∧ 3 < (4 : Byte).toNat := by decide +kernel

/-- For MoveRefusedByFirstFailure, the record. -/
theorem witness_move_refused_by_record : manual.modeName = .manual ∧ (manual.conn 95).present = false
    ∧ ((withConn { live with phase := .off }).conn 0).phase = .off
    ∧ ((withConn { live with phase := .unknown }).conn 0).phase = .unknown ∧ (manual.conn 0).phase = .on .A
    ∧ ((withConn { live with pin := true }).conn 0).pin = true ∧ (manual.conn 0).pin = false
    ∧ ((withConn { live with hold := some .operator }).conn 0).hold ≠ none ∧ (manual.conn 0).hold = none
    ∧ (queued.conn 0).recordLink ≠ none ∧ (manual.conn 0).recordLink = none
    ∧ ((withConn { live with link := .offline }).conn 0).link ≠ .online ∧ (manual.conn 0).link = .online
    ∧ 15 ≤ ((withConn { live with movesToday := 15 }).conn 0).movesToday := by decide +kernel

/-- Sixteen MANUAL records wait. -/
def crowded : State :=
  let rs := (List.range 16).map fun i => record (Fin.ofNat 96 (40 + i)) (BitVec.ofNat 16 (600 + i)) .service (20 + i)
  { manual with mvq := { manual.mvq with queue := rs, seqCounter := 616, acceptCount := 36 } }

/-- For MoveRefusedByFirstFailure, health and queue. -/
theorem witness_move_refused_by_queue : (phaseAGone.health .A ≠ .healthy) ∧ manual.health .B = .healthy
    ∧ 16 ≤ crowded.mvq.queue.length ∧ (∀ r ∈ crowded.mvq.queue, r.origin ≠ .planner)
    ∧ (crowded.conn 0).movesToday < 15 := by decide +kernel

/-- For MoveAccepted. -/
theorem witness_move_accepted : manual.portFree .operator ∧ manual.mdc.authority = .operator
    ∧ manual.modeName = .manual ∧ (manual.conn 0).present = true ∧ (manual.conn 0).phase = .on .A ∧ Phase.A ≠ .B
    ∧ (manual.conn 0).pin = false ∧ (manual.conn 0).hold = none ∧ (manual.conn 0).recordLink = none
    ∧ (manual.conn 0).link = .online ∧ manual.health .B = .healthy ∧ (manual.conn 0).movesToday < 15
    ∧ manual.mvq.queue.length < 16 ∧ 16 ≤ fullQueue.mvq.queue.length
    ∧ (fullQueue.conn 0).recordLink = none ∧ fullQueue.youngestPlanner.map (·.seq) = some 592 := by decide +kernel

/-- For CancelTaken. -/
theorem witness_cancel : queued.portFree .operator ∧ queued.mdc.authority = .operator
    ∧ queued.mvq.queue.find? (fun r => r.seq == 7) = some (record 0 7 .operator 3)
    ∧ (∀ r ∈ manual.mvq.queue, r.seq ≠ 7) ∧ (∀ r ∈ manual.slotRecords, r.seq ≠ 7)
    ∧ (∀ r ∈ (inSlot .waitBreak none).mvq.queue, r.seq ≠ 7) ∧ (inSlot .waitBreak none).slotWithSeq 7 = some 0
    ∧ (inSlot .waitBreak none).slot 0 = some (slotAt (record 0 7 .operator 3) .waitBreak 5) := by decide +kernel

/-- For CancelTaken, the other stages. -/
theorem witness_cancel_in_slot (stage : Stage) :
    let r := { record 0 7 .operator 3 with breakTime := some 0 }
    (inSlot stage (some 0)).slotWithSeq 7 = some 0 ∧ (∀ x ∈ (inSlot stage (some 0)).mvq.queue, x.seq ≠ 7)
      ∧ (inSlot stage (some 0)).slot 0 = some (slotAt r stage 5)
      ∧ ((inSlot stage (some 0)).health r.source ≠ .lost ∨ (inSlot stage (some 0)).health r.target = .healthy)
      ∧ (inSlot stage (some 0)).now < 0 + msToTicks (((inSlot stage (some 0)).timing r.conn).orphan - 300)
      ∧ (inSlot stage (some 0)).portFree .operator ∧ (inSlot stage (some 0)).mdc.authority = .operator := by
  cases stage <;> decide +kernel

/-- The input of the relay's trip is set. -/
def tripped (s : State) : State := s.setInput .rlyTrip { s.input .rlyTrip with status := true }

/-- For ModeCommands, taken. -/
theorem witness_mode_commands_taken : State.reset.portFree .operator ∧ State.reset.mdc.authority = .operator
    ∧ State.reset.modeName = .config ∧ State.reset.haltActive = false
    ∧ (∀ n, (State.reset.conn n).present = true → (State.reset.conn n).link ≠ .unseen)
    ∧ manual.modeName = .manual ∧ (inMode (.base .auto)).modeName = .auto ∧ manual.mvq.queue = []
    ∧ (∀ k, manual.slot k = none) ∧ halted.modeName = .halted ∧ halted.haltActive = false := by decide +kernel

/-- For ModeCommands, refused. -/
theorem witness_mode_commands_refused : manual.modeName ≠ .config ∧ (tripped State.reset).haltActive = true
    ∧ (tripped State.reset).modeName = .config
    ∧ (∃ n, ((State.reset.setConn 0 { live with link := .unseen }).conn n).present = true
        ∧ ((State.reset.setConn 0 { live with link := .unseen }).conn n).link = .unseen)
    ∧ (State.reset.setConn 0 { live with link := .unseen }).haltActive = false ∧ riding.modeName = .rideThrough
    ∧ queued.mvq.queue ≠ [] ∧ (∃ k, (inSlot .gap none).slot k ≠ none) ∧ (tripped halted).modeName = .halted
    ∧ (tripped halted).haltActive = true := by decide +kernel

/-- For RestartTaken. -/
theorem witness_restart : riding.portFree .operator ∧ riding.mdc.authority = .operator := by decide +kernel

/-- Queries are pending. -/
def asking (qs : List Query) : State := { manual with sbc := { manual.sbc with queries := qs } }

def query (n : ConnId) : Query := { link := .service, conn := n, onBus := true, answered := false }

/-- The service link's query of connection 1 is on the bus. -/
def queryOnBus : State :=
  asked ((asking [query 0]).setPort .service { freshPort with answer := .answering 0x0C 3 none }) .passThrough

/-- Connection 1's transfer stands in slot 0 with a chatter hold deferred. -/
def deferredHold : State :=
  (inSlot .gap (some 0)).setConn 0 { live with recordLink := some 7, chatterPending := true, uncommanded := 3 }

/-- For RestartTaken: a deferred hold, a link that waits for a query, and a link that does not. -/
theorem witness_restart_kept : (record 0 7 .operator 3).conn = 0
    ∧ deferredHold.slotRecords.map (·.conn) = [0] ∧ (deferredHold.conn 0).chatterPending = true
    ∧ deferredHold.params.chatterLimit ≤ (deferredHold.conn 0).uncommanded
    ∧ deferredHold.params.chatterHold = true ∧ (deferredHold.conn 0).hold = none
    ∧ (∃ q ∈ queryOnBus.sbc.queries, q.answered = false ∧ q.link ≠ .operator
      ∧ (queryOnBus.port q.link).answer = .answering 0x0C 3 none)
    ∧ (∀ q ∈ riding.sbc.queries, q.link = .service → q.answered = true) ∧ Link.service ≠ .operator := by decide +kernel

/-- An EDGE input whose line stands active, its status cleared by CLEAR_INPUTS. -/
def standing : State :=
  manual.setInput .rlyTrip { manual.input .rlyTrip with debounced := true, sampled := true }

/-- For ParametersStoreTheTable, the frames and the types. -/
theorem witness_writes : (manual.writeParam .neutralLimit 200).isSome = true
    ∧ (manual.writeParam (.inputType .rlyTrip) 1).isSome = true ∧ (manual.input .rlyTrip).level = false
    ∧ (manual.input .rlyTrip).debounced = false ∧ (standing.input .rlyTrip).debounced = true
    ∧ (standing.input .rlyTrip).status = false ∧ standing.masked .rlyTrip = true
    ∧ haltSourceOf .rlyTrip = some .rlyTrip ∧ manual.masked .door = false ∧ haltSourceOf .door = some .door
    ∧ (manual.input .rlyBlock).level = true ∧ Param.vLow ≠ .vHigh := by decide +kernel

/-- For EsRetryTaken, ClearEventsTaken, ClearInputsTaken (a link in control and one that is not). -/
theorem witness_esRetry : (withStore .fault).portFree .operator ∧ (withStore .fault).mdc.authority = .operator
    ∧ (withStore .fault).esm.store = .fault ∧ (withStore .fault).params.readyLevel ≤ (withStore .fault).esm.voltage
    ∧ (State.reset.setStore .fault).esm.voltage < (State.reset.setStore .fault).params.readyLevel
    ∧ manual.esm.store ≠ .fault ∧ manual.mdc.authority ≠ .service := by decide +kernel

/-- For SetTimeTaken. -/
theorem witness_setTime : manual.portFree .operator ∧ manual.mdc.authority = .operator ∧ manual.tbs.endDue = false
    ∧ (86399 : Word).toNat ≤ 86399 ∧ manual.modeName ≠ .auto ∧ (inMode (.base .auto)).modeName = .auto := by
  decide +kernel

/-- For QueryModuleJoinsTheList. -/
theorem witness_queryModule : (asking [query 0, query 1]).portFree .operator
    ∧ 2 ≤ (asking [query 0, query 1]).sbc.queries.length ∧ (∃ q ∈ (asking [query 95]).sbc.queries, q.conn = 95)
    ∧ (asking [query 0]).sbc.queries.length < 2 ∧ (∀ q ∈ (asking [query 0]).sbc.queries, q.conn ≠ 95) := by
  decide +kernel

/-- For BusRepliesRoundTrip. -/
theorem witness_bus_replies : (-32000 : Int) ≤ { report none 0 with load := -32000 }.load
    ∧ { report none 0 with load := 32000 }.load ≤ (32000 : Int)
    ∧ ActOutcome.reject .localLockout ∈ (if true then [.accept, .reject .notClosed, .reject .localLockout]
        else [.accept, .reject .notOpen, .reject .phaseDead, .reject .localLockout] : List ActOutcome)
    ∧ ActOutcome.reject .phaseDead ∈ (if false then [.accept, .reject .notClosed, .reject .localLockout]
        else [.accept, .reject .notOpen, .reject .phaseDead, .reject .localLockout] : List ActOutcome) := by decide

/-- For SurveyReplyApplied. -/
theorem witness_survey_reply :
    (asked manual .survey).sbc.txn = some { conn := 0, purpose := .survey, lastUnit := 2 }
      ∧ (asked manual .probe).sbc.txn = some { conn := 0, purpose := .probe, lastUnit := 2 }
      ∧ (asked manual .survey).now ≤ (asked manual .survey).sbc.boundaryAt + 2 * (asked manual .survey).sbc.unitLength
      ∧ (manual.conn 95).present = false ∧ -32000 ≤ (report none 0).load ∧ (report none 0).load ≤ 32000
      ∧ ((asked manual .survey).conn 0).present = true ∧ (asked manual .survey).slotOf 0 = none
      ∧ uncommandedFound (manual.conn 0) (report (some .A) 0) = 0
      ∧ 0 < uncommandedFound (manual.conn 0) (report (some .B) 0)
      ∧ 0 < uncommandedFound (manual.conn 0) (report (some .B) 255) := by decide +kernel

/-- For SurveyReplyApplied and PassThroughAnswered, the connection's record in a slot at each stage. -/
theorem witness_reply_in_slot (stage : Stage) :
    let s := asked (inSlot stage (some 0)) .survey
    let q : Query := { link := .service, conn := 0, onBus := true, answered := false }
    let port : Port := { freshPort with answer := .answering 0x0C 3 none }
    let w : State := { inSlot stage (some 0) with sbc := { (inSlot stage (some 0)).sbc with queries := [q] } }
    let v := (asked w .passThrough).setPort .service port
    s.sbc.txn = some { conn := 0, purpose := .survey, lastUnit := 2 } ∧ s.slotOf 0 = some 0
      ∧ s.slot 0 = some (slotAt { record 0 7 .operator 3 with breakTime := some 0 } stage 5)
      ∧ s.now ≤ s.sbc.boundaryAt + 2 * s.sbc.unitLength
      ∧ v.sbc.txn = some { conn := 0, purpose := .passThrough, lastUnit := 2 } ∧ v.sbc.queries = [q]
      ∧ (v.port .service).answer = .answering 0x0C 3 none ∧ v.slotOf 0 = some 0 ∧ v.slot 0 = s.slot 0
      ∧ v.now ≤ v.sbc.boundaryAt + 2 * v.sbc.unitLength := by cases stage <;> decide +kernel

/-- For UncommandedChangesCounted. -/
theorem witness_uncommanded_cases : freshConn.link = .unseen ∧ live.link ≠ .unseen ∧ live.pendingAct = none
    ∧ missedMake.pendingAct = some { before := .off, intended := .on .B, state := .unanswered }
    ∧ missedMake.link ≠ .unseen ∧ Confirmed.ofClosed (report (some .B) 14).closed = .on .B
    ∧ Confirmed.ofClosed (report (some .C) 14).closed ≠ .off
    ∧ Confirmed.ofClosed (report (some .C) 14).closed ≠ .on .B ∧ (report (some .C) 14).counter ≠ live.expected
    ∧ (report (some .C) 0).counter = live.expected := by decide

/-- A module closed onto A, and one that is open. -/
def closedModule : Module :=
  { address := 0, switch := some .A, lastClosed := .A, counter := 0, localOp := false, fault := false, accepted := none,
    closing := none, openedAt := none, orphanMs := 2000, energy := 0, averagedFrom := 0, typeCode := 0, serial := 0,
    operations := 0 }

def openModule : Module := { closedModule with switch := none }

/-- For CommandedChangesNeverCounted. -/
theorem witness_modules : live.present = true ∧ live.link ≠ .unseen ∧ closedModule.counter = live.expected
    ∧ live.phase = Confirmed.ofClosed closedModule.switch
    ∧ ({ live with phase := .off } : Conn).phase = Confirmed.ofClosed openModule.switch
    ∧ closedModule.onBreak.2 = .accept ∧ (openModule.onMake .B true).2 = .accept := by decide

/-- The BREAK of connection 1 in slot 0 is on the bus, its grant made in this frame. -/
def breaking : State :=
  let s := asked (inSlot .breaking none) (.actuation 0 5 .brk (.on .A) .off)
  s.setStore (.recovery 0 { slot := 0, kind := .brk, conn := 0, recovery := 10, frame := 0 })

/-- For ActuationReplyTaken. -/
theorem witness_actuation_reply :
    breaking.sbc.txn = some { conn := 0, purpose := .actuation 0 5 .brk (.on .A) .off, lastUnit := 2 }
      ∧ breaking.slot 0 = some (slotAt (record 0 7 .operator 3) .breaking 5)
      ∧ (slotAt (record 0 7 .operator 3) .breaking 5).order = 5 ∧ (breaking.conn 0).present = true
      ∧ (breaking.conn 0).link ≠ .unseen
      ∧ breaking.sbc.frame = 0 ∧ breaking.now ≤ breaking.sbc.boundaryAt + 2 * breaking.sbc.unitLength
      ∧ breaking.esm.store = .recovery 0 { slot := 0, kind := .brk, conn := 0, recovery := 10, frame := 0 } := by decide +kernel

/-- The verify poll of connection 1 in slot 0 is on the bus; the slot's last actuation ended at instant 0. -/
def verifying (stage : Stage) (r : MoveRec) : State :=
  let act : LastAct := { kind := .ret, named := some .B, frame := 0, frameEnd := some 0 }
  asked ((inSlot stage none).setSlot 0 (some { slotAt r stage 5 with lastAct := some act })) (.verify 0 5)

/-- The record of connection 1 after so many attempts of each kind, its break confirmed at instant 0. -/
def tried (attempts : Nat) (cancel : Bool) : MoveRec :=
  { record 0 7 .operator 3 with
    breaks := attempts, makes := attempts, returns := attempts, cancel := cancel, breakTime := some 0 }

/-- For ActuationReplyTaken, the verify polls at every stage. -/
theorem witness_verify (stage : Stage) :
    let s := verifying stage (tried 2 false)
    let act : LastAct := { kind := .ret, named := some .B, frame := 0, frameEnd := some 0 }
    s.sbc.txn = some { conn := 0, purpose := .verify 0 5, lastUnit := 2 }
      ∧ s.slot 0 = some { slotAt (tried 2 false) stage 5 with lastAct := some act } ∧ (tried 2 false).conn = 0
      ∧ s.now ≤ s.sbc.boundaryAt + 2 * s.sbc.unitLength ∧ s.now < 0 + msToTicks (s.timing 0).gap
      ∧ s.now < 0 + msToTicks ((s.timing 0).orphan - 300) ∧ s.health .A ≠ .lost ∧ s.health .B = .healthy
      ∧ s.modeName ≠ .rideThrough := by cases stage <;> decide +kernel

/-- The MAKE, or the RETURN, of connection 1 in slot 0 is on the bus, its grant made in this frame. -/
def closing (kind : ActKind) (r : MoveRec) : State :=
  let s := (inSlot .making none).setSlot 0 (some { slotAt r .making 5 with stage := kind.stage })
  (asked s (.actuation 0 5 kind .off (.on .B))).setStore
    (.recovery 0 { slot := 0, kind := kind, conn := 0, recovery := 10, frame := 0 })

/-- For ActuationReplyTaken, the rejects: at the second and the third attempt, for a record and an UNSEEN one. -/
theorem witness_rejects :
    (closing .make (tried 2 false)).sbc.txn
        = some { conn := 0, purpose := .actuation 0 5 .make .off (.on .B), lastUnit := 2 }
      ∧ (closing .make (tried 2 false)).slot 0 = some (slotAt (tried 2 false) .making 5)
      ∧ (closing .ret (tried 3 true)).slot 0 = some (slotAt (tried 3 true) .returning 5)
      ∧ (closing .ret (tried 3 true)).esm.store
        = .recovery 0 { slot := 0, kind := .ret, conn := 0, recovery := 10, frame := 0 }
      ∧ (closing .ret (tried 3 true)).sbc.frame = 0 ∧ (tried 2 false).breakTime = some 0
      ∧ (closing .make (tried 2 false)).now
        ≤ (closing .make (tried 2 false)).sbc.boundaryAt + 2 * (closing .make (tried 2 false)).sbc.unitLength
      ∧ (closing .make (tried 2 false)).health .B = .healthy
      ∧ (closing .make (tried 2 false)).returnable (tried 2 false) 0
      ∧ ¬ ({ closing .make (tried 2 false) with now := 543129600 } : State).returnable (tried 2 false) 0 := by
  decide +kernel

/-- For ActuationReplyTaken: the gap point at 60 ms has been reached, and lies ahead. -/
theorem witness_gap_reached : (0 : Nat) + msToTicks ((verifying .breaking (tried 2 false)).timing 0).gap = 19169280
    ∧ ({ verifying .breaking (tried 2 false) with now := 19169280 } : State).slot 0
      = (verifying .breaking (tried 2 false)).slot 0 := by decide +kernel

/-- For ActuationReplyTaken, the records and the phases a verify poll is judged by. -/
theorem witness_verify_cases : (tried 2 true).cancel = true ∧ (tried 2 false).cancel = false
    ∧ 3 ≤ (tried 3 false).breaks ∧ (tried 2 false).breaks < 3 ∧ 3 ≤ (tried 3 false).makes ∧ (tried 2 false).makes < 3
    ∧ 3 ≤ (tried 3 false).returns ∧ (tried 2 false).returns < 3 ∧ (tried 2 false).breakTime = some 0
    ∧ (tried 2 false).source = .A ∧ (tried 2 false).target = .B ∧ Phase.C ≠ .A ∧ Phase.C ≠ .B ∧ Phase.A ≠ .B := by
  decide

/-- For ActuationReplyTaken: BREAKING seen closed, with a chatter hold pending, with none, and in RIDE_THROUGH. -/
theorem witness_verify_breaking :
    let seen := fun (s : State) => (s.setTxn none).applyReply 0 (report (some .A) 0)
    let pending := (verifying .breaking (tried 2 false)).setConn 0
      { live with recordLink := some 7, chatterPending := true }
    ((seen pending).conn 0).chatterPending = true ∧ pending.slot 0 = (verifying .breaking (tried 2 false)).slot 0
      ∧ ((seen (verifying .breaking (tried 2 false))).conn 0).chatterPending = false
      ∧ ((verifying .breaking (tried 2 false)).setMode (.rideThrough .manual)).modeName = .rideThrough := by
  decide +kernel

/-- For ActuationReplyTaken: MAP_FAULT set already, unmasked and masked. -/
theorem witness_map_fault : (after (.clearInputs .operator 1 [0x80]) manual).ilu.mapFault = false
    ∧ ({ manual with ilu := { manual.ilu with mapFault := true } } : State).ilu.mapFault = true
    ∧ manual.ilu.mapFault = false ∧ manual.params.haltMask.getLsbD 7 = true ∧ manual.modeName = .manual
    ∧ ({ manual.params with haltMask := 0x63 } : Params).haltMask.getLsbD 7 = false := by decide +kernel

/-- For MissedTransactionHandedOn. -/
theorem witness_missed : (manual.conn 0).link ≠ .offline ∧ (manual.conn 0).missedRun < 2
    ∧ ((withConn { live with missedRun := 1 }).conn 0).missedRun < 2
    ∧ 2 ≤ ((withConn { live with missedRun := 2 }).conn 0).missedRun
    ∧ ((withConn { live with missedRun := 2 }).conn 0).link ≠ .offline
    ∧ ((withConn { live with missedRun := 2 }).conn 0).present = true
    ∧ ((withConn { live with link := .offline }).conn 0).link = .offline
    ∧ ((withConn { live with link := .offline }).conn 0).present = true ∧ (manual.conn 95).present = false
    ∧ (manual.setTxn (some { conn := 95, purpose := .survey, lastUnit := 1 })).sbc.txn
      = some { conn := 95, purpose := .survey, lastUnit := 1 }
    ∧ breaking.sbc.txn = some { conn := 0, purpose := .actuation 0 5 .brk (.on .A) .off, lastUnit := 2 }
    ∧ breaking.slot 0 = some (slotAt (record 0 7 .operator 3) .breaking 5) := by decide +kernel

/-- A slot whose verify poll has been missed so often in a row. -/
def unheard (misses : Nat) : State :=
  asked ((inSlot .breaking none).setSlot 0 (some { slotAt (record 0 7 .operator 3) .breaking 5 with misses := misses }))
    (.verify 0 5)

/-- For MissedTransactionHandedOn, the verify polls. -/
theorem witness_verify_missed :
    (unheard 1).slot 0 = some { slotAt (record 0 7 .operator 3) .breaking 5 with misses := 1 }
      ∧ (unheard 2).slot 0 = some { slotAt (record 0 7 .operator 3) .breaking 5 with misses := 2 }
      ∧ (unheard 2).sbc.txn = some { conn := 0, purpose := .verify 0 5, lastUnit := 2 } := by decide +kernel

/-- A query that RESTART has answered already (R173). -/
def orphanQuery : State :=
  asked (asking [{ query 0 with answered := true }]) .passThrough

/-- For MissedTransactionHandedOn, the queries. -/
theorem witness_query_missed : queryOnBus.sbc.queries = [query 0] ∧ (query 0).answered = false
    ∧ (queryOnBus.port (query 0).link).answer = .answering 0x0C 3 none
    ∧ orphanQuery.sbc.queries = [{ query 0 with answered := true }]
    ∧ orphanQuery.sbc.txn = some { conn := 0, purpose := .passThrough, lastUnit := 2 } := by decide +kernel

/-- For MissedTransactionHandedOn: two units after the boundary the window of a transaction of two units closes. -/
theorem witness_past_window : (asked manual .survey).sbc.boundaryAt + 2 * (asked manual .survey).sbc.unitLength = 983040
    ∧ ({ asked manual .survey with now := 983041 } : State).sbc.txn
      = some { conn := 0, purpose := .survey, lastUnit := 2 } := by decide +kernel

/-- For PassThroughAnswered. -/
theorem witness_pass_through :
    queryOnBus.sbc.txn = some { conn := 0, purpose := .passThrough, lastUnit := 2 }
      ∧ queryOnBus.sbc.queries = [query 0] ∧ (query 0).conn = 0 ∧ (query 0).onBus = true
      ∧ (query 0).answered = false ∧ (queryOnBus.port (query 0).link).answer = .answering 0x0C 3 none
      ∧ queryOnBus.slotOf 0 = none ∧ (queryOnBus.conn 0).present = true
      ∧ queryOnBus.now ≤ queryOnBus.sbc.boundaryAt + 2 * queryOnBus.sbc.unitLength := by decide +kernel

/-- A boundary is due. -/
def atBoundary (s : State) : State := { s with sbc := { s.sbc with boundaryDue := true } }

/-- For FrameBoundaryTaken. -/
theorem witness_boundary : manual.boundaryInstant = none ∧ (atBoundary manual).boundaryInstant = some 0
    ∧ State.reset.boundaryInstant = some 6389760 ∧ State.reset.sbc.boundaryDue = false
    ∧ State.reset.sbc.alignment = none ∧ manual.sbc.alignment ≠ none ∧ manual.sbc.boundaryDue = false
    ∧ (atBoundary manual).sbc.boundaryDue = true ∧ ((atBoundary manual).beforeGrant 0).chosen = none
    ∧ ((atBoundary (inSlot .waitBreak none)).beforeGrant 0).chosen = some { slot := 0, kind := .brk, order := 5 } := by
  decide +kernel

/-- For GrantRankedAndSent, the choice. -/
theorem witness_grant : (withStore .fault).esm.store ≠ .ready ∧ threeSlots.esm.store = .ready
    ∧ (∃ k sl kind, threeSlots.slot k = some sl ∧ threeSlots.request sl = some kind) := by
  refine ⟨by decide +kernel, by decide +kernel, 1, slotAt (record 13 1 .operator 1) .waitBreak 10, .brk, ?_, ?_⟩ <;>
    decide +kernel

/-- For GrantRankedAndSent, the sending. -/
theorem witness_break_granted :
    (atBoundary (inSlot .waitBreak none)).boundaryInstant = some 0
      ∧ (atBoundary (inSlot .waitBreak none)).sbc.txn = none
      ∧ (atBoundary (inSlot .waitBreak none)).esm.store = .ready
      ∧ (atBoundary (inSlot .waitBreak none)).slot 0 = some (slotAt (record 0 7 .operator 3) .waitBreak 5)
      ∧ (∀ j, j ≠ 0 → (atBoundary (inSlot .waitBreak none)).slot j = none)
      ∧ ((atBoundary (inSlot .waitBreak none)).conn 0).link = .online
      ∧ (atBoundary (inSlot .waitBreak none)).health .B = .healthy := by decide +kernel

/-- Claims for the next unit. -/
def claiming (s : State) (polls : List SlotId) (qs : List Query) (unit : Nat) : State :=
  { s with sbc := { s.sbc with verifyPolls := polls, queries := qs, unit := unit } }

def waitingQuery : Query := { link := .service, conn := 95, onBus := false, answered := false }

/-- For UnitGoesToTheFirstClaim. -/
theorem witness_claims : (claiming (inSlot .breaking none) [0] [] 11).sbc.txn = none
    ∧ (claiming (inSlot .breaking none) [0] [] 11).sbc.busyThrough ≤ 11
    ∧ (claiming (inSlot .breaking none) [0] [] 11).sbc.verifyPolls = 0 :: []
    ∧ (claiming (inSlot .breaking none) [0] [] 11).slot 0 = some (slotAt (record 0 7 .operator 3) .breaking 5)
    ∧ (claiming manual [] [waitingQuery] 10).sbc.queries = waitingQuery :: [] ∧ waitingQuery.onBus = false
    ∧ (claiming manual [] [waitingQuery] 10).sbc.unit < 11
    ∧ (claiming (withConn { live with link := .offline }) [] [] 0).claimProbe = some 0
    ∧ (claiming manual [] [] 0).claimProbe = none ∧ (claiming manual [] [] 0).claimSurvey = some 0
    ∧ 0 ∉ (claiming manual [] [] 0).sbc.surveyed ∧ (claiming State.reset [] [] 0).claimProbe = none
    ∧ (claiming State.reset [] [] 0).claimSurvey = none := by decide +kernel

/-- Connection 1 alone is present and has been polled in this frame. -/
def polledRound : State :=
  let s := claiming manual [] [] 3
  { s with sbc := { s.sbc with surveyed := [0], surveyPos := 1 } }

/-- For UnitGoesToTheFirstClaim: the survey comes round, and the positions at the top of their range. -/
theorem witness_survey_round : polledRound.claimProbe = none ∧ polledRound.claimSurvey = some 0
    ∧ 0 ∈ polledRound.sbc.surveyed ∧ polledRound.sbc.busyThrough ≤ 3 ∧ polledRound.sbc.txn = none
    ∧ ({ polledRound.sbc with surveyPos := 96, probePos := 96 } : Sbc).surveyPos ≤ 96
    ∧ ({ polledRound.sbc with surveyPos := 96, probePos := 96 } : Sbc).probePos ≤ 96 := by decide +kernel

/-- For StoreEventsTaken, renewals. -/
theorem witness_store_renewal : (withStore (.charging 0 10000)).esm.store = .charging 0 10000
    ∧ manual.params.readyLevel = 600 ∧ 600 ≤ min 1200 (60000 / 100) ∧ min 1200 (59999 / 100) < 600
    ∧ min 1200 (57999 / 100) + 20 < 600 ∧ 600 ≤ min 1200 (58000 / 100) + 20 ∧ manual.esm.store = .ready := by
  decide +kernel

/-- For StoreEventsTaken, the timeout. -/
theorem witness_charge_timeout : (withStore (.charging 0 10000)).modeName = .manual
    ∧ { manual.params with haltMask := 0x40 }.haltMask.getLsbD 6 = true
    ∧ (withStore (.charging 0 10000)).params.haltMask.getLsbD 6 = true
    ∧ { manual.params with haltMask := 0xA3 }.haltMask.getLsbD 6 = false := by decide +kernel

/-- The ninth boundary of a recovery of 10 frames has passed, and the tenth is due. -/
def recovering : State :=
  atBoundary (withStore (.recovery 9 { slot := 0, kind := .brk, conn := 0, recovery := 10, frame := 0 }))

/-- For StoreEventsTaken, the recovery. -/
theorem witness_recovery_end : recovering.boundaryInstant = some 0
    ∧ recovering.esm.store = .recovery 9 { slot := 0, kind := .brk, conn := 0, recovery := 10, frame := 0 }
    ∧ 10 ≤ 9 + 1 ∧ recovering.params.readyLevel ≤ recovering.esm.voltage
    ∧ 599 < recovering.params.readyLevel := by decide +kernel

/-- For SlotDeadlines. -/
theorem witness_slot_deadlines (stage : Stage) :
    (inSlot stage (some 0)).slot 0 = some (slotAt { record 0 7 .operator 3 with breakTime := some 0 } stage 5)
      ∧ (inSlot stage (some 0)).health .B = .healthy
      ∧ max (inSlot stage (some 0)).now (0 + msToTicks ((inSlot stage (some 0)).timing 0).gap)
          < 0 + msToTicks (((inSlot stage (some 0)).timing 0).orphan - 300)
      ∧ max (inSlot stage (some 0)).now (0 + msToTicks (((inSlot stage (some 0)).timing 0).orphan - 300))
          < 0 + msToTicks (((inSlot stage (some 0)).timing 0).orphan + 1000) := by
  cases stage <;> decide +kernel

/-- For SlotDeadlines: the to phase not HEALTHY, and an instant past the dark deadline. -/
theorem witness_deadlines_passed :
    ((inSlot .gap (some 0)).setChan .B { healthyPhase with health := .lost }).health .B ≠ .healthy
      ∧ ((inSlot .gap (some 0)).setChan .B { healthyPhase with health := .lost }).slot 0
        = some (slotAt { record 0 7 .operator 3 with breakTime := some 0 } .gap 5)
      ∧ 0 + msToTicks (((inSlot .waitMake (some 0)).timing 0).orphan + 1000) = 958464000
      ∧ ({ inSlot .waitMake (some 0) with now := 958464000 } : State).slot 0 = (inSlot .waitMake (some 0)).slot 0 := by
  decide +kernel

/-- For AdmissionTaken. -/
theorem witness_admission : riding.modeName ≠ .manual ∧ riding.modeName ≠ .auto ∧ queued.modeName = .manual
    ∧ queued.mvq.queue = [record 0 7 .operator 3] ∧ (∀ k, queued.slot k = none) ∧ (queued.conn 0).present = true
    ∧ (queued.conn 0).phase = .on .A ∧ (queued.conn 0).pin = false ∧ (queued.conn 0).hold = none
    ∧ (queued.conn 0).link = .online ∧ queued.health .B = .healthy ∧ (queued.conn 0).movesToday < 15
    ∧ (queued.conn 0).movesToday < (queued.conn 0).allowance := by decide +kernel

/-- The waiting record of connection 1, its connection as given. -/
def queuedWith (c : Conn) : State := queued.setConn 0 { c with recordLink := some 7 }

/-- For AdmissionTaken, the checks that fail. -/
theorem witness_admission_fails : ((queuedWith { live with present := false }).conn 0).present = false
    ∧ ((queuedWith { live with phase := .on .B }).conn 0).phase ≠ .on .A
    ∧ ((queuedWith { live with pin := true }).conn 0).pin = true
    ∧ ((queuedWith { live with hold := some .operator }).conn 0).hold ≠ none
    ∧ ((queuedWith { live with link := .offline }).conn 0).link ≠ .online
    ∧ (queued.setChan .B { healthyPhase with health := .lost }).health .B ≠ .healthy
    ∧ 15 ≤ ((queuedWith { live with movesToday := 15 }).conn 0).movesToday
    ∧ (queuedWith { live with movesToday := 15 }).mvq.queue = [record 0 7 .operator 3] := by decide +kernel

/-- Every slot but slot 3 is occupied. -/
def lastSlotFree : State :=
  let taken := fun k => some (slotAt (record 9 k .service 1) .gap 1)
  (((queued.setSlot 0 (taken 1)).setSlot 1 (taken 2)).setSlot 2 (taken 3))

/-- For AdmissionTaken, the lowest free slot. -/
theorem witness_admission_slots : lastSlotFree.slot 3 = none ∧ (∀ j, j < 3 → lastSlotFree.slot j ≠ none)
    ∧ (∀ k, (lastSlotFree.setSlot 3 (some (slotAt (record 9 4 .service 1) .gap 1))).slot k ≠ none) := by
  decide +kernel

/-- For InputKeyAndWarningEvents, samples. -/
theorem witness_inputs : (true == (manual.input .rlyBlock).polarityHigh) ≠ (manual.input .rlyBlock).debounced
    ∧ 0 < (manual.input .rlyBlock).debounce
    ∧ (false == (manual.input .rlyBlock).polarityHigh) = (manual.input .rlyBlock).debounced
    ∧ (manual.input .rlyBlock).run = none := by decide +kernel

/-- The key line has stood at its new level for 100 samples. -/
def turning : State := manual.setInput .keyLocal { manual.input .keyLocal with run := some 99 }

/-- For InputKeyAndWarningEvents, the key. -/
theorem witness_key : (turning.input .keyLocal).level = true
    ∧ (true == (turning.input .keyLocal).polarityHigh) ≠ (turning.input .keyLocal).debounced
    ∧ (turning.input .keyLocal).debounce ≤ 99 + 1 ∧ (turning.input .keyLocal).run = some 99 := by decide +kernel

/-- For InputKeyAndWarningEvents, the supply warning. -/
theorem witness_supply : (manual.input .supplyWarn).level = true ∧ (manual.input .supplyWarn).debounced = false
    ∧ true = (manual.input .supplyWarn).polarityHigh ∧ (manual.input .supplyWarn).debounce ≤ 0
    ∧ (manual.input .supplyWarn).run = none ∧ manual.ilu.supply = .clear ∧ manual.mdc.mode = .base .manual
    ∧ (∀ k, manual.slot k = none) ∧ crowded.mvq.queue.length ≤ 16
    ∧ (riding.setSupply (.clearing 0)).ilu.supply = .clearing 0
    ∧ (riding.setSupply (.clearing 0)).mdc.mode = .rideThrough .manual
    ∧ (riding.setSupply (.clearing 0)).mvq.queue = [] ∧ ((inMode (.rideThrough .halted)).mdc.mode = .rideThrough .halted)
    ∧ ((inMode (.rideThrough .config)).mdc.mode = .rideThrough .config) := by decide +kernel

/-- For InputKeyAndWarningEvents: a record handed back to an empty queue, and to a full one. -/
theorem witness_hand_back : (inSlot .waitBreak none).slot 0 = some (slotAt (record 0 7 .operator 3) .waitBreak 5)
    ∧ (∀ j, j ≠ 0 → (inSlot .waitBreak none).slotStage j ≠ some .waitBreak)
    ∧ (insertRec (record 0 7 .operator 3) (inSlot .waitBreak none).mvq.queue).length ≤ 16
    ∧ (insertRec (record 0 7 .operator 3) crowded.mvq.queue).length = 17
    ∧ ((insertRec (record 0 7 .operator 3) crowded.mvq.queue).getLast?.map (·.seq)) = some 615
    ∧ (∀ k, (inSlot .gap (some 0)).slotStage k ≠ some .waitBreak) := by decide +kernel

/-- The warning line has gone inactive, and has come back while the clearing timer runs. -/
def warned (debounced : Bool) (x : SupplyState) : State :=
  (riding.setInput .supplyWarn { riding.input .supplyWarn with debounced := debounced }).setSupply x

/-- For InputKeyAndWarningEvents: WARNING to CLEARING, and back. -/
theorem witness_warning_turns : ((warned true .warning).input .supplyWarn).level = true
    ∧ (false == ((warned true .warning).input .supplyWarn).polarityHigh)
      ≠ ((warned true .warning).input .supplyWarn).debounced
    ∧ ((warned true .warning).input .supplyWarn).debounce ≤ 0 ∧ ((warned true .warning).input .supplyWarn).run = none
    ∧ ((warned true .warning).input .supplyWarn).debounced = true ∧ (warned true .warning).ilu.supply = .warning
    ∧ ((warned false (.clearing 0)).input .supplyWarn).debounced = false
    ∧ (true == ((warned false (.clearing 0)).input .supplyWarn).polarityHigh)
      ≠ ((warned false (.clearing 0)).input .supplyWarn).debounced
    ∧ (warned false (.clearing 0)).ilu.supply = .clearing 0 := by decide +kernel

/-- For MaskedEdgeHalts. -/
theorem witness_masked_edge : haltSourceOf .rlyTrip = some .rlyTrip ∧ manual.masked .rlyTrip = true
    ∧ (manual.input .rlyTrip).level = false ∧ (manual.input .rlyTrip).debounced = false
    ∧ (manual.input .rlyTrip).status = false ∧ (manual.input .rlyTrip).debounce ≤ 0
    ∧ (manual.input .rlyTrip).run = none ∧ manual.mdc.mode = .base .manual
    ∧ (∀ e ∈ manual.ilu.haltRecord, e.source ≠ .rlyTrip) := by decide +kernel

/-- The relay's blocking line, a LEVEL input, has stood at its new level for its debounce time, in a mode. -/
def blocking (m : Mode) : State := (inMode m).setInput .rlyBlock { manual.input .rlyBlock with run := some 19 }

/-- For MaskedEdgeHalts: a LEVEL input, a level that goes, a status set already, a source outside the mask, and the
modes. -/
theorem witness_input_changes (m : Mode) : haltSourceOf .rlyBlock = some .rlyBlock
    ∧ ((blocking m).input .rlyBlock).level = true ∧ (blocking m).masked .rlyBlock = true
    ∧ (true == ((blocking m).input .rlyBlock).polarityHigh) ≠ ((blocking m).input .rlyBlock).debounced
    ∧ ((blocking m).input .rlyBlock).debounce ≤ 19 + 1 ∧ ((blocking m).input .rlyBlock).run = some 19
    ∧ ((blocking m).input .rlyBlock).status = false ∧ (blocking m).mdc.mode = m
    ∧ manual.masked .door = false ∧ (standing.input .rlyTrip).debounce ≤ 0
    ∧ (false == (standing.input .rlyTrip).polarityHigh) ≠ (standing.input .rlyTrip).debounced
    ∧ ((tripped manual).input .rlyTrip).status = true := by
  cases m with
  | base b => cases b <;> decide +kernel
  | rideThrough b => cases b <;> decide +kernel

/-- For MaskedEdgeHalts: a slot at each stage when the blocking line completes its debounce. -/
theorem witness_halt_slots (stage : Stage) :
    let s := (inSlot stage (some 0)).setInput .rlyBlock { manual.input .rlyBlock with run := some 19 }
    s.mdc.mode = .base .manual ∧ s.masked .rlyBlock = true ∧ (s.input .rlyBlock).status = false
      ∧ s.slot 0 = some (slotAt { record 0 7 .operator 3 with breakTime := some 0 } stage 5) ∧ s.slot 1 = none := by
  cases stage <;> decide +kernel

/-- Phase A with an accepted sign and a run. -/
def sampled (sign : Option Bool) (last : Option Bool) (run : Nat) : State :=
  manual.setChan .A { healthyPhase with sign := sign, lastSign := last, run := run }

/-- For SamplePairFiltered. -/
theorem witness_samples : ((sampled (some true) none 3).chan .A).sign = some true
    ∧ decide ((0 : Int) < 100) = true ∧ decide ((0 : Int) < 0) ≠ true ∧ ((sampled (some true) none 2).chan .A).run < 3
    ∧ ((sampled none (some true) 3).chan .A).sign = none
    ∧ ((sampled none (some true) 3).chan .A).lastSign = some (decide ((0 : Int) < 100))
    ∧ ((sampled none (some true) 3).chan .A).run = 3 ∧ ((sampled none (some true) 2).chan .A).run < 3
    ∧ ((sampled none none 0).chan .A).lastSign ≠ some (decide ((0 : Int) < 100))
    ∧ ((sampled (some true) none 0).chan .A).run = 0 ∧ ((sampled (some true) none 3).chan .A).run = 3
    ∧ (0 : Int) ≤ 0 := by decide +kernel

/-- A crossing about to be accepted, the cycle in progress so many ticks long. -/
def crossing (length : Nat) : State :=
  manual.setChan .A { healthyPhase with
    sign := some false, run := 3, runPlace := 10000000, cycle := some { start := 10000000 - length, sums := noSums } }

/-- For CrossingAccepted. -/
theorem witness_crossing : ((crossing 3194880).chan .A).sign = some false ∧ ((crossing 3194880).chan .A).run = 3
    ∧ (crossing 3194880).period ≤ 2 * (((crossing 3194880).chan .A).runPlace - (10000000 - 3194880))
    ∧ 2 * (((crossing 3194879).chan .A).runPlace - (10000000 - 3194879)) < (crossing 3194879).period := by
  decide +kernel

/-- The crossing in AUTO of a phase A whose last two cycles were loss cycles, as the one it completes is. -/
def lostCrossing : State :=
  ((crossing 3194880).setMode (.base .auto)).setChan .A { (crossing 3194880).chan .A with lossRun := 2 }

/-- For CrossingAccepted: the loss and its report, and phase A HEALTHY after one loss cycle. -/
theorem witness_crossing_lost : (lostCrossing.chan .A).sign = some false ∧ (lostCrossing.chan .A).run = 3
    ∧ (evaluate lostCrossing.params (lostCrossing.chan .A) (cycleValues noSums).rmsV).health = .lost
    ∧ lostCrossing.modeName = .auto ∧ lostCrossing.params.rescue = true ∧ (lostCrossing.chan .A).started = true
    ∧ (evaluate manual.params ((crossing 3194880).chan .A) (cycleValues noSums).rmsV).health = .healthy := by
  decide +kernel

/-- For CrossingAccepted: a cycle that takes phase A out of HEALTHY, one that takes it LOST, and one that leaves it so;
a boundary due and one too soon. -/
theorem witness_crossing_judged : (evaluate defaultParams { healthyPhase with outRun := 9 } 2000).health = .degraded
    ∧ (evaluate defaultParams { healthyPhase with lossRun := 2 } 1000).health = .lost
    ∧ (evaluate defaultParams healthyPhase 2300).health = .healthy
    ∧ (evaluate defaultParams { healthyPhase with health := .recovering, inRun := 249 } 2300).health = .healthy
    ∧ healthyPhase.started = true ∧ (crossing 3194880).sbc.alignment = some .A
    ∧ (crossing 3194880).sbc.framePeriod ≤ 2 * (3194880 - (crossing 3194880).sbc.boundaryAt)
    ∧ ¬ ((crossing 3194880).sbc.framePeriod ≤ 2 * (3194879 - (crossing 3194880).sbc.boundaryAt)) := by decide +kernel

/-- For CyclesFormedAndJudged, the values. -/
theorem witness_cycle_values : 0 < (sumsOf 230000 5000).n ∧ (cycleValues (sumsOf 230000 5000)).rmsV < 4000 := by
  decide +kernel

/-- For CyclesFormedAndJudged, the boundaries of the bands. -/
theorem witness_health_rows : defaultParams.vLoss = 1150 ∧ 1149 < defaultParams.vLoss ∧ freshChannel.lossRun ≤ 3
    ∧ freshChannel.outRun ≤ 10 ∧ (2069 < defaultParams.vLow) ∧ ¬ (2070 < defaultParams.vLow)
    ∧ ¬ (defaultParams.vHigh < 2530) ∧ defaultParams.vHigh < 2531 ∧ defaultParams.restoreCount = 250 := by
  decide +kernel

/-- For CyclesFormedAndJudged, the parameters. -/
theorem witness_health_params : defaultParams.inRange := by
  unfold Params.inRange
  decide

/-- For LossAndNeutralEvents, the loss. -/
theorem witness_noCrossing : (manual.chan .B).noCrossing = false ∧ (manual.chan .B).health ≠ .lost
    ∧ manual.health .B = .healthy := by decide +kernel

/-- For LossAndNeutralEvents: the loss of a phase reported in AUTO, a slot at WAIT_MAKE and at WAIT_RETURN, and a phase
LOST already. -/
theorem witness_loss_handed_on : (inMode (.base .auto)).modeName = .auto ∧ manual.params.rescue = true
    ∧ (manual.chan .B).started = true
    ∧ (inSlot .waitMake (some 0)).slot 0 = some (slotAt { record 0 7 .operator 3 with breakTime := some 0 } .waitMake 5)
    ∧ (inSlot .waitReturn (some 0)).slot 1 = none ∧ (phaseAGone.chan .A).health = .lost
    ∧ (phaseAGone.chan .A).noCrossing = false := by decide +kernel

/-- A neutral window is complete. -/
def windowed (overcurrent : Bool) (overRun underRun : Nat) : State :=
  manual.setNeutral { manual.fmu.neutral with
    windowReady := true, windowCount := 1, overcurrent := overcurrent, overRun := overRun, underRun := underRun }

/-- For LossAndNeutralEvents, the neutral window. -/
theorem witness_neutral : (windowed false 49 0).fmu.neutral.windowReady = true
    ∧ (windowed false 49 0).fmu.neutral.overcurrent = false ∧ (windowed false 49 0).fmu.neutral.overRun = 49
    ∧ (windowed false 48 0).fmu.neutral.overRun < 49 ∧ manual.params.neutralLimit = 1500
    ∧ 1500 < neutralRms [150100] ∧ neutralRms [150000] ≤ 1500 ∧ (windowed true 0 49).fmu.neutral.overcurrent = true
    ∧ (windowed true 0 49).fmu.neutral.underRun = 49 ∧ (windowed true 0 48).fmu.neutral.underRun < 49
    ∧ neutralRms [134900] < 1500 * 9 / 10 ∧ 1500 * 9 / 10 ≤ neutralRms [135000]
    ∧ ([134900] : List Int).length = (windowed true 0 49).fmu.neutral.windowCount
    ∧ ([0, 0] : List Int).length ≠ (windowed true 0 49).fmu.neutral.windowCount := by decide +kernel

/-- For LossAndNeutralEvents, the window with all phases LOST and the window of the reference. -/
theorem witness_neutral_windows : State.reset.fmu.neutral.windowReady = false ∧ (∀ p, State.reset.health p = .lost)
    ∧ State.reset.fmu.neutral.windowStart = some 0 ∧ (List.replicate 128 (0 : Int)).length = 128
    ∧ (List.replicate 127 (0 : Int)).length ≠ 128 ∧ firstNotLost manual.fmu.chan = some .A
    ∧ (manual.setNeutral { manual.fmu.neutral with windowStart := some 7 }).fmu.neutral.windowStart = some 7 := by
  refine ⟨by decide +kernel, fun p => ?_, by decide +kernel, by simp, by simp, by decide +kernel, rfl⟩
  cases p <;> decide +kernel

/-- For TimeBaseEvents. -/
theorem witness_time_base : manual.tbs.endDue = false ∧ ({ manual.tbs with timeOfDay := 86398 } : Tbs).timeOfDay < 86399
    ∧ ({ manual with tbs := { manual.tbs with timeOfDay := 86399 } } : State).tbs.timeOfDay = 86399
    ∧ ({ manual with tbs := { manual.tbs with endDue := true } } : State).tbs.endDue = true
    ∧ 4 ≤ ({ live with accCount := 4 } : Conn).accCount ∧ ({ live with accCount := 3 } : Conn).accCount < 4 := by
  decide +kernel

/-- A PLANNER record of connection 1 has waited since epoch 0, and epoch 3 ends; in AUTO phase A is LOST. -/
def waited : State :=
  let s := phaseAGone.setConn 0 { live with recordLink := some 7 }
  { s with
    mvq := { s.mvq with queue := [record 0 7 .planner 3], seqCounter := 8, acceptCount := 4 }
    tbs := { s.tbs with epoch := 3, endDue := true } }

/-- For TimeBaseEvents, the signal of an epoch end. -/
theorem witness_epoch_signal : waited.tbs.endDue = true ∧ waited.modeName = .auto ∧ waited.params.rescue = true
    ∧ waited.health .A = .lost ∧ manual.modeName ≠ .auto ∧ waited.linked
    ∧ (∃ r ∈ waited.mvq.queue, r.origin = .planner ∧ r.acceptedEpoch ≠ 3 + 1 ∧ 2 ≤ (3 - r.acceptedEpoch).toNat)
    ∧ (∀ r ∈ waited.mvq.queue, r.conn ≠ 1) := by
  refine ⟨by decide +kernel, by decide +kernel, by decide +kernel, by decide +kernel, by decide +kernel,
    ⟨?_, ?_, ?_, ?_⟩, ?_, ?_⟩ <;> decide +kernel

/-- For PlannedRunLowersImbalance, the five checks. -/
theorem witness_plan_checks : manual.modeName ≠ .auto ∧ unbalanced.modeName = .auto ∧ phaseAGone.average .A = none
    ∧ unbalanced.average .A = some 30000 ∧ unbalanced.average .B = some 0 ∧ unbalanced.average .C = some 0
    ∧ (∃ r ∈ ({ unbalanced with mvq := waited.mvq } : State).records, r.origin = .planner)
    ∧ (∀ r ∈ ({ unbalanced with mvq := crowded.mvq } : State).records, r.origin ≠ .planner)
    ∧ 16 ≤ ({ unbalanced with mvq := crowded.mvq } : State).mvq.queue.length
    ∧ (∀ r ∈ unbalanced.records, r.origin ≠ .planner) ∧ unbalanced.mvq.queue.length < 16
    ∧ 3 * (unbalanced.params.wtrig : Int) < u3 ⟨30000, 0, 0⟩
    ∧ u3 ⟨3000, 1500, 0⟩ ≤ 3 * (unbalanced.params.wtrig : Int) := by decide +kernel

/-- For MovesChosenByGain. -/
theorem witness_choice : Phase.A ≠ .B
    ∧ (bestChoice (unbalanced.qualifiers 1 ⟨30000, 0, 0⟩ [])).map
        (fun c => (c.entry.conn, c.entry.target, c.entry.gain)) = some (0, .B, 12000) := by decide +kernel

/-- For PlannedRunLowersImbalance (R51, R54, R57): 4 kW moved off the phase 20 kW above the mean
lowers U3 from 60,000 to 48,000. -/
theorem witness_planned : (unbalanced.plannerRun 0 false).bpl.plan
    = some
      { epoch := 0, outcome := .planned, before := some 60000, after := some 48000,
        entries := [{ conn := 0, source := .A, target := .B, gain := 12000 }] } := by decide +kernel

/-- For RecordsOnlyFromCandidates. -/
theorem witness_records : (unbalanced.plannerRun 0 false).mvq.queue.map (fun r => (r.conn, r.origin)) = [(0, .planner)]
    ∧ unbalanced.mvq.queue = []
    ∧ (phaseAGone.rescuePass .loss).mvq.queue.map (fun r => (r.conn, r.origin)) = [(0, .rescue)]
    ∧ phaseAGone.mvq.queue = []
    ∧ ((phaseAGone.rescuePass .loss).bpl.rescue.map (·.accepted)) = some 1 := by decide +kernel

/-- For RecordsOnlyFromCandidates, the step and the target. -/
theorem witness_record_choice : (unbalanced.qualifying 1 ⟨30000, 0, 0⟩ [] 0 .B).isSome = true
    ∧ lowestPower ⟨0, 500, -500⟩ (phaseAGone.rescueTargets ⟨0, 500, -500⟩ .A 4000) = some .C
    ∧ lowestPower ⟨0, 500, 500⟩ (phaseAGone.rescueTargets ⟨0, 500, 500⟩ .A 4000) = some .B
    ∧ lowestPower ⟨0, 0, 0⟩ (phaseAGone.rescueTargets ⟨0, 0, 0⟩ .A 250001) = none := by decide +kernel

/-- For RecordsOnlyFromCandidates, the plan of a run and the records of a pass. -/
theorem witness_record_powers : unbalanced.allAverages = some ⟨30000, 0, 0⟩ ∧ phaseAGone.linked
    ∧ (∃ r ∈ (phaseAGone.rescuePass .loss).mvq.queue, phaseAGone.mvq.acceptCount ≤ r.order) := by
  refine ⟨by decide +kernel, ⟨?_, ?_, ?_, ?_⟩, by decide +kernel⟩ <;> decide +kernel

end Sys2Proof.Tests
end

section
/-! The values that almost every operation keeps: settings, ranges, lists and PIN. One relation between the state before
and the state after, one lemma for each operation, in the order of the model. -/

namespace Sys2Proof.Machine

open Sys2Proof

/-- A channel at the fallback sample interval samples at a 128th of a period (R27). -/
def PhaseChannel.followsPeriod (ch : PhaseChannel) (period : Nat) : Prop :=
  ch.fallback = true → ch.interval = period / 128

/-- What an operation on one record may do to it: PIN stays, the counts stay in their ranges, and a record without
loads that wait for the new epoch gets one only while an epoch end is owed (R11, R47). -/
structure Conn.Kept (endDue : Bool) (c d : Conn) : Prop where
  pin : d.pin = c.pin
  range : c.inRange → d.inRange
  next : endDue = false → c.nextSum = 0 ∧ c.nextCount = 0 → d.nextSum = 0 ∧ d.nextCount = 0

/-- What every operation keeps, but those that configure the part, turn the time, open a frame, read the store's
voltage, clock the summary port or take a query. -/
structure Kept (s t : State) : Prop where
  params : t.params = s.params
  classes : t.classes = s.classes
  tbs : t.tbs = s.tbs
  conn : ∀ n, (s.conn n).Kept s.tbs.endDue (t.conn n)
  chan : ∀ p, (s.chan p).followsPeriod s.period → (t.chan p).followsPeriod s.period
  history : s.mvq.history.length ≤ 32 → t.mvq.history.length ≤ 32
  queries : t.sbc.queries.length ≤ s.sbc.queries.length
  units : t.sbc.unitLength = s.sbc.unitLength ∧ t.sbc.framePeriod = s.sbc.framePeriod
  voltage : t.esm.voltage = s.esm.voltage
  debounce : ∀ i, (t.input i).debounce = (s.input i).debounce
  halts : s.ilu.haltRecord.Pairwise (fun x y => x.source ≠ y.source) →
    t.ilu.haltRecord.Pairwise (fun x y => x.source ≠ y.source)
  smp : t.smp.bit = s.smp.bit

theorem Conn.Kept.refl (b : Bool) (c : Conn) : c.Kept b c := ⟨rfl, id, fun _ => id⟩

theorem Conn.Kept.trans {b : Bool} {c d e : Conn} (h : c.Kept b d) (g : d.Kept b e) : c.Kept b e :=
  ⟨g.pin.trans h.pin, g.range ∘ h.range, fun hb => g.next hb ∘ h.next hb⟩

/-- A load counts in the running epoch, or in the new one while its end is owed (R47). -/
theorem Conn.Kept.countLoad (b : Bool) (load : Int) (c : Conn) : c.Kept b (Machine.countLoad b load c) := by
  unfold Machine.countLoad
  cases b
  · exact ⟨rfl, id, fun _ => id⟩
  · exact ⟨rfl, id, fun hb => nomatch hb⟩

variable {s t : State}

theorem Kept.refl (s : State) : Kept s s :=
  ⟨rfl, rfl, rfl, fun _ => .refl _ _, fun _ => id, id, le_rfl, ⟨rfl, rfl⟩, rfl, fun _ => rfl, id, rfl⟩

theorem Kept.period (h : Kept s t) : t.period = s.period := by
  simp [State.period, h.params]

theorem Kept.endDue (h : Kept s t) : t.tbs.endDue = s.tbs.endDue := by rw [h.tbs]

namespace Kept

theorem ite {P : Prop} [Decidable P] {u : State} (ht : Kept s t) (hu : Kept s u) : Kept s (if P then t else u) := by
  split
  · exact ht
  · exact hu

/-! ### The updates of one field -/

/-- A write to one record that it admits. -/
theorem setConn (h : Kept s t) {n : ConnId} {c : Conn} (hc : (t.conn n).Kept s.tbs.endDue c) :
    Kept s (t.setConn n c) :=
  { h with
    conn := fun m => by
      rw [State.conn_setConn]
      split
      · next e => exact e ▸ (h.conn n).trans hc
      · exact h.conn m }

theorem setSlot (h : Kept s t) {k : SlotId} {x : Option Slot} : Kept s (t.setSlot k x) := { h with }
theorem setQueue (h : Kept s t) {q : List MoveRec} : Kept s (t.setQueue q) := { h with }
theorem raise (h : Kept s t) {e : EventKind} : Kept s (t.raise e) := { h with }
theorem disturb (h : Kept s t) : Kept s t.disturb := { h with }
theorem setPort (h : Kept s t) {lk : Link} {p : Port} : Kept s (t.setPort lk p) := { h with }
theorem setMode (h : Kept s t) {m : Mode} : Kept s (t.setMode m) := { h with }
theorem setStore (h : Kept s t) {x : StoreState} : Kept s (t.setStore x) := { h with }
theorem setSupply (h : Kept s t) {x : SupplyState} : Kept s (t.setSupply x) := { h with }
theorem setTxn (h : Kept s t) {x : Option Transaction} : Kept s (t.setTxn x) := { h with }
theorem setNeutral (h : Kept s t) {n : Neutral} : Kept s (t.setNeutral n) := { h with }
theorem setPlan (h : Kept s t) {p : PlanStatus} : Kept s (t.setPlan p) := { h with }
theorem atInstant (h : Kept s t) {i : Nat} : Kept s (t.atInstant i) := { h with }
theorem clearEvents (h : Kept s t) {x : Half} : Kept s (t.clearEvents x) := { h with }
theorem emptyHaltRecord (h : Kept s t) : Kept s t.emptyHaltRecord := { h with halts := fun _ => .nil }
theorem settle (h : Kept s t) : Kept s t.settle := { h with }


/-! ### The Connection Table -/

/-- A write to one record that leaves PIN, the counts and the waiting loads as they are. -/
theorem setConn_same (h : Kept s t) {n : ConnId} {c : Conn} (pin : c.pin = (t.conn n).pin)
    (allowance : c.allowance = (t.conn n).allowance) (moves : c.movesToday = (t.conn n).movesToday)
    (uncommanded : c.uncommanded = (t.conn n).uncommanded) (missed : c.missedRun = (t.conn n).missedRun)
    (sum : c.nextSum = (t.conn n).nextSum) (count : c.nextCount = (t.conn n).nextCount) : Kept s (t.setConn n c) :=
  h.setConn ⟨pin, by simp [Conn.inRange, allowance, moves, uncommanded, missed], by simp [sum, count]⟩

theorem setChatterHold (h : Kept s t) {n : ConnId} : Kept s (t.setChatterHold n) :=
  (h.setConn_same (c := { t.conn n with hold := some .chatter }) rfl rfl rfl rfl rfl rfl rfl).raise

theorem chatterAfterReply (h : Kept s t) {n : ConnId} : Kept s (t.chatterAfterReply n) := by
  unfold State.chatterAfterReply
  split
  · split
    · exact h.setConn_same rfl rfl rfl rfl rfl rfl rfl
    · exact h.setChatterHold
  · exact h

theorem deferredChatter (h : Kept s t) {n : ConnId} : Kept s (t.deferredChatter n) := by
  have cleared := h.setConn_same (c := { t.conn n with chatterPending := false }) rfl rfl rfl rfl rfl rfl rfl
  unfold State.deferredChatter
  split
  · dsimp only
    split
    · exact cleared.setChatterHold
    · exact cleared
  · exact h

theorem uncommanded (h : Kept s t) {n : ConnId} {d : Nat} : Kept s (t.uncommanded n d) := by
  have counted := h.setConn (n := n) (c := { t.conn n with uncommanded := min 15 ((t.conn n).uncommanded + d) })
    ⟨rfl, fun ⟨ha, hm, _, hr⟩ => ⟨ha, hm, min_le_left _ _, hr⟩, fun _ => id⟩
  exact counted.raise.disturb.chatterAfterReply

theorem applyReply (h : Kept s t) {n : ConnId} {r : StatusReport} : Kept s (t.applyReply n r) := by
  have recorded : Kept s (t.setConn n (countLoad t.tbs.endDue r.load (recordReply (t.conn n) (t.stageOf n) r))) :=
    h.setConn <| .trans (d := recordReply (t.conn n) (t.stageOf n) r)
      ⟨rfl, fun ⟨ha, hm, hu, _⟩ => ⟨ha, hm, hu, Nat.zero_le _⟩, fun _ => id⟩ (h.endDue ▸ .countLoad _ _ _)
  unfold State.applyReply
  dsimp only
  split
  · split
    · exact recorded
    · exact recorded.uncommanded
  · exact h

theorem ctbOutcome (h : Kept s t) {n : ConnId} {b i : Confirmed} {o : ActOutcome} : Kept s (t.ctbOutcome n b i o) := by
  have replied (a : Bool) : Kept s (t.setConn n (actuationReplied (t.conn n) b i a)) := h.setConn <| by
    unfold actuationReplied
    split
    · cases a <;> exact ⟨rfl, fun ⟨ha, hm, hu, _⟩ => ⟨ha, hm, hu, Nat.zero_le _⟩, fun _ => id⟩
    · exact .refl _ _
  cases o with
  | accept => exact replied true
  | reject _ => exact replied false
  | missed => exact h.setConn_same rfl rfl rfl rfl rfl rfl rfl

theorem setLastProbe (h : Kept s t) {x : Vector (Option Word) 96} :
    Kept s { t with sbc := { t.sbc with lastProbe := x } } := { h with }

theorem pollMissed (h : Kept s t) {n : ConnId} : Kept s (t.pollMissed n) := by
  have counted {c : Conn} (hc : c = { t.conn n with missedRun := min 3 ((t.conn n).missedRun + 1), link := c.link }) :
      Kept s (t.setConn n c) :=
    h.setConn (hc ▸ ⟨rfl, fun ⟨ha, hm, hu, _⟩ => ⟨ha, hm, hu, min_le_left _ _⟩, fun _ => id⟩)
  unfold State.pollMissed
  dsimp only
  split
  · split
    · exact (counted rfl).setLastProbe
    · exact counted rfl
  · exact h

theorem applyEnding (h : Kept s t) {n : ConnId} {res : Result} {p : Phase} : Kept s (t.applyEnding n res p) := by
  have written : Kept s (t.setConn n (endingWrites (t.conn n) res p t.tbs.epoch)) := by
    cases res <;> exact h.setConn_same rfl rfl rfl rfl rfl rfl rfl
  exact written.deferredChatter

/-! ### The Move Queue -/

theorem pushHistory (h : Kept s t) {e : HistEntry} :
    Kept s { t with mvq := { t.mvq with history := Machine.pushHistory t.mvq.history e } } :=
  { h with
    history := fun _ => by
      simp only [Machine.pushHistory, Config.historyPlaces, List.length_drop, List.length_append, List.length_cons,
        List.length_nil]
      omega }

theorem finishRecord (h : Kept s t) {r : MoveRec} {res : Result} : Kept s (t.finishRecord r res) := by
  have unlinked := h.setConn_same (c := { t.conn r.conn with recordLink := none }) rfl rfl rfl rfl rfl rfl rfl
  have noted := unlinked.pushHistory (e := historyEntry r res t.tbs.epoch t.tbs.timeOfDay)
  unfold State.finishRecord
  dsimp only
  split
  · exact noted.raise
  · exact noted

theorem endQueued (h : Kept s t) {r : MoveRec} {res : Result} : Kept s (t.endQueued r res) := h.setQueue.finishRecord

theorem accept (h : Kept s t) {n : ConnId} {x y : Phase} {o : Origin} : Kept s (t.accept n x y o) :=
  { h.setConn_same (n := n) (c := { t.conn n with recordLink := some t.mvq.seqCounter })
      rfl rfl rfl rfl rfl rfl rfl with }

theorem makeRoom (h : Kept s t) : Kept s t.makeRoom := by
  unfold State.makeRoom
  split
  · split
    · exact h.endQueued
    · exact h
  · exact h

/-- A fold keeps what each of its steps keeps. -/
theorem foldl {α : Type} {f : State → α → State} (hf : ∀ u a, Kept s u → Kept s (f u a)) (h : Kept s t) (l : List α) :
    Kept s (l.foldl f t) := by
  induction l generalizing t with
  | nil => exact h
  | cons a l ih => exact ih (hf _ _ h)

theorem endAllQueued (h : Kept s t) {res : Result} : Kept s (t.endAllQueued res) :=
  foldl (fun _ _ hu => hu.endQueued) h _

theorem expireQueued (h : Kept s t) {e : Word} : Kept s (t.expireQueued e) := foldl (fun _ _ hu => hu.endQueued) h _

theorem trimQueue (h : Kept s t) {fuel : Nat} : Kept s (State.trimQueue fuel t) := by
  induction fuel generalizing t with
  | zero => exact h
  | succ fuel ih =>
    unfold State.trimQueue
    split
    · exact h
    · split
      · exact ih h.endQueued
      · exact h

theorem freeSlotOf (h : Kept s t) {k : SlotId} : Kept s (t.freeSlotOf k) := { h with }

theorem returnToQueue (h : Kept s t) {k : SlotId} : Kept s (t.returnToQueue k) := by
  unfold State.returnToQueue
  split
  · exact h.freeSlotOf.setQueue
  · exact h

theorem handBack (h : Kept s t) {k : SlotId} : Kept s (t.handBack k) := h.returnToQueue.trimQueue

theorem handBackAll (h : Kept s t) : Kept s t.handBackAll := by
  refine trimQueue (foldl (fun u k hu => ?_) h _)
  split
  · exact hu.returnToQueue
  · exact hu

theorem enterSlot (h : Kept s t) {k : SlotId} {r : MoveRec} : Kept s (t.enterSlot k r) :=
  { h.setConn (n := r.conn) (c := { t.conn r.conn with movesToday := min 15 ((t.conn r.conn).movesToday + 1) })
      ⟨rfl, fun ⟨ha, _, hu, hr⟩ => ⟨ha, min_le_left _ _, hu, hr⟩, fun _ => id⟩ with }

theorem examineHead (h : Kept s t) {k : SlotId} {r : MoveRec} : Kept s (t.examineHead k r) := by
  unfold State.examineHead
  split
  · exact h.endQueued
  · exact h.enterSlot

theorem takeAdmission (h : Kept s t) : Kept s t.takeAdmission :=
  t.takeAdmission_keeps (Kept s) (fun _ _ _ _ hu _ _ _ => hu.examineHead) h

theorem enterMode (h : Kept s t) {m : BaseMode} : Kept s (t.enterMode m) := h.setMode.takeAdmission

end Kept
end Sys2Proof.Machine
end

section
namespace Sys2Proof.Machine

open Sys2Proof

variable {s t : State}

namespace Kept

/-! ### The Transfer Engine -/

theorem modSlot (h : Kept s t) {k : SlotId} {f : Slot → Slot} : Kept s (t.modSlot k f) := by
  unfold State.modSlot
  split
  · exact h.setSlot
  · exact h

theorem endRecord (h : Kept s t) {k : SlotId} {res : Result} : Kept s (t.endRecord k res) := by
  unfold State.endRecord
  split
  · exact h.applyEnding.freeSlotOf.finishRecord
  · exact h

theorem enterOrphaned (h : Kept s t) {k : SlotId} : Kept s (t.enterOrphaned k) := by
  unfold State.enterOrphaned
  split
  · dsimp only
    split
    · exact h.setSlot.endRecord
    · exact h.setSlot
  · exact h

theorem holdWaitReturn (h : Kept s t) {k : SlotId} : Kept s (t.holdWaitReturn k) := by
  unfold State.holdWaitReturn
  split
  · split
    · exact h.enterOrphaned
    · exact h
  · exact h

theorem enterWaitReturn (h : Kept s t) {k : SlotId} : Kept s (t.enterWaitReturn k) := h.modSlot.holdWaitReturn

theorem enterWaitMake (h : Kept s t) {k : SlotId} : Kept s (t.enterWaitMake k) := by
  unfold State.enterWaitMake
  split
  · dsimp only
    split
    · exact h.setSlot.enterWaitReturn
    · split
      · exact h.setSlot.enterOrphaned
      · exact h.setSlot
  · exact h

theorem confirmBreak (h : Kept s t) {k : SlotId} : Kept s (t.confirmBreak k) := h.modSlot

theorem enterGap (h : Kept s t) {k : SlotId} : Kept s (t.enterGap k) := by
  unfold State.enterGap
  dsimp only
  split
  · split
    · exact h.modSlot.enterWaitMake
    · exact h.modSlot
  · exact h.modSlot

theorem backToWaitBreak (h : Kept s t) {k : SlotId} : Kept s (t.backToWaitBreak k) := by
  unfold State.backToWaitBreak
  split
  · split
    · exact h.endRecord
    · split
      · exact h.handBack
      · exact h.setSlot
  · exact h

theorem requestCancel (h : Kept s t) {k : SlotId} : Kept s (t.requestCancel k) := h.modSlot

theorem cancelSlot (h : Kept s t) {k : SlotId} : Kept s (t.cancelSlot k) := by
  unfold State.cancelSlot
  dsimp only
  split
  case h_1 => exact h.requestCancel.endRecord
  case h_2 | h_3 => exact h.requestCancel.enterWaitReturn
  all_goals exact h.requestCancel

theorem treatSlot (h : Kept s t) {k : SlotId} : Kept s (t.treatSlot k) := by
  unfold State.treatSlot
  split
  case h_1 => exact h.endRecord
  case h_2 | h_3 => exact h.requestCancel
  case h_4 | h_5 => exact h.enterWaitReturn
  all_goals exact h

theorem haltTreatment (h : Kept s t) : Kept s t.haltTreatment := foldl (fun _ _ hu => hu.treatSlot) h _

theorem recheckSlot (h : Kept s t) {k : SlotId} : Kept s (t.recheckSlot k) := by
  unfold State.recheckSlot
  split
  · split
    · split
      · exact h.enterWaitReturn
      · exact h
    · exact h.holdWaitReturn
    all_goals exact h
  · exact h

theorem recheckSlots (h : Kept s t) : Kept s t.recheckSlots := foldl (fun _ _ hu => hu.recheckSlot) h _

theorem abandonSlots (h : Kept s t) : Kept s t.abandonSlots := foldl (fun _ _ hu => hu.endRecord) h _

theorem toSlotInstant (h : Kept s t) {k : SlotId} {i : State → MoveRec → Option Nat} :
    Kept s (t.toSlotInstant k i) := by
  unfold State.toSlotInstant
  split
  · exact h.atInstant
  · exact h

/-! ### The Interlock Unit and the Mode Controller -/

theorem setInput (h : Kept s t) {i : InputLine} {r : InputRec} (hr : r.debounce = (t.input i).debounce) :
    Kept s (t.setInput i r) :=
  { h with
    debounce := fun j => by
      by_cases e : j = i
      · subst e; simp [hr, h.debounce]
      · rw [t.input_setInput_ne r e, h.debounce] }

/-- A source enters the halt record only when it has no entry there (R157). -/
theorem enterHalt (h : Kept s t) {x : HaltSource} : Kept s (t.enterHalt x) := by
  unfold State.enterHalt
  split
  · exact h
  · next fresh =>
    refine { h with halts := fun hs => ?_ }
    simp only [List.any_eq_true, beq_iff_eq, not_exists, not_and] at fresh
    exact List.pairwise_append.mpr ⟨h.halts hs, List.pairwise_singleton _ _, by simpa using fresh⟩

theorem flushAndTreat (h : Kept s t) : Kept s t.flushAndTreat := h.endAllQueued.haltTreatment

theorem haltMode (h : Kept s t) : Kept s t.haltMode := by
  unfold State.haltMode
  split
  case h_5 | h_6 | h_7 | h_8 => exact h
  all_goals exact h.setMode.flushAndTreat

theorem haltEvent (h : Kept s t) {x : HaltSource} : Kept s (t.haltEvent x) := by
  unfold State.haltEvent
  split
  · exact h.enterHalt.haltMode
  · exact h

theorem setMapFlag (h : Kept s t) {b : Bool} : Kept s { t with ilu := { t.ilu with mapFault := b } } := { h with }

theorem setMapFault (h : Kept s t) : Kept s t.setMapFault := by
  unfold State.setMapFault
  split
  · exact h
  · exact h.setMapFlag.haltEvent

theorem endTransfer (h : Kept s t) {k : SlotId} {res : Result} : Kept s (t.endTransfer k res) := by
  unfold State.endTransfer
  split
  · exact h.endRecord.setMapFault
  · exact h.endRecord

theorem supplyStart (h : Kept s t) : Kept s t.supplyStart := by
  unfold State.supplyStart
  split
  · exact h.setMode.handBackAll
  · exact h

theorem qualifiedClear (h : Kept s t) : Kept s t.qualifiedClear := by
  unfold State.qualifiedClear
  split
  · exact h.enterMode
  · exact h

theorem supplyChanged (h : Kept s t) {b : Bool} : Kept s (t.supplyChanged b) := by
  unfold State.supplyChanged
  split
  · exact h.setSupply.supplyStart
  · exact h.setSupply
  · exact h.setSupply
  all_goals exact h

theorem keyChanged (h : Kept s t) : Kept s t.keyChanged := { h with }

theorem setStatus (h : Kept s t) {i : InputLine} {v : Bool} : Kept s (t.setStatus i v) := by
  have set := h.setInput (i := i) (r := { t.input i with status := v }) rfl
  unfold State.setStatus
  dsimp only
  split
  · split
    · exact set.haltEvent
    · exact set
  · exact set

theorem followLevel (h : Kept s t) {i : InputLine} : Kept s (t.followLevel i) := by
  unfold State.followLevel
  dsimp only
  split
  · exact h.setStatus
  · split
    · exact h.setStatus
    · exact h

theorem debouncedChanged (h : Kept s t) {i : InputLine} : Kept s (t.debouncedChanged i) := by
  unfold State.debouncedChanged
  dsimp only
  split
  · exact h.followLevel.keyChanged
  · exact h.followLevel.supplyChanged
  all_goals exact h.followLevel

theorem sampleInput (h : Kept s t) {i : InputLine} {b : Bool} : Kept s (t.sampleInput i b) := by
  have set {r : InputRec} (hr : r.debounce = (t.input i).debounce) :
      Kept s ((t.atInstant ((t.input i).sampledAt + Config.ticksPerMs)).setInput i r) := h.atInstant.setInput hr
  unfold State.sampleInput
  dsimp only
  split
  · exact set rfl
  · split
    · exact debouncedChanged (set (by rfl))
    · exact set rfl

theorem clearEdge (h : Kept s t) {x : Byte} {i : InputLine} : Kept s (t.clearEdge x i) := by
  unfold State.clearEdge
  split
  · split
    · exact h.setInput rfl
    · exact h
  · exact h

theorem clearInputs (h : Kept s t) {x : Byte} : Kept s (t.clearInputs x) := by
  have cleared := foldl (fun _ i hu => hu.clearEdge (x := x) (i := i)) h sourceInputs
  unfold State.clearInputs
  dsimp only
  split
  · exact cleared.setMapFlag
  · exact cleared

/-! ### What the Transfer Engine does with replies -/

theorem clearMisses (h : Kept s t) {k : SlotId} : Kept s (t.clearMisses k) := h.modSlot

theorem verifyBreaking (h : Kept s t) {k : SlotId} {sl : Slot} {c : Option Phase} :
    Kept s (t.verifyBreaking k sl c) := by
  unfold State.verifyBreaking
  split
  · split
    · exact h.confirmBreak.enterWaitReturn
    · exact h.confirmBreak.enterGap
  · split
    · split
      · exact h.endTransfer
      · split
        · exact h.backToWaitBreak
        · exact h.endTransfer
    · exact h.endTransfer

theorem verifyMaking (h : Kept s t) {k : SlotId} {sl : Slot} {c : Option Phase} : Kept s (t.verifyMaking k sl c) := by
  unfold State.verifyMaking
  split
  · split
    · exact h.enterWaitMake
    · exact h.enterWaitReturn
  · split <;> exact h.endTransfer

theorem verifyReturning (h : Kept s t) {k : SlotId} {sl : Slot} {c : Option Phase} :
    Kept s (t.verifyReturning k sl c) := by
  unfold State.verifyReturning
  split
  · split
    · exact h.enterWaitReturn
    · exact h.endTransfer
  · split <;> exact h.endTransfer

theorem seeClosed (h : Kept s t) {k : SlotId} {sl : Slot} {c : Option Phase} : Kept s (t.seeClosed k sl c) := by
  unfold State.seeClosed
  split
  · exact h
  · exact h.endTransfer

theorem statusAtWaitBreak (h : Kept s t) {k : SlotId} {sl : Slot} {c : Option Phase} :
    Kept s (t.statusAtWaitBreak k sl c) := by
  unfold State.statusAtWaitBreak
  split
  · exact h.endTransfer
  · split
    · exact h.endTransfer
    · exact h

theorem statusToSlot (h : Kept s t) {k : SlotId} {c : Option Phase} : Kept s (t.statusToSlot k c) := by
  unfold State.statusToSlot
  dsimp only
  split
  · split
    case h_1 => exact h.clearMisses.statusAtWaitBreak
    case h_2 | h_3 | h_4 => exact h.clearMisses
    all_goals exact h.clearMisses.seeClosed
  · exact h.clearMisses

theorem verifyDecision (h : Kept s t) {k : SlotId} {c : Option Phase} : Kept s (t.verifyDecision k c) := by
  unfold State.verifyDecision
  dsimp only
  split
  · split
    · exact h.clearMisses.verifyBreaking
    · exact h.clearMisses.verifyMaking
    · exact h.clearMisses.verifyReturning
    · exact h.clearMisses.setSlot.seeClosed
    · exact h.clearMisses.statusAtWaitBreak
    all_goals exact h.clearMisses.seeClosed
  · exact h.clearMisses

theorem verifyMissed (h : Kept s t) {k : SlotId} : Kept s (t.verifyMissed k) := by
  unfold State.verifyMissed
  split
  · split
    · exact h.endTransfer
    · exact h.setSlot
  · exact h

theorem setVerifyDue (h : Kept s t) {k : SlotId} {f : Word} : Kept s (t.setVerifyDue k f) := h.modSlot

theorem slotOutcome (h : Kept s t) {k : SlotId} {a : ActKind} {f : Word} {o : ActOutcome} :
    Kept s (t.slotOutcome k a f o) := by
  have waiting (P : Prop) [Decidable P] : Kept s (if P then t.enterWaitMake k else t.enterWaitReturn k) := by
    split
    · exact h.enterWaitMake
    · exact h.enterWaitReturn
  have third (P : Prop) [Decidable P] : Kept s (if P then t.enterWaitReturn k else t.endTransfer k .dark) := by
    split
    · exact h.enterWaitReturn
    · exact h.endTransfer
  unfold State.slotOutcome
  split
  · exact h
  · split
    · exact h.setVerifyDue
    · exact h.setVerifyDue
    · exact h.endTransfer
    · exact h.endTransfer
    · exact h.setVerifyDue
    · exact waiting _
    · exact h.enterWaitReturn
    · exact h.setVerifyDue
    · exact third _

/-! ### The Energy Store Monitor -/

theorem enterCharging (h : Kept s t) : Kept s t.enterCharging := by
  unfold State.enterCharging
  split <;> exact h.setStore

theorem judgeVoltage (h : Kept s t) : Kept s t.judgeVoltage := by
  unfold State.judgeVoltage
  split
  · split
    · exact h.setStore
    · exact h
  · split
    · exact h.setStore
    · exact h
  all_goals exact h

theorem recoveryTick (h : Kept s t) : Kept s t.recoveryTick := by
  unfold State.recoveryTick
  split
  · split
    · exact h.enterCharging
    · exact h.setStore
  all_goals exact h

theorem storeOutcome (h : Kept s t) {n : ConnId} {f : Word} {o : ActOutcome} : Kept s (t.storeOutcome n f o) := by
  unfold State.storeOutcome
  split
  · split
    · exact h.setStore
    · exact h
  · exact h

/-! ### The Selector Bus Controller -/

theorem finishQuery (h : Kept s t) {n : ConnId} {b : List Byte} : Kept s (t.finishQuery n b) := by
  have left : Kept s { t with sbc := { t.sbc with queries := t.sbc.queries.filter fun q => !q.serves n } } :=
    { h with queries := (List.length_filter_le _ _).trans h.queries }
  unfold State.finishQuery
  split
  · dsimp only
    split
    · exact left
    · exact left.setPort
  · exact h

theorem statusTaken (h : Kept s t) {n : ConnId} {r : StatusReport} : Kept s (t.statusTaken n r) := by
  unfold State.statusTaken
  dsimp only
  split
  · exact h.applyReply.statusToSlot
  · exact h.applyReply

theorem verifyTaken (h : Kept s t) {k : SlotId} {o : Nat} {n : ConnId} {r : StatusReport} :
    Kept s (t.verifyTaken k o n r) := by
  unfold State.verifyTaken
  split
  · exact h.applyReply.verifyDecision
  · exact h.statusTaken

theorem actuationOutcome (h : Kept s t) {n : ConnId} {k : SlotId} {w : Nat} {a : ActKind} {b i : Confirmed}
    {o : ActOutcome} : Kept s (t.actuationOutcome n k w a b i o) := by
  unfold State.actuationOutcome
  dsimp only
  split
  · exact h.ctbOutcome.slotOutcome.storeOutcome
  · exact h.ctbOutcome.storeOutcome

theorem missTransaction (h : Kept s t) : Kept s t.missTransaction := by
  unfold State.missTransaction
  split
  · exact h
  · dsimp only
    split
    · exact h.setTxn.pollMissed
    · exact h.setTxn.pollMissed
    · split
      · exact h.setTxn.verifyMissed
      · exact h.setTxn
    · exact h.setTxn.actuationOutcome
    · exact h.setTxn.finishQuery

theorem takeReply (h : Kept s t) {x : Transaction} {m : List Byte} : Kept s (t.takeReply x m) := by
  unfold State.takeReply
  dsimp only
  split
  case h_1 | h_2 =>
    split
    · exact h.setTxn.statusTaken
    · exact h.missTransaction
  case h_3 =>
    split
    · exact h.setTxn.verifyTaken
    · exact h.missTransaction
  case h_4 =>
    split
    · exact h.setTxn.actuationOutcome
    · exact h.missTransaction
  case h_5 =>
    split
    · exact h.setTxn.statusTaken.finishQuery
    · exact h.missTransaction

theorem takeMessage (h : Kept s t) {m : Arrival} : Kept s (t.takeMessage m) := by
  unfold State.takeMessage
  split
  · exact h
  · split
    · exact h
    · split
      · exact h.takeReply
      · exact h.missTransaction

theorem noteFrameEnds (h : Kept s t) : Kept s t.noteFrameEnds := by
  simp only [State.noteFrameEnds]
  exact foldl (fun _ _ hu => hu.modSlot) h _

theorem grantStep (h : Kept s t) : Kept s t.grantStep := by
  unfold State.grantStep
  split
  · split
    · exact { h with }
    · exact h
  · exact h

theorem arbitrate (h : Kept s t) {u : Nat} : Kept s (t.arbitrate u) := by
  unfold State.arbitrate
  split
  · exact { h with }
  · exact { h with queries := by simpa [State.startQuery, State.startTxn] using h.queries }
  · exact { h with }
  · unfold State.startSurvey
    split <;> exact { h with }
  · exact h

theorem beginUnit (h : Kept s t) : Kept s t.beginUnit := by
  have opened {u : State} (hu : Kept s u) (k : Nat) : Kept s { u with sbc := { u.sbc with unit := k, sent := [] } } :=
    { hu with }
  unfold State.beginUnit
  dsimp only
  split
  · split
    · exact opened h.atInstant.missTransaction _
    · exact opened h.atInstant _
  · exact opened h.atInstant _

end Kept
end Sys2Proof.Machine
end

section
namespace Sys2Proof.Machine

open Sys2Proof

variable {s t : State}

/-- The evaluation of a cycle does not touch how the channel samples. -/
theorem evaluate_sampling (p : Params) (ch : PhaseChannel) (rms : Nat) :
    (evaluate p ch rms).interval = ch.interval ∧ (evaluate p ch rms).fallback = ch.fallback := by
  have entered (ch : PhaseChannel) (x : Health) :
      (enterHealth ch x).interval = ch.interval ∧ (enterHealth ch x).fallback = ch.fallback := by
    unfold enterHealth
    split
    · exact ⟨rfl, rfl⟩
    · cases x <;> exact ⟨rfl, rfl⟩
  have runs : (bandRuns p ch rms).interval = ch.interval ∧ (bandRuns p ch rms).fallback = ch.fallback := by
    unfold bandRuns
    split <;> exact ⟨rfl, rfl⟩
  exact ⟨(entered _ _).1.trans runs.1, (entered _ _).2.trans runs.2⟩

/-- The interval set at a crossing follows the period where no cycle has been completed (R27). -/
theorem intervalAfter_of_none {period : Nat} {c : Option OpenCycle} {place : Nat}
    (h : (completedCycle period c place).isNone = true) : intervalAfter period c place = period / 128 := by
  unfold intervalAfter
  split
  · next e => simp [e] at h
  · rfl

namespace Kept

/-! ### The Balancing Planner -/

theorem acceptBatch (h : Kept s t) {l : List PlanEntry} : Kept s (t.acceptBatch l) := foldl (fun _ _ hu => hu.accept) h _

theorem planOn (h : Kept s t) {e : Word} {w : PerPhase Int} : Kept s (t.planOn e w) := by
  unfold State.planOn
  dsimp only
  split
  · exact h.setPlan
  · split
    · exact h.setPlan
    · exact h.acceptBatch.setPlan.raise

theorem plannerRun (h : Kept s t) {e : Word} {d : Bool} : Kept s (t.plannerRun e d) := by
  unfold State.plannerRun
  split
  · exact h.setPlan
  · split
    · split
      · exact h.setPlan
      · split
        · exact h.setPlan
        · exact h.planOn
    · exact h.setPlan

theorem place {a : Pass} (h : Kept s a.state) {n : ConnId} {x y : Phase} {l : Int} : Kept s (a.place n x y l).state := by
  unfold Pass.place
  split
  · exact h
  · exact h.makeRoom.accept

theorem examine {a : Pass} (h : Kept s a.state) {n : ConnId} : Kept s (a.examine n).state := by
  unfold Pass.examine
  split
  · exact h
  · split
    · exact h
    · dsimp only
      split
      · exact h
      · exact h.place

theorem rescuePass (h : Kept s t) {c : RescueCause} : Kept s (t.rescuePass c) := by
  have examined (l : List ConnId) (a : Pass) (ha : Kept s a.state) : Kept s (l.foldl Pass.examine a).state := by
    induction l generalizing a with
    | nil => exact ha
    | cons n l ih => exact ih _ ha.examine
  have noted {u : State} (hu : Kept s u) (x : Option RescueStatus) : Kept s { u with bpl := { u.bpl with rescue := x } } :=
    { hu with }
  unfold State.rescuePass
  dsimp only
  split
  · exact noted (examined _ _ h) _
  · exact (noted (examined _ _ h) _).raise

theorem epochRescue (h : Kept s t) : Kept s t.epochRescue := by
  unfold State.epochRescue
  split
  · exact h.rescuePass
  · exact h

theorem signalEnd (h : Kept s t) {e : Word} {d : Bool} {x : ExpiryPlace} : Kept s (t.signalEnd e d x) := by
  unfold State.signalEnd
  split
  · exact h.expireQueued.plannerRun.epochRescue
  · exact h.plannerRun.expireQueued.epochRescue
  · exact h.plannerRun.epochRescue.expireQueued

/-! ### The Feeder Measurement Unit -/

/-- A write to one channel that leaves a fallback interval following the period. -/
theorem setChan (h : Kept s t) {p : Phase} {c : PhaseChannel}
    (hc : (t.chan p).followsPeriod s.period → c.followsPeriod s.period) : Kept s (t.setChan p c) :=
  { h with
    chan := fun q hq => by
      by_cases e : q = p
      · subst e; rw [State.chan_setChan_same]; exact hc (h.chan q hq)
      · rw [t.chan_setChan_ne c e]; exact h.chan q hq }

theorem reportLoss (h : Kept s t) : Kept s t.reportLoss := by
  unfold State.reportLoss
  split
  · exact h.rescuePass
  · exact h

theorem enteredHealthy (h : Kept s t) {p : Phase} : Kept s (t.enteredHealthy p) := by
  unfold State.enteredHealthy
  split
  · exact h.raise
  · exact h.setChan id

theorem realign (h : Kept s t) : Kept s t.realign := by
  unfold State.realign
  dsimp only
  split
  · exact h
  · exact { h with }

theorem healthChanged (h : Kept s t) {p : Phase} {old : Health} : Kept s (t.healthChanged p old) := by
  unfold State.healthChanged
  split
  · exact h
  · have disturbed : Kept s (if old = .healthy then t.disturb else t) := ite h.disturb h
    have reported {u : State} (hu : Kept s u) :
        Kept s (if u.health p = .lost ∧ (u.chan p).started then u.reportLoss else u) := ite hu.reportLoss hu
    have restored {u : State} (hu : Kept s u) :
        Kept s (if u.health p = .healthy then u.enteredHealthy p else u) := ite hu.enteredHealthy hu
    exact (restored (reported disturbed)).realign.recheckSlots

theorem completeCycle (h : Kept s t) {p : Phase} {x : Sums} : Kept s (t.completeCycle p x) := by
  refine healthChanged (h.setChan fun hc hf => ?_)
  obtain ⟨interval, fallback⟩ := evaluate_sampling t.params { t.chan p with
    latest := some (cycleValues x), accSum := (t.chan p).accSum + (cycleValues x).power,
    accCount := (t.chan p).accCount + 1 } (cycleValues x).rmsV
  exact interval.trans (hc (fallback ▸ hf))

theorem closeNeutralWindow (h : Kept s t) {p : Phase} {c : Option OpenCycle} : Kept s (t.closeNeutralWindow p c) := by
  unfold State.closeNeutralWindow
  split
  · split
    · exact h.setNeutral
    · exact h
  · exact h

theorem openNeutralWindow (h : Kept s t) {p : Phase} {x : Nat} : Kept s (t.openNeutralWindow p x) := by
  unfold State.openNeutralWindow
  split
  · exact h.setNeutral
  · exact h

theorem reportCrossing (h : Kept s t) {p : Phase} : Kept s (t.reportCrossing p) := by
  unfold State.reportCrossing
  split
  · exact { h with }
  · exact h

theorem positiveCrossing (h : Kept s t) {p : Phase} {x : Nat} {y : Sums} : Kept s (t.positiveCrossing p x y) := by
  refine reportCrossing (openNeutralWindow ?_)
  have opened : Kept s ((t.closeNeutralWindow p (completedCycle t.period (t.chan p).cycle x)).setChan p
      { t.chan p with
        interval := intervalAfter (t.closeNeutralWindow p (completedCycle t.period (t.chan p).cycle x)).period
          (t.chan p).cycle x
        fallback := (completedCycle t.period (t.chan p).cycle x).isNone
        cycle := some { start := x, sums := y }, lastCrossing := x, noCrossing := false }) :=
    h.closeNeutralWindow.setChan fun _ hf => by
      rw [h.closeNeutralWindow.period]
      exact intervalAfter_of_none (h.period ▸ hf)
  split
  · exact opened.completeCycle
  · exact opened

theorem takeSample (h : Kept s t) {p : Phase} {v i : Int} : Kept s (t.takeSample p v i) := by
  have sampled {c : PhaseChannel} (interval : c.interval = (t.chan p).interval)
      (fallback : c.fallback = (t.chan p).fallback) :
      Kept s ((t.atInstant ((t.chan p).sampledAt + (t.chan p).interval)).setChan p c) :=
    h.atInstant.setChan fun hc hf => interval.trans (hc (fallback ▸ hf))
  unfold State.takeSample
  dsimp only
  split
  · split <;> split <;> exact sampled (by rfl) (by rfl)
  · split
    · exact sampled (by rfl) (by rfl)
    · split
      · split
        · exact positiveCrossing (sampled (by rfl) (by rfl))
        · exact sampled (by rfl) (by rfl)
      · exact sampled (by rfl) (by rfl)

theorem loseCrossings (h : Kept s t) {p : Phase} : Kept s (t.setChan p (lossOfCrossings (t.chan p))) :=
  h.setChan fun hc => by
    unfold lossOfCrossings
    dsimp only
    split <;> exact hc

theorem takeWindow (h : Kept s t) : Kept s t.takeWindow := by
  unfold State.takeWindow
  dsimp only
  split
  · exact h.setNeutral
  · exact h.atInstant.setNeutral

theorem neutralWindow (h : Kept s t) {x : Nat} : Kept s (t.neutralWindow x) := by
  unfold State.neutralWindow
  dsimp only
  split
  · exact h.setNeutral.haltEvent
  · exact h.setNeutral

theorem clearAccumulators (h : Kept s t) : Kept s t.clearAccumulators :=
  { h with
    chan := fun p hp => by
      have cleared : t.clearAccumulators.chan p = clearAccumulator (t.chan p) := by
        simp [State.chan, State.clearAccumulators]
      exact cleared ▸ h.chan p hp }

theorem closeAverages (h : Kept s t) : Kept s t.closeAverages := { h.clearAccumulators with }

/-! ### RESTART -/

theorem restartRecords (h : Kept s t) : Kept s { t with conns := mapAll restartConn t.conns } :=
  { h with
    conn := fun n => (h.conn n).trans <| by
      have restarted : (State.conn { t with conns := mapAll restartConn t.conns } n) = restartConn (t.conn n) := by
        simp [State.conn]
      rw [restarted]
      exact ⟨rfl, fun ⟨ha, hm, hu, _⟩ => ⟨ha, hm, hu, Nat.zero_le _⟩, fun _ _ => ⟨rfl, rfl⟩⟩ }

theorem restartQueries (h : Kept s t) : Kept s t.restartQueries := by
  have answered : Kept s (t.sbc.queries.foldl State.answerBusy t) := foldl (fun u q hu => by
    unfold State.answerBusy
    split
    · exact hu
    · exact hu.setPort) h _
  exact { answered with
    queries := by
      simp only [State.restartQueries, List.length_map]
      exact (List.length_filter_le _ _).trans h.queries }

theorem freshSupplyStart (h : Kept s t) : Kept s t.freshSupplyStart := by
  unfold State.freshSupplyStart
  split
  · exact h
  all_goals exact h.supplyStart

theorem clearProbes (h : Kept s t) : Kept s t.clearProbes := { h with }

theorem setBpl (h : Kept s t) {x : Bpl} : Kept s { t with bpl := x } := { h with }

theorem restart (h : Kept s t) : Kept s t.restart :=
  h.setMode.abandonSlots.endAllQueued.restartRecords.clearProbes.clearAccumulators.disturb.setBpl.restartQueries
    |>.freshSupplyStart.raise

end Kept
end Sys2Proof.Machine
end

section
namespace Sys2Proof.Machine

open Sys2Proof

variable {s t u : State} {atLocal : Bool}

/-! ### Records at the turn of the epoch and of the day -/

@[simp] theorem State.closeLoads_conn (s : State) (n : ConnId) : s.closeLoads.conn n = closeLoad (s.conn n) := by
  simp [State.closeLoads, State.conn]

@[simp] theorem State.rollDay_conn (s : State) (n : ConnId) : s.rollDay.conn n = clearDaily (s.conn n) := by
  simp [State.rollDay, State.raise, State.conn]

/-- Closing the loads of a record leaves PIN and the counts of R1 and no load that waits (R13, R47). -/
theorem closeLoad_keeps (c : Conn) :
    (closeLoad c).pin = c.pin ∧ (c.inRange → (closeLoad c).inRange)
      ∧ (closeLoad c).nextSum = 0 ∧ (closeLoad c).nextCount = 0 := by
  unfold closeLoad
  split <;> exact ⟨rfl, id, rfl, rfl⟩

/-- What every command keeps but power-on: the ranges, and PIN unless the key is at LOCAL. -/
structure Sound (atLocal : Bool) (s t : State) : Prop where
  settings : s.settingsInRange → t.settingsInRange
  counts : s.countsInRange → t.countsInRange
  pin : atLocal = false → ∀ n, (s.conn n).pin = true → (t.conn n).pin = true

theorem Kept.keepsSettings (h : Kept s t) : s.settingsInRange → t.settingsInRange := by
  rintro ⟨params, classes, pending, length, debounce, follows, unit, period⟩
  refine ⟨h.params ▸ params, h.classes ▸ classes, h.tbs ▸ pending, h.tbs ▸ length, fun i => h.debounce i ▸ debounce i,
    fun p => ?_, ?_, ?_⟩
  · rw [h.period]; exact h.chan p (follows p)
  · rw [h.units.1, h.units.2]; exact unit
  · rw [h.units.2]; exact period

theorem Kept.keepsCounts (h : Kept s t) : s.countsInRange → t.countsInRange := by
  rintro ⟨conns, next, time, history, queries, halts, bit, voltage⟩
  refine ⟨fun n => (h.conn n).range (conns n), fun e n => ?_, h.tbs ▸ time, h.history history, h.queries.trans queries,
    h.halts halts, h.smp ▸ bit, h.voltage ▸ voltage⟩
  rw [h.endDue] at e
  exact (h.conn n).next e (next e n)

theorem Kept.sound (h : Kept s t) : Sound atLocal s t :=
  ⟨h.keepsSettings, h.keepsCounts, fun _ n hp => (h.conn n).pin ▸ hp⟩

namespace Sound

theorem refl (s : State) : Sound atLocal s s := (Kept.refl s).sound

theorem trans (h : Sound atLocal s t) (g : Sound atLocal t u) : Sound atLocal s u :=
  ⟨g.settings ∘ h.settings, g.counts ∘ h.counts, fun k n hp => g.pin k n (h.pin k n hp)⟩

theorem kept (h : Sound atLocal s t) (g : Kept t u) : Sound atLocal s u := h.trans g.sound

theorem settle (h : Sound atLocal s t) : Sound atLocal s t.settle := h.kept (Kept.refl t).settle

/-! ### Writes to one record by a request -/

theorem setConn {n : ConnId} {c : Conn} (range : (s.conn n).inRange → c.inRange)
    (next : (s.conn n).nextSum = 0 ∧ (s.conn n).nextCount = 0 → c.nextSum = 0 ∧ c.nextCount = 0)
    (pin : atLocal = false → (s.conn n).pin = true → c.pin = true) : Sound atLocal s (s.setConn n c) where
  settings := id
  counts := by
    rintro ⟨conns, nexts, rest⟩
    refine ⟨fun m => ?_, fun e m => ?_, rest⟩ <;> rw [State.conn_setConn] <;> split
    · exact range (conns n)
    · exact conns m
    · exact next (nexts e n)
    · exact nexts e m
  pin k m hm := by
    rw [State.conn_setConn]
    split
    · next e => exact pin k (e ▸ hm)
    · exact hm

/-! ### Epochs and the day -/

/-- The loads closed and the number raised (R39). -/
theorem turnEpoch (s : State) (k : Nat) : Sound atLocal s { s.closeLoads.advanceEpoch with free := k } where
  settings := fun ⟨params, classes, pending, _, rest⟩ => ⟨params, classes, pending, pending, rest⟩
  counts := by
    rintro ⟨conns, _, rest⟩
    have closed (n : ConnId) : ({ s.closeLoads.advanceEpoch with free := k } : State).conn n = closeLoad (s.conn n) :=
      s.closeLoads_conn n
    refine ⟨fun n => ?_, fun _ n => ?_, rest⟩ <;> rw [closed]
    · exact (closeLoad_keeps _).2.1 (conns n)
    · exact (closeLoad_keeps _).2.2
  pin _ n hp := (congrArg Conn.pin (s.closeLoads_conn n)).trans ((closeLoad_keeps _).1.trans hp)

theorem endEpoch (s : State) : Sound atLocal s s.endEpoch :=
  (Kept.refl s).closeAverages.sound.trans ((turnEpoch _ _).kept (Kept.refl _).signalEnd)

theorem takeOwedEnd (s : State) : Sound atLocal s s.takeOwedEnd := by
  unfold State.takeOwedEnd
  split
  · exact endEpoch s
  · exact refl s

theorem nextSecond (s : State) : Sound atLocal s s.nextSecond := by
  unfold State.nextSecond
  split
  · refine ⟨id, ?_, fun _ n hp => ?_⟩
    · rintro ⟨conns, nexts, _, rest⟩
      refine ⟨fun n => ?_, fun e n => ?_, Nat.zero_le _, rest⟩ <;> rw [State.rollDay_conn]
      · obtain ⟨allowance, -, -, missed⟩ := conns n
        exact ⟨allowance, Nat.zero_le _, Nat.zero_le _, missed⟩
      · exact nexts e n
    · rw [State.rollDay_conn]; exact hp
  · next early =>
    exact ⟨id, fun ⟨conns, nexts, _, rest⟩ => ⟨conns, nexts, Nat.not_le.mp early, rest⟩, fun _ _ => id⟩

/-- An epoch end that becomes owed lets loads wait, so nothing is asked of them. -/
theorem markEnd (s : State) : Sound atLocal s s.markEnd := by
  unfold State.markEnd
  split
  · exact ⟨id, fun ⟨conns, _, rest⟩ => ⟨conns, fun e => absurd e (by simp), rest⟩, fun _ _ => id⟩
  · exact refl s

theorem tick (s : State) : Sound atLocal s s.tick := by
  have timed (u : State) (x : Nat) : Sound atLocal u { u.atInstant x with tbs := { u.tbs with tickAt := x } } :=
    ⟨id, id, fun _ _ => id⟩
  exact (takeOwedEnd s).trans ((timed _ _).trans ((nextSecond _).trans (markEnd _)))

theorem setTime (s : State) {time : Nat} (day : Half) (h : time ≤ 86399) : Sound atLocal s (s.setTime time day) := by
  have written : Sound atLocal s.takeOwedEnd.disturb.endEpoch (s.setTime time day) :=
    ⟨id, fun ⟨conns, nexts, _, rest⟩ => ⟨conns, nexts, h, rest⟩, fun _ _ => id⟩
  exact ((takeOwedEnd s).kept (Kept.refl _).disturb).trans ((endEpoch _).trans written)

/-! ### Frames, the store's voltage, the summary port -/

theorem openFrame (s : State) : Sound atLocal s s.openFrame :=
  ⟨fun ⟨params, classes, pending, length, debounce, follows, _⟩ =>
    ⟨params, classes, pending, length, debounce, follows, rfl, s.params.nominal, rfl⟩, id, fun _ _ => id⟩

theorem frameBoundary (s : State) : Sound atLocal s s.frameBoundary :=
  (Kept.refl s).missTransaction.noteFrameEnds.recoveryTick.sound.trans ((openFrame _).kept (Kept.refl _).grantStep)

theorem renewVoltage (s : State) (mV x : Nat) :
    Sound atLocal s { s with esm := { s.esm with voltage := storeReading mV, renewedAt := x } } :=
  ⟨id, fun ⟨conns, nexts, time, history, queries, halts, bit, _⟩ =>
    ⟨conns, nexts, time, history, queries, halts, bit, min_le_left _ _⟩, fun _ _ => id⟩

theorem setSmp (x : Smp) (h : s.smp.bit ≤ 512 → x.bit ≤ 512) : Sound atLocal s { s with smp := x } :=
  ⟨id, fun ⟨conns, nexts, time, history, queries, halts, bit, voltage⟩ =>
    ⟨conns, nexts, time, history, queries, halts, h bit, voltage⟩, fun _ _ => id⟩

theorem select (s : State) : Sound atLocal s s.select := by
  unfold State.select
  split
  · exact refl s
  · exact setSmp _ fun _ => Nat.zero_le _

theorem clockFall (s : State) : Sound atLocal s s.clockFall := by
  unfold State.clockFall
  split
  · exact setSmp _ fun _ => min_le_left _ _
  · exact refl s

/-! ### Parameters and timing classes -/

theorem setParams {p : Params} (range : s.params.inRange → p.inRange) (nominal : p.nominal = s.params.nominal) :
    Sound atLocal s (s.setParams p) :=
  ⟨fun ⟨params, classes, pending, length, debounce, follows, unit⟩ =>
    ⟨range params, classes, pending, length, debounce, fun q hq => (follows q hq).trans (by simp [State.period, nominal]), unit⟩, id,
    fun _ _ => id⟩

theorem setPendingLength {x : Nat} (h : x ∈ epochLengths) :
    Sound atLocal s { s with tbs := { s.tbs with pendingLength := x } } :=
  ⟨fun ⟨params, classes, _, rest⟩ => ⟨params, classes, h, rest⟩, id, fun _ _ => id⟩

theorem setDebounce {i : InputLine} {x : Nat} (h : x ∈ debounceTimes) :
    Sound atLocal s (s.setInput i { s.input i with debounce := x }) :=
  ⟨fun ⟨params, classes, pending, length, debounce, rest⟩ => ⟨params, classes, pending, length, fun j => by
      by_cases e : j = i
      · subst e; rw [State.input_setInput_same]; exact h
      · rw [s.input_setInput_ne _ e]; exact debounce j, rest⟩,
    id, fun _ _ => id⟩

theorem writeNeutralLimit {x : Nat} (h : 100 ≤ x ∧ x ≤ 10000) : Sound atLocal s (s.writeNeutralLimit x) :=
  ⟨fun ⟨⟨low, high, loss, restore, _, params⟩, rest⟩ => ⟨⟨low, high, loss, restore, h, params⟩, rest⟩, id, fun _ _ => id⟩

/-- The fallback interval of every channel follows a write of the nominal frequency (R27). -/
theorem writeNominal (s : State) (x : Nominal) : Sound atLocal s (s.writeNominal x) :=
  ⟨fun ⟨params, classes, pending, length, debounce, _, unit⟩ =>
    ⟨params, classes, pending, length, debounce, fun p => by
      simp only [State.chan, State.writeNominal, PerPhase.get_map]
      split
      · exact fun _ => rfl
      · next e => exact fun f => absurd f e, unit⟩, id, fun _ _ => id⟩

theorem setClass {k : Fin 4} {c : TimingClass} (h : c.inRange) : Sound atLocal s (s.setClass k c) :=
  ⟨fun ⟨params, classes, rest⟩ => ⟨params, fun j => by
      simp only [State.setClass_classes, Fin.getElem_fin, Vector.getElem_set]
      split
      · exact h
      · exact classes j, rest⟩, id, fun _ _ => id⟩

end Sound
end Sys2Proof.Machine
end

section
namespace Sys2Proof.Machine

open Sys2Proof

variable {s t u : State} {atLocal : Bool}

/-! ### Values within their ranges -/

theorem clampNat_mem {lo hi : Nat} (h : lo ≤ hi) (x : Nat) : lo ≤ clampNat lo hi x ∧ clampNat lo hi x ≤ hi :=
  ⟨le_max_left _ _, max_le h (min_le_left _ _)⟩

/-- Rounding down yields a member of the set (R38, R150). -/
theorem roundDown_mem {lowest : Nat} {members : List Nat} (h : lowest ∈ members) (v : Int) :
    roundDown lowest members v ∈ members := by
  have fold (l : List Nat) (hl : l ⊆ members) (a : Nat) (ha : a ∈ members) :
      l.foldl (fun (a m : Nat) => if (m : Int) ≤ v then m else a) a ∈ members := by
    induction l generalizing a with
    | nil => exact ha
    | cons m l ih =>
      refine ih (fun _ hx => hl (List.mem_cons_of_mem _ hx)) _ ?_
      dsimp only
      split
      · exact hl List.mem_cons_self
      · exact ha
  exact fold members (List.Subset.refl _) lowest h

/-- SET_TIME takes a time-of-day of at most 86,399 (R42). -/
theorem argTime_le {payload : List Byte} {a : Nat × Half} (h : argTime payload = some a) : a.1 ≤ 86399 := by
  unfold argTime at h
  split at h
  · split at h
    · next le => exact Option.some.inj h ▸ le
    · cases h
  · cases h

theorem clampClass_inRange (c : TimingClass) : (clampClass c).inRange := by
  have break_ := clampNat_mem (show 5 ≤ 100 by omega) c.breakPulse
  have make_ := clampNat_mem (show 5 ≤ 100 by omega) c.makePulse
  have settle_ := clampNat_mem (show 1 ≤ 10 by omega) c.settle
  have recovery_ := clampNat_mem (show 2 ≤ 100 by omega) c.recovery
  have gap_ := clampNat_mem (show 20 ≤ 1000 by omega) c.gap
  have orphan_ := clampNat_mem (show 500 ≤ 5000 by omega) c.orphan
  refine ⟨break_, make_, settle_, recovery_, ?_, orphan_, ?_⟩ <;> simp only [clampClass] <;> omega

namespace Sound

/-! ### SET_PARAM -/

theorem writeType (s : State) (i : InputLine) (level : Bool) : Sound atLocal s (s.writeType i level) := by
  have typed := (Kept.refl s).setInput (i := i) (r := { s.input i with level := level }) rfl
  unfold State.writeType
  dsimp only
  split
  · exact typed.setStatus.sound
  · exact typed.sound

/-- A write of a parameter keeps every range: numbers are clamped, members rounded down (R183, R184). -/
theorem writeParam {p : Param} {v : Int} (h : s.writeParam p v = some t) : Sound atLocal s t := by
  have yesNo {f : Bool → State} (e : (yesNoValue? v).map f = some t) (hf : ∀ x, Sound atLocal s (f x)) :
      Sound atLocal s t := by
    obtain ⟨x, -, rfl⟩ := Option.map_eq_some_iff.mp e
    exact hf x
  cases p with
  | nominal =>
    obtain ⟨x, -, rfl⟩ := Option.map_eq_some_iff.mp h
    exact writeNominal s x
  | chatterHold | rescue => exact yesNo h fun _ => setParams id rfl
  | polarity i => exact yesNo h fun _ => ((Kept.refl s).setInput (by rfl)).sound
  | inputType i =>
    cases i
    case keyLocal | supplyWarn => exact Option.some.inj h ▸ writeType _ _ _
    all_goals exact yesNo h (writeType _ _)
  | epochLength => exact Option.some.inj h ▸ setPendingLength (roundDown_mem (by decide) v)
  | debounce i => exact Option.some.inj h ▸ setDebounce (roundDown_mem (by decide) v)
  | neutralLimit => exact Option.some.inj h ▸ writeNeutralLimit (clampNat_mem (by omega) _)
  | haltMask | alertMask | lampMask => exact Option.some.inj h ▸ setParams id rfl
  | vLow | vHigh | vLoss | restoreTime | chatterLimit | wtrig | wmin | plim | kmax | restPeriod | readyLevel
  | chargeTimeout =>
    refine Option.some.inj h ▸ setParams (fun range => ?_) rfl
    simp only [Params.inRange, clampValue, clampNat] at range ⊢
    omega

/-! ### Requests -/

theorem controlled {α : Type} {lk : Link} {arg : Option α} {effect : α → State → Answered}
    (h : ∀ a, arg = some a → Sound atLocal s (effect a s).1) : Sound atLocal s (controlled lk arg effect s).1 := by
  unfold Machine.controlled
  split
  · split
    · exact h _ rfl
    · exact refl s
  · exact refl s

theorem gated {α : Type} {lk : Link} {gate : State → Option Status} {arg : Option α} {effect : α → State → Answered}
    (h : ∀ a, Sound atLocal s (effect a s).1) : Sound atLocal s (gated lk gate arg effect s).1 := by
  unfold Machine.gated
  split
  · split
    · exact refl s
    · split
      · exact h _
      · exact refl s
  · exact refl s

theorem readWith {α : Type} {arg : Option α} {reply : α → State → List Byte} :
    Sound atLocal s (readWith arg reply s).1 := by
  unfold Machine.readWith
  split <;> exact refl s

theorem answered_ite {P : Prop} [Decidable P] {x y : Answered} (hx : P → Sound atLocal s x.1)
    (hy : ¬ P → Sound atLocal s y.1) : Sound atLocal s (if P then x else y).1 := by
  split
  · exact hx ‹_›
  · exact hy ‹_›

theorem perConnection {lk : Link} {arg : Option ConnId} {effect : ConnId → State → Answered}
    (h : ∀ n, Sound atLocal s (effect n s).1) : Sound atLocal s (perConnection lk arg effect s).1 :=
  controlled fun n _ => answered_ite (fun _ => h n) fun _ => refl s

theorem unlessInSlot {n : ConnId} {effect : State → Answered} (h : Sound atLocal s (effect s).1) :
    Sound atLocal s (unlessInSlot n effect s).1 :=
  answered_ite (fun _ => refl s) fun _ => h

theorem doGetParam (payload : List Byte) : Sound atLocal s (doGetParam payload s).1 := by
  unfold Machine.doGetParam
  split
  · split <;> exact refl s
  · exact refl s

theorem doQueryModule (lk : Link) (payload : List Byte) : Sound atLocal s (doQueryModule lk payload s).1 := by
  unfold Machine.doQueryModule
  split
  · exact refl s
  · refine answered_ite (fun _ => refl s) fun room => ⟨id, ?_, fun _ _ => id⟩
    rintro ⟨conns, nexts, time, history, _, rest⟩
    refine ⟨conns, nexts, time, history, ?_, rest⟩
    rw [not_or] at room
    simpa using Nat.not_le.mp room.1

theorem doMove (lk : Link) (payload : List Byte) : Sound atLocal s (doMove lk payload s).1 := gated fun _ => by
  split
  · exact refl s
  · exact (Kept.refl s).makeRoom.accept.sound
  · exact refl s

theorem doCancel (lk : Link) (payload : List Byte) : Sound atLocal s (doCancel lk payload s).1 :=
  controlled fun _ _ => by
    split
    · exact Kept.sound (t := s.endQueued _ .cancelled) (Kept.refl s).endQueued
    · split
      · exact (Kept.refl s).cancelSlot.sound
      · exact refl s

theorem doUnpin (lk : Link) (payload : List Byte) : Sound s.keyLocal s (doUnpin lk payload s).1 := by
  unfold Machine.doUnpin
  refine answered_ite (fun ⟨_, key⟩ => ?_) fun _ => refl s
  split
  · exact answered_ite (fun _ => setConn id id fun k => absurd (key.symm.trans k) nofun) fun _ => refl s
  · exact refl s

/-- CONFIG_CONN leaves PIN and the counts of R1 but the missed run, which it can only clear (R4). -/
theorem configured (c : Conn) (present : Bool) (timing : Fin 4) :
    (configured c present timing).pin = c.pin ∧ (c.inRange → (configured c present timing).inRange)
      ∧ (c.nextSum = 0 ∧ c.nextCount = 0 →
        (configured c present timing).nextSum = 0 ∧ (configured c present timing).nextCount = 0) := by
  unfold Machine.configured
  split
  · exact ⟨rfl, fun ⟨ha, hm, hu, _⟩ => ⟨ha, hm, hu, Nat.zero_le _⟩, fun _ => ⟨rfl, rfl⟩⟩
  all_goals exact ⟨rfl, id, id⟩

theorem doSetParam (lk : Link) (payload : List Byte) : Sound atLocal s (doSetParam lk payload s).1 :=
  controlled fun _ _ => answered_ite (fun _ => refl s) fun _ => by
    unfold storeValue
    split
    · split
      · next h => exact writeParam h
      · exact refl s
    · exact refl s

/-- Every request of the catalogue, but POWER_ON_RESET, which is none (R178 to R181). -/
theorem commandBody (lk : Link) (payload : List Byte) (c : Command) :
    Sound s.keyLocal s (commandBody lk payload c s).1 := by
  cases c with
  | status | readConn | readTable | readPhases | readPlan | readQueue | readSlots | readHistory | readEvents
  | readInputs => exact readWith
  | getParam => exact doGetParam payload
  | queryModule => exact doQueryModule lk payload
  | move => exact doMove lk payload
  | cancel => exact doCancel lk payload
  | pin => exact perConnection fun _ => unlessInSlot <| setConn id id fun _ _ => rfl
  | hold => exact perConnection fun _ => unlessInSlot <| setConn id id fun _ => id
  | release =>
    refine perConnection fun n => unlessInSlot ?_
    have released : Kept s (s.setConn n (released (s.conn n))) := (Kept.refl s).setConn <| by
      unfold released
      split
      · exact ⟨rfl, id, fun _ => id⟩
      · exact ⟨rfl, fun ⟨ha, hm, _, hr⟩ => ⟨ha, hm, Nat.zero_le _, hr⟩, fun _ => id⟩
      · exact .refl _ _
    exact released.sound
  | setAllowance =>
    exact controlled fun _ _ => answered_ite
      (fun _ => setConn (fun ⟨_, rest⟩ => ⟨min_le_left _ _, rest⟩) id fun _ => id) fun _ => refl s
  | configConn =>
    refine gated fun a => ?_
    obtain ⟨pin, range, next⟩ := configured (s.conn a.1) a.2.1 a.2.2
    exact setConn range next fun _ hp => pin.trans hp
  | setClass => exact gated fun a => setClass (clampClass_inRange a.2)
  | setParam => exact doSetParam lk payload
  | start =>
    exact gated fun _ => answered_ite (fun _ => refl s) fun _ =>
      answered_ite (fun _ => refl s) fun _ => (Kept.refl s).emptyHaltRecord.enterMode.sound
  | autoOn => exact gated fun _ => ((Kept.refl s).ite (Kept.refl s).enterMode).sound
  | autoOff => exact gated fun _ => ((Kept.refl s).ite (Kept.refl s).enterMode).sound
  | configure =>
    exact gated fun _ => answered_ite (fun _ => refl s) fun _ =>
      answered_ite (fun _ => (Kept.refl s).setMode.sound) fun _ => refl s
  | resume =>
    exact gated fun _ => answered_ite (fun _ => refl s) fun _ => (Kept.refl s).emptyHaltRecord.enterMode.sound
  | esRetry => exact controlled fun _ _ => ((Kept.refl s).enterCharging.ite (Kept.refl s)).sound
  | clearEvents => exact controlled fun _ _ => (Kept.refl s).clearEvents.sound
  | clearInputs => exact controlled fun _ _ => (Kept.refl s).clearInputs.sound
  | setTime =>
    refine controlled fun a ha => setTime s a.2 ?_
    exact argTime_le ha
  | restart => exact controlled fun _ _ => (Kept.refl s).restart.sound
  | unpin => exact doUnpin lk payload

/-- A request is taken at a free port and dropped at an answering one (R176). -/
theorem takeRequest {lk : Link} {code tag : Byte} {body : State → Answered}
    (h : ∀ u : State, Sound u.keyLocal u (body u).1) : Sound s.keyLocal s (takeRequest lk code tag body s) := by
  unfold Machine.takeRequest
  split
  · exact (Kept.refl s).setPort.sound
  · have taken := (Kept.refl s).setPort.sound.trans (h (s.setPort lk ((s.port lk).asked code tag)))
    dsimp only
    split
    · exact taken.kept (Kept.refl _).setPort
    · exact taken

theorem takeFrame (lk : Link) (code tag : Byte) (payload : List Byte) :
    Sound s.keyLocal s (takeFrame lk code tag payload s) :=
  takeRequest fun u => by
    unfold requestBody
    split
    · exact commandBody lk payload _
    · exact refl u

theorem takeByte (lk : Link) (b : Byte) : Sound s.keyLocal s (s.takeByte lk b) := by
  unfold State.takeByte
  split
  · exact (Kept.refl s).setPort.sound
  · exact takeFrame lk _ _ _

theorem takeGap (lk : Link) (b : Bool) : Sound atLocal s (s.takeGap lk b) := by
  unfold State.takeGap
  split
  · exact refl s
  · exact ((Kept.refl s).ite (Kept.refl s).atInstant).setPort.sound

end Sound

/-- A command that answers a state it has settled. -/
theorem Sound.of_next {x : State} (h : Sound atLocal s x)
    (e : (.next x.settle : Host.Outcome State Fault Refusal) = .next t) : Sound atLocal s t := by
  cases e
  exact h.settle

/-- A command that settles one of two states, as its condition says. -/
theorem Sound.of_ite {P : Prop} [Decidable P] {x y : State} (hx : Sound atLocal s x) (hy : Sound atLocal s y)
    (e : (if P then .next x.settle else .next y.settle : Host.Outcome State Fault Refusal) = .next t) :
    Sound atLocal s t := by
  split at e
  · exact hx.of_next e
  · exact hy.of_next e

/-- Every command but power-on keeps the ranges, and PIN while the key is not at LOCAL. -/
theorem exec_sound (c : Instr) (notReset : ∀ lines mV low, c ≠ .powerOnReset lines mV low) (e : exec c s = .next t) :
    Sound s.keyLocal s t := by
  have kept := Kept.refl s
  have request {lk : Link} {tag : Byte} {payload : List Byte} (c : Command)
      (e : (.next (takeRequest lk c.code tag (commandBody lk payload c) s).settle : Host.Outcome State Fault Refusal)
        = .next t) : Sound s.keyLocal s t := (Sound.takeRequest fun _ => .commandBody lk payload c).of_next e
  have message (m : Arrival) (e : (.next (s.takeMessage m).settle : Host.Outcome State Fault Refusal) = .next t) :
      Sound s.keyLocal s t := kept.takeMessage.sound.of_next e
  have byte (lk : Link) (b : Byte) (e : (.next (s.takeByte lk b).settle : Host.Outcome State Fault Refusal) = .next t) :
      Sound s.keyLocal s t := (Sound.takeByte lk b).of_next e
  have sample (p : Phase) (v i : Int)
      (e : (.next (s.takeSample p v i).settle : Host.Outcome State Fault Refusal) = .next t) :
      Sound s.keyLocal s t := kept.takeSample.sound.of_next e
  have line (i : InputLine) (b : Bool)
      (e : (.next (s.sampleInput i b).settle : Host.Outcome State Fault Refusal) = .next t) :
      Sound s.keyLocal s t := kept.sampleInput.sound.of_next e
  cases c with
  | powerOnReset lines mV low => exact absurd rfl (notReset lines mV low)
  | status => exact request .status e
  | readConn => exact request .readConn e
  | readTable => exact request .readTable e
  | readPhases => exact request .readPhases e
  | readPlan => exact request .readPlan e
  | readQueue => exact request .readQueue e
  | readSlots => exact request .readSlots e
  | readHistory => exact request .readHistory e
  | readEvents => exact request .readEvents e
  | readInputs => exact request .readInputs e
  | getParam => exact request .getParam e
  | queryModule => exact request .queryModule e
  | move => exact request .move e
  | cancel => exact request .cancel e
  | pin => exact request .pin e
  | unpin => exact request .unpin e
  | hold => exact request .hold e
  | release => exact request .release e
  | setAllowance => exact request .setAllowance e
  | configConn => exact request .configConn e
  | setClass => exact request .setClass e
  | setParam => exact request .setParam e
  | start => exact request .start e
  | autoOn => exact request .autoOn e
  | autoOff => exact request .autoOff e
  | configure => exact request .configure e
  | resume => exact request .resume e
  | esRetry => exact request .esRetry e
  | clearEvents => exact request .clearEvents e
  | clearInputs => exact request .clearInputs e
  | setTime => exact request .setTime e
  | restart => exact request .restart e
  | linkFrameDiscarded lk b => exact byte lk b e
  | linkByteReceived lk b => exact byte lk b e
  | linkGapTimeout lk b => exact (Sound.takeGap lk b).of_next e
  | unknownCommand lk code tag payload => exact (Sound.takeFrame lk code tag payload).of_next e
  | replySent lk => exact kept.setPort.sound.of_next e
  | acceptedCrossing p v i => exact sample p v i e
  | samplePair p v i => exact sample p v i e
  | noCrossingLoss p => exact kept.sound.of_ite kept.atInstant.loseCrossings.healthChanged.sound e
  | neutralWindowEnd samples => exact kept.takeWindow.neutralWindow.sound.of_ite kept.sound e
  | secondTick => exact (Sound.tick s).of_next e
  | dayRollover => exact (Sound.tick s).of_ite (.refl s) e
  | epochEnd => exact (Sound.takeOwedEnd s).of_next e
  | debounceComplete i b => exact line i b e
  | inputSample i b => exact line i b e
  | supplyClearingTimeout =>
    simp only [exec, execSupplyClearingTimeout] at e
    split at e
    · exact kept.atInstant.setSupply.qualifiedClear.sound.of_next e
    all_goals exact kept.sound.of_next e
  | storeVoltageRenewal mV =>
    exact (kept.atInstant.sound.trans (Sound.renewVoltage _ mV _)).kept (Kept.refl _).judgeVoltage |>.of_next e
  | chargeTimeout =>
    simp only [exec, execChargeTimeout] at e
    split at e
    · exact kept.atInstant.setStore.haltEvent.sound.of_next e
    all_goals exact kept.sound.of_next e
  | recoveryEnd =>
    simp only [exec, execRecoveryEnd] at e
    split at e
    · exact kept.atInstant.enterCharging.sound.of_ite kept.sound e
    · exact kept.sound.of_next e
  | frameBoundary =>
    simp only [exec, execFrameBoundary] at e
    split at e
    · exact (kept.atInstant.sound.trans (.frameBoundary _)).of_next e
    · exact kept.sound.of_next e
  | unitStart =>
    simp only [exec, execUnitStart] at e
    split at e
    · exact kept.beginUnit.sound.of_ite kept.beginUnit.arbitrate.sound e
    · exact kept.sound.of_next e
  | pollReply m => exact message m e
  | actuationReply m => exact message m e
  | passThroughReply m => exact message m e
  | transactionMissed => exact kept.missTransaction.sound.of_next e
  | gapPoint k =>
    simp only [exec, execGapPoint] at e
    split at e
    · exact kept.toSlotInstant.enterWaitMake.sound.of_ite kept.toSlotInstant.sound e
    · exact kept.toSlotInstant.sound.of_next e
  | orphanDeadline k =>
    simp only [exec, execOrphanDeadline] at e
    split at e
    · exact kept.toSlotInstant.enterOrphaned.sound.of_ite kept.toSlotInstant.sound e
    · exact kept.toSlotInstant.sound.of_next e
  | darkDeadline k =>
    simp only [exec, execDarkDeadline] at e
    split at e
    · exact kept.toSlotInstant.endRecord.sound.of_ite kept.toSlotInstant.sound e
    · exact kept.toSlotInstant.sound.of_next e
  | admission => exact kept.takeAdmission.sound.of_next e
  | summarySelect => exact (Sound.select s).of_next e
  | summaryDeselect => exact Sound.of_next (x := s.deselect) (Sound.setSmp _ id) e
  | summaryClockFallingEdge => exact (Sound.clockFall s).of_next e

end Sys2Proof.Machine

open Sys2Proof Sys2Proof.Machine

/-- Settles O13: no command but UNPIN at LOCAL and power-on removes a PIN. -/
theorem pinRemovedOnlyAtLocal : Obligations.PinRemovedOnlyAtLocal := by
  intro c s t n notReset key pin e
  exact (exec_sound c notReset e).pin key n pin
end

section
/-! Power-on reset: its values, that they are sound, and what POWER_ON_RESET leaves. -/

namespace Sys2Proof.Machine

open Sys2Proof

/-! ### The state after reset -/

theorem State.reset_conn (n : ConnId) : State.reset.conn n = freshConn := by
  simp [State.reset, State.conn]

theorem State.reset_slot (k : SlotId) : State.reset.slot k = none := by
  simp [State.reset, State.slot]

theorem State.reset_slotStage (k : SlotId) : State.reset.slotStage k = none := by
  simp [State.slotStage, State.reset_slot]

theorem State.reset_chan (p : Phase) : State.reset.chan p = freshChannel := by
  cases p <;> rfl

theorem State.reset_class (k : Fin 4) : State.reset.classes[k] = defaultClass := by
  simp [State.reset]

theorem State.reset_records : State.reset.records = [] := by decide +kernel

/-- With the records and channels of reset and a charging store, the mode alone decides the condition statuses (R191). -/
theorem State.conditionBits_of_reset {s : State} {warned : Bool} (conns : s.conns = State.reset.conns)
    (fmu : s.fmu = State.reset.fmu) (store : s.esm.store = .charging 0 10000)
    (mode : s.mdc.mode = if warned then .rideThrough .config else .base .config) :
    s.conditionBits = if warned then 0x1000 else 0 := by
  have lost : s.condition .phaseLost = State.reset.condition .phaseLost := by
    simp only [State.condition, State.health, State.chan, fmu]
  have degraded : s.condition .phaseDegraded = State.reset.condition .phaseDegraded := by
    simp only [State.condition, State.health, State.chan, fmu]
  have dark : s.condition .connectionDark = State.reset.condition .connectionDark := by
    simp only [State.condition, conns]
  have offline : s.condition .moduleOffline = State.reset.condition .moduleOffline := by
    simp only [State.condition, conns]
  have quiet : State.reset.condition .phaseLost = false ∧ State.reset.condition .phaseDegraded = false
      ∧ State.reset.condition .connectionDark = false ∧ State.reset.condition .moduleOffline = false := by decide +kernel
  have fault : s.condition .esFault = false := by simp [State.condition, store]
  simp only [State.conditionBits, lost, degraded, dark, offline, quiet, fault]
  cases warned <;> simp [State.condition, State.modeName, mode, Mode.name, BaseMode.name]
  decide

theorem State.reset_settingsInRange : State.reset.settingsInRange := by
  refine ⟨?_, fun k => ?_, by decide, by decide, fun i => ?_, fun p _ => ?_, rfl, .hz50, rfl⟩
  · unfold Params.inRange; decide
  · rw [State.reset_class]; unfold TimingClass.inRange; decide
  · cases i <;> decide
  · rw [State.reset_chan]; rfl

theorem State.reset_countsInRange : State.reset.countsInRange := by
  refine ⟨fun n => ?_, fun _ n => ?_, by decide, by decide, by decide, .nil, by decide, by decide⟩ <;>
    rw [State.reset_conn]
  · unfold Conn.inRange; decide
  · exact ⟨rfl, rfl⟩

end Sys2Proof.Machine

open Sys2Proof Sys2Proof.Machine

/-- Settles O2: by evaluating the reset state block by block. -/
theorem resetValues : Obligations.ResetValues := by
  refine ⟨State.reset_conn, fun p => ?health, ?_, ?_, ?_, ?_, ?_, ?_, ?_, ?_, ?_, by decide, ?_, ?_, State.reset_class,
    ?_, ?_, fun lk => ?ports, ?_, ?_, ?_⟩
  case health => rw [State.health, State.reset_chan]; exact ⟨rfl, rfl, rfl, rfl⟩
  case ports => cases lk <;> exact ⟨rfl, rfl⟩
  all_goals rfl

/-- Settles O3: each invariant checked on the reset state, whose collections are all empty. -/
theorem resetIsSound : Obligations.ResetIsSound := by
  have upToDate : State.reset.upToDate := by unfold State.upToDate; decide +kernel
  have linked : State.reset.linked := by simp [State.linked, State.reset_records]
  have queueOrdered : State.reset.queueOrdered := by unfold State.queueOrdered; decide +kernel
  have configIdle : State.reset.configIdle := by unfold State.configIdle; decide +kernel
  have keyObeyed : State.reset.keyObeyed := by unfold State.keyObeyed; decide +kernel
  have warningObeyed : State.reset.warningObeyed := by unfold State.warningObeyed; decide +kernel
  have aligned : State.reset.aligned := by unfold State.aligned; decide +kernel
  have actuationTied : State.reset.actuationTied :=
    ⟨fun k sl h => by simp [State.reset_slot] at h, fun _ _ _ _ _ _ h => absurd h (by simp [State.reset])⟩
  have noNewWork : State.reset.noNewWork :=
    ⟨fun _ k => by simp [State.reset_slotStage], fun _ k sl h => by simp [State.reset_slot] at h⟩
  exact ⟨upToDate, linked, queueOrdered, configIdle, keyObeyed, warningObeyed, aligned, actuationTied, noNewWork,
    State.reset_settingsInRange, State.reset_countsInRange⟩

/-- Settles O12: every command but power-on keeps the ranges, and power-on starts within them. -/
theorem valuesStayInRange : Obligations.ValuesStayInRange := by
  have resets (lines : PerInput Bool) (mV : Nat) (low : Bool) (s : State) :
      Sound true State.reset (powerOn lines mV low s).settle := by
    have found : Kept State.reset { powerOn lines mV low s with esm := State.reset.esm } :=
      { Kept.refl State.reset with debounce := fun i => by cases i <;> rfl }
    exact ((found.sound.trans (Sound.renewVoltage _ mV 0)).trans (Sound.refl _)).settle
  constructor
  · intro c s t h e
    by_cases reset : ∃ lines mV low, c = .powerOnReset lines mV low
    · obtain ⟨lines, mV, low, rfl⟩ := reset
      cases e
      exact (resets lines mV low s).settings State.reset_settingsInRange
    · push Not at reset
      exact (exec_sound c reset e).settings h
  · intro c s t h e
    by_cases reset : ∃ lines mV low, c = .powerOnReset lines mV low
    · obtain ⟨lines, mV, low, rfl⟩ := reset
      cases e
      exact (resets lines mV low s).counts State.reset_countsInRange
    · push Not at reset
      exact (exec_sound c reset e).counts h

/-- Settles O4: from the equation of each block that the first samples decide. -/
theorem powerOnResetTaken : Obligations.PowerOnResetTaken := by
  intro lines mV low s
  have active (b : Bool) : (b == true) = b := by cases b <;> rfl
  have inactive (b : Bool) : (b == false) = !b := by cases b <;> rfl
  have inputs : (powerOn lines mV low s).ilu.inputs = firstSamples State.reset.ilu.inputs lines := rfl
  have supply : (powerOn lines mV low s).ilu.supply = if lines.supplyWarn then .warning else .clear := by
    simp [powerOn, State.judgeOutputs, powerOnInputs, firstSamples, firstSample, State.reset, quietInput, active]
  have mode : (powerOn lines mV low s).mdc.mode = if lines.supplyWarn then .rideThrough .config else .base .config := by
    have h : (powerOn lines mV low s).mdc.mode
      = if (powerOn lines mV low s).ilu.supply = .warning then .rideThrough .config else .base .config := rfl
    rw [h, supply]
    cases lines.supplyWarn <;> rfl
  have statuses : (powerOn lines mV low s).settle.evu.statuses = if lines.supplyWarn then 0x9000 else 0x8000 := by
    have held : (powerOn lines mV low s).evu.statuses
        = (0x8000 &&& ~~~conditionMask) ||| (powerOn lines mV low s).conditionBits := rfl
    rw [State.settle_statuses, State.statusesNow, held,
      State.conditionBits_of_reset (s := powerOn lines mV low s) rfl rfl rfl mode]
    cases lines.supplyWarn <;> decide
  have alert : ∀ w : Bool, outputOf (if w then 0x9000 else 0x8000) defaultParams.alertMask = true := by decide
  have lamp : ∀ w : Bool, outputOf (if w then 0x9000 else 0x8000) defaultParams.lampMask = false := by decide
  have output (mask : Half) : outputOf (powerOn lines mV low s).settle.evu.statuses mask
      = outputOf (if lines.supplyWarn then 0x9000 else 0x8000) mask := by rw [statuses]
  have published : (powerOn lines mV low s).settle.smp.published
      = { figures := (powerOn lines mV low s).settle.figures, number := 0 } := if_pos rfl
  refine ⟨(powerOn lines mV low s).settle, rfl, ?_, ?_, ?_, ?_, ?_, ?_, ?_, ?_, ?_, ?_, ?_, ?_, mode, supply, ?authority,
    ?_, ?_, ?rlyBlock, ?_, ?rlyTrip, ?_, ?door, ?_, ?_, statuses, (output _).trans (alert _), (output _).trans (lamp _),
    published, published.symm, ?_, ?_⟩
  case authority =>
    exact congrArg (fun b : Bool => if b then Link.service else .operator) (active lines.keyLocal)
  case rlyBlock => exact active _
  case rlyTrip => exact active _
  case door => exact inactive _
  all_goals rfl
end

section
/-! The per-connection requests (R16 to R22) and the configuration commands (R4, R132), answered at a free port. -/

namespace Sys2Proof.Machine

open Sys2Proof

variable {s : State} {lk : Link} {code tag : Byte} {n : ConnId}

/-! ### What taking such a request comes to -/

/-- A request refused with a status answers that status and changes nothing else (R178). -/
theorem takeRequest_refuse {body : State → Answered} (st : Status) (h : s.portFree lk)
    (hb : body (s.asking lk code tag) = refuse st (s.asking lk code tag)) :
    takeRequest lk code tag body s = s.answering lk code tag [st.code] :=
  takeRequest_reply _ _ _ _ h hb

/-- A request accepted with nothing changed answers status 0x00 and its payload. -/
theorem takeRequest_ok {body : State → Answered} {payload : List Byte} (h : s.portFree lk)
    (hb : body (s.asking lk code tag) = okWith payload (s.asking lk code tag)) :
    takeRequest lk code tag body s = s.answering lk code tag (0x00 :: payload) :=
  takeRequest_reply _ _ _ _ h hb

/-- An accepted request that writes one record leaves that record written, answering. -/
theorem takeRequest_setConn {body : State → Answered} {c : Conn} {payload : List Byte} (h : s.portFree lk)
    (hb : body (s.asking lk code tag) = okWith payload ((s.asking lk code tag).setConn n c)) :
    takeRequest lk code tag body s = (s.setConn n c).answering lk code tag (0x00 :: payload) :=
  takeRequest_effect _ _ _ _ h rfl hb

/-- The outcome of a command that settles what it has taken. -/
theorem settled_congr {t u : State} (h : t = u) :
    (Host.Outcome.next t.settle : Host.Outcome State Fault Refusal) = .next u.settle := h ▸ rfl

/-! ### The checks, made in the asking state -/

/-- A request of a connection number, by authority and presence (R16). -/
theorem perConnection_asking (effect : ConnId → State → Answered) :
    perConnection lk (argConn (u8 (connNumber n))) effect (s.asking lk code tag) =
      if s.mdc.authority = lk then
        if (s.conn n).present then effect n (s.asking lk code tag) else refuse .notPresent (s.asking lk code tag)
      else refuse .notInControl (s.asking lk code tag) := by
  by_cases auth : s.mdc.authority = lk
  · rw [perConnection, argConn_connNumber, controlled_inControl _ _ _ _ auth, if_pos auth]
    rfl
  · rw [perConnection, controlled_otherLink _ _ _ _ auth, if_neg auth]
    rfl

/-- A request barred while the record is in a slot (R17, R19, R21). -/
theorem unlessInSlot_asking (effect : State → Answered) :
    unlessInSlot n effect (s.asking lk code tag) =
      if (s.slotOf n).isSome then refuse .busy (s.asking lk code tag) else effect (s.asking lk code tag) := rfl

/-- A request gated by CONFIG (R4, R132). -/
theorem gated_configGate_asking {α : Type} (a : α) (effect : α → State → Answered) (auth : s.mdc.authority = lk) :
    gated lk configGate (some a) effect (s.asking lk code tag) =
      if s.modeName = .config then effect a (s.asking lk code tag) else refuse .wrongMode (s.asking lk code tag) := by
  by_cases mode : s.modeName = .config <;>
    simp [gated, configGate, State.inControl, auth, mode]

/-! ### Operands read back -/

theorem yesNo?_flag (b : Bool) : yesNo? (if b then 1 else 0) = some b := by cases b <;> rfl

theorem toNat_ofNat_class (k : Fin 4) : (BitVec.ofNat 8 k.val).toNat = k.val := by
  simp only [BitVec.toNat_ofNat]
  omega

theorem argAllowance_bytes (a : Byte) : argAllowance (u8 (connNumber n) ++ [a]) = some (n, a.toNat) := by
  simp only [argAllowance, u8, List.cons_append, List.nil_append, connOf?_connNumber, Option.map_some]

theorem argConfig_bytes (present : Bool) (k : Fin 4) :
    argConfig (u8 (connNumber n) ++ flag present ++ u8 k.val) = some (n, present, k) := by
  simp only [argConfig, u8, flag, List.cons_append, List.nil_append, connOf?_connNumber, yesNo?_flag,
    toNat_ofNat_class, k.isLt, dif_pos]

/-- The class whose six fields are as SET_CLASS sends them. -/
def sentClass (b m g o : Half) (se re : Byte) : TimingClass :=
  { breakPulse := b.toNat, makePulse := m.toNat, settle := se.toNat, recovery := re.toNat, gap := g.toNat,
    orphan := o.toNat }

theorem argClass_bytes (k : Fin 4) (b m g o : Half) (se re : Byte) :
    argClass (u8 k.val ++ be16 b ++ be16 m ++ [se, re] ++ be16 g ++ be16 o) = some (k, sentClass b m g o se re) := by
  simp only [argClass, sentClass, u8, be16, List.cons_append, List.nil_append, half_be16, toNat_ofNat_class, k.isLt, dif_pos]

/-! ### The record each command leaves -/

/-- HOLD of a record that has a hold already writes the record it found (R19). -/
theorem setConn_hold_kept (h : (s.conn n).hold ≠ none) :
    s.setConn n { s.conn n with hold := some ((s.conn n).hold.getD .operator) } = s := by
  obtain ⟨reason, held⟩ := Option.ne_none_iff_exists'.mp h
  have same : { s.conn n with hold := some ((s.conn n).hold.getD .operator) } = s.conn n := by
    rw [held, Option.getD_some, ← held]
  rw [same, State.setConn_conn]

theorem released_of_none {c : Conn} (h : c.hold = none) : released c = c := by simp [released, h]

theorem released_of_operator {c : Conn} (h : c.hold = some .operator) : released c = { c with hold := none } := by
  simp [released, h]

theorem released_of_chatter {c : Conn} (h : c.hold = some .chatter) :
    released c = { c with hold := none, uncommanded := 0 } := by
  simp [released, h]

/-- CONFIG_CONN that changes no present flag sets the timing class alone (R4). -/
theorem configured_same {c : Conn} {present : Bool} {k : Fin 4} (h : c.present = present) :
    configured c present k = { c with timing := k } := by
  cases present <;> simp [configured, h]

/-! ### The commands in the asking state -/

theorem doPin_asking (auth : s.mdc.authority = lk) :
    doPin lk (u8 (connNumber n)) (s.asking lk code tag) =
      if (s.conn n).present then
        if (s.slotOf n).isSome then refuse .busy (s.asking lk code tag)
        else okWith [] ((s.asking lk code tag).setConn n { s.conn n with pin := true })
      else refuse .notPresent (s.asking lk code tag) := by
  simp only [doPin, perConnection_asking, unlessInSlot_asking, State.asking_conn, auth, if_true]

theorem doHold_asking (auth : s.mdc.authority = lk) :
    doHold lk (u8 (connNumber n)) (s.asking lk code tag) =
      if (s.conn n).present then
        if (s.slotOf n).isSome then refuse .busy (s.asking lk code tag)
        else okWith [] ((s.asking lk code tag).setConn n
          { s.conn n with hold := some ((s.conn n).hold.getD .operator) })
      else refuse .notPresent (s.asking lk code tag) := by
  simp only [doHold, perConnection_asking, unlessInSlot_asking, State.asking_conn, auth, if_true]

theorem doRelease_asking :
    doRelease lk (u8 (connNumber n)) (s.asking lk code tag) =
      if s.mdc.authority = lk then
        if (s.conn n).present then
          if (s.slotOf n).isSome then refuse .busy (s.asking lk code tag)
          else okWith [] ((s.asking lk code tag).setConn n (released (s.conn n)))
        else refuse .notPresent (s.asking lk code tag)
      else refuse .notInControl (s.asking lk code tag) := by
  simp only [doRelease, perConnection_asking, unlessInSlot_asking, State.asking_conn]

theorem doUnpin_asking :
    doUnpin lk (u8 (connNumber n)) (s.asking lk code tag) =
      if lk = .service ∧ s.keyLocal then
        if (s.conn n).present then okWith [] ((s.asking lk code tag).setConn n { s.conn n with pin := false })
        else refuse .notPresent (s.asking lk code tag)
      else refuse .notInControl (s.asking lk code tag) := by
  rw [doUnpin, argConn_connNumber]
  rfl

theorem doConfigConn_asking (present : Bool) (k : Fin 4) (auth : s.mdc.authority = lk) :
    doConfigConn lk (u8 (connNumber n) ++ flag present ++ u8 k.val) (s.asking lk code tag) =
      if s.modeName = .config then
        okWith [] ((s.asking lk code tag).setConn n (configured (s.conn n) present k))
      else refuse .wrongMode (s.asking lk code tag) := by
  rw [doConfigConn, argConfig_bytes, gated_configGate_asking _ _ auth]
  rfl

/-- A class's six fields as sent are stored clamped, and the stored ones are echoed (R132). -/
theorem doSetClass_asking (k : Fin 4) (b m g o : Half) (se re : Byte) (auth : s.mdc.authority = lk) :
    doSetClass lk (u8 k.val ++ be16 b ++ be16 m ++ [se, re] ++ be16 g ++ be16 o) (s.asking lk code tag) =
      if s.modeName = .config then
        okWith (classBytes k (clampClass (sentClass b m g o se re)))
          ((s.asking lk code tag).setClass k (clampClass (sentClass b m g o se re)))
      else refuse .wrongMode (s.asking lk code tag) := by
  rw [doSetClass, argClass_bytes, gated_configGate_asking _ _ auth]

end Sys2Proof.Machine

open Sys2Proof Sys2Proof.Machine

/-- Settles O23: a bar through the one equation of a command about a present record, in a slot or not. -/
theorem barsAndAllowanceTaken : Obligations.BarsAndAllowanceTaken := by
  refine ⟨fun s lk tag n free auth => ⟨fun present out => ⟨?_, fun hold => ?_, fun hold => ?_⟩,
      fun present slot => ?_, fun absent => ?_⟩,
    fun s lk tag n free => ⟨fun bar => ?_, fun link key present => ?_, fun link key absent => ?_⟩,
    fun s lk tag a n free auth present => ?_⟩
  · exact settled_congr (takeRequest_setConn free (by simp [doPin_asking, auth, present, out]))
  · exact settled_congr (takeRequest_setConn free (by simp [doHold_asking, auth, present, out, hold]))
  · refine settled_congr (takeRequest_ok free ?_)
    rw [doHold_asking auth, if_pos present, out, if_neg (by simp)]
    exact congrArg (okWith []) (setConn_hold_kept (s := s.asking lk _ tag) hold)
  · have held : (s.slotOf n).isSome = true := Option.isSome_iff_ne_none.mpr slot
    exact ⟨settled_congr (takeRequest_refuse .busy free (by simp [doPin_asking, auth, present, held])),
      settled_congr (takeRequest_refuse .busy free (by simp [doHold_asking, auth, present, held]))⟩
  · exact ⟨settled_congr (takeRequest_refuse .notPresent free (by simp [doPin_asking, auth, absent])),
      settled_congr (takeRequest_refuse .notPresent free (by simp [doHold_asking, auth, absent]))⟩
  · have barred : ¬ (lk = .service ∧ s.keyLocal = true) := by
      rintro ⟨rfl, key⟩
      simp [key] at bar
    exact settled_congr (takeRequest_refuse .notInControl free (by rw [doUnpin_asking, if_neg barred]))
  · exact settled_congr (takeRequest_setConn free (by simp [doUnpin_asking, link, key, present]))
  · exact settled_congr (takeRequest_refuse .notPresent free (by simp [doUnpin_asking, link, key, absent]))
  · refine settled_congr (takeRequest_setConn free ?_)
    rw [doSetAllowance, argAllowance_bytes, controlled_inControl _ _ _ _ auth]
    simp [present]

/-- Settles O24: row by row of R21's table, each a bar written to one record. -/
theorem releaseTaken : Obligations.ReleaseTaken := by
  refine fun s lk tag n free => ⟨fun auth => ?_, fun auth present slot => ?_, fun auth present out hold => ?_,
    fun auth present out hold => ?_, fun auth present out hold => ?_⟩
  · exact settled_congr (takeRequest_refuse .notInControl free (by simp [doRelease_asking, auth]))
  · have held : (s.slotOf n).isSome = true := Option.isSome_iff_ne_none.mpr slot
    exact settled_congr (takeRequest_refuse .busy free (by simp [doRelease_asking, auth, present, held]))
  · exact settled_congr (takeRequest_setConn free
      (by simp [doRelease_asking, auth, present, out, released_of_operator hold]))
  · exact settled_congr (takeRequest_setConn free
      (by simp [doRelease_asking, auth, present, out, released_of_chatter hold]))
  · refine settled_congr (takeRequest_ok free ?_)
    rw [doRelease_asking, if_pos auth, if_pos present, out, if_neg (by simp), released_of_none hold,
      ← State.asking_conn s lk _ tag n, State.setConn_conn]

/-- Settles O25: old and new presence of the record split for CONFIG_CONN's four effects. -/
theorem configurationCommandsTaken : Obligations.ConfigurationCommandsTaken := by
  refine ⟨fun s lk tag n present k free auth => ⟨fun mode => ?_, fun mode was is => ?_, fun mode same => ?_,
      fun mode was is => ?_⟩,
    fun s lk tag k b m g o se re free auth => ⟨fun mode => ?_, fun mode => ?_⟩⟩
  · exact settled_congr (takeRequest_refuse .wrongMode free (by rw [doConfigConn_asking _ _ auth, if_neg mode]))
  · refine settled_congr (takeRequest_setConn free ?_)
    rw [doConfigConn_asking _ _ auth, if_pos mode]
    simp [configured, was, is]
  · refine settled_congr (takeRequest_setConn free ?_)
    rw [doConfigConn_asking _ _ auth, if_pos mode, configured_same same]
  · refine settled_congr (takeRequest_setConn free ?_)
    rw [doConfigConn_asking _ _ auth, if_pos mode]
    simp [configured, was, is]
  · exact settled_congr (takeRequest_refuse .wrongMode free (by rw [doSetClass_asking _ _ _ _ _ _ _ auth, if_neg mode]))
  · refine ⟨clampClass (sentClass b m g o se re), rfl, rfl, rfl, rfl, rfl, rfl, settled_congr ?_⟩
    refine takeRequest_effect _ _ _ _ free rfl ?_
    rw [doSetClass_asking _ _ _ _ _ _ _ auth, if_pos mode]
    rfl
end

section
/-! The change-counter comparison of R6, and what it makes of a module that does what it was told. -/

namespace Sys2Proof.Machine

open Sys2Proof

variable {c : Conn} {r : StatusReport} {a : PendingActuation} {m m' : Module}

/-! ### The comparison, case by case (R6) -/

theorem uncommandedFound_of_unseen (h : c.link = .unseen) : uncommandedFound c r = 0 := by
  simp [uncommandedFound, h]

/-- Case 2: an unanswered actuation, and the reply shows its before phase or its intended phase. -/
theorem uncommandedFound_of_settled (h : c.pendingAct = some a) (missed : a.state = .unanswered)
    (shown : Confirmed.ofClosed r.closed = a.before ∨ Confirmed.ofClosed r.closed = a.intended) :
    uncommandedFound c r = 0 := by
  have settles : settlesUnanswered c r.closed = true := by simp [settlesUnanswered, h, missed, shown]
  simp [uncommandedFound, settles]

/-- An unanswered actuation explains one change of those the counter shows. -/
theorem uncommandedFound_of_unanswered (seen : c.link ≠ .unseen) (h : c.pendingAct = some a)
    (missed : a.state = .unanswered) (notBefore : Confirmed.ofClosed r.closed ≠ a.before)
    (notIntended : Confirmed.ofClosed r.closed ≠ a.intended) :
    uncommandedFound c r = (r.counter - c.expected).toNat - 1 := by
  have settles : settlesUnanswered c r.closed = false := by simp [settlesUnanswered, h, notBefore, notIntended]
  have isMissed : unanswered c = true := by simp [unanswered, h, missed]
  simp [uncommandedFound, seen, settles, isMissed, h]

/-- An accepted actuation explains nothing beyond the change it was counted for. -/
theorem uncommandedFound_of_accepted (seen : c.link ≠ .unseen) (h : c.pendingAct = some a)
    (accepted : a.state = .accepted) : uncommandedFound c r = (r.counter - c.expected).toNat := by
  have settles : settlesUnanswered c r.closed = false := by simp [settlesUnanswered, h, accepted]
  have isAccepted : unanswered c = false := by simp [unanswered, h, accepted]
  simp [uncommandedFound, seen, settles, isAccepted, h]

theorem uncommandedFound_of_idle (seen : c.link ≠ .unseen) (h : c.pendingAct = none) :
    uncommandedFound c r =
      if r.counter = c.expected then if c.phase = .unknown ∨ c.phase = Confirmed.ofClosed r.closed then 0 else 1
      else (r.counter - c.expected).toNat := by
  have settles : settlesUnanswered c r.closed = false := by simp [settlesUnanswered, h]
  have idle : unanswered c = false := by simp [unanswered, h]
  by_cases same : r.counter = c.expected
  · by_cases unknown : c.phase = .unknown <;> simp [uncommandedFound, seen, settles, idle, h, same, unknown]
  · have moved : (r.counter - c.expected).toNat ≠ 0 := by bv_omega
    simp [uncommandedFound, seen, settles, idle, h, same, moved, -BitVec.toNat_sub]

theorem uncommandedFound_le (c : Conn) (r : StatusReport) : uncommandedFound c r ≤ 255 := by
  have byte : (r.counter - c.expected).toNat < 256 := BitVec.isLt _
  dsimp only [uncommandedFound]
  repeat' split
  all_goals omega

/-! ### A module that carries out what it was told (R125, R127, R128) -/

/-- A taken ACCEPT of a present, seen record leaves the actuation pending, counted (R7). -/
theorem actuationReplied_accept (present : c.present = true) (seen : c.link ≠ .unseen) (before intended : Confirmed) :
    actuationReplied c before intended true = { c with
      link := .online, missedRun := 0, expected := c.expected + 1,
      pendingAct := some { before := before, intended := intended, state := .accepted } } := by
  simp [actuationReplied, present, seen]

/-- After a taken ACCEPT a report whose counter rose by that one change charges nothing. -/
theorem uncommandedFound_actuationReplied (present : c.present = true) (seen : c.link ≠ .unseen)
    {before intended : Confirmed} (counted : r.counter = c.expected + 1) :
    uncommandedFound (actuationReplied c before intended true) r = 0 := by
  rw [actuationReplied_accept present seen, uncommandedFound_of_accepted (by simp) rfl rfl]
  simp [counted]

/-- After a missed reply a report of the before phase or the intended phase charges nothing. -/
theorem uncommandedFound_actuationMissed {before intended : Confirmed}
    (shown : Confirmed.ofClosed r.closed = before ∨ Confirmed.ofClosed r.closed = intended) :
    uncommandedFound (actuationMissed c before intended) r = 0 :=
  uncommandedFound_of_settled rfl rfl shown

theorem onBreak_accept (h : m.onBreak = (m', .accept)) : m' = m.accept .opening := by
  unfold Module.onBreak at h
  repeat' split at h
  all_goals simp_all

theorem onMake_accept {p : Phase} {live : Bool} (h : m.onMake p live = (m', .accept)) :
    m' = m.accept (.closing p) ∧ m.switch = none := by
  unfold Module.onMake at h
  repeat' split at h
  all_goals simp_all

/-- A zero crossing after a MAKE was begun leaves the counter and closes the switch onto the phase of the MAKE, if at
all (R128). -/
theorem onCrossing_closing {p : Phase} {now at' period : Nat} :
    let w := (((m.accept (.closing p)).onMarker now).onCrossing p at' period).report at'
    w.counter = m.counter + 1 ∧ (w.closed = m.switch ∨ w.closed = some p) := by
  simp only [Module.onCrossing, Module.onMarker, Module.accept, Module.report]
  split <;> simp [Module.closed]

end Sys2Proof.Machine

open Sys2Proof Sys2Proof.Machine

/-- Settles O40: R6's cases, each from the lemma of that case. -/
theorem uncommandedChangesCounted : Obligations.UncommandedChangesCounted := by
  refine fun c r => ⟨uncommandedFound_of_unseen, fun _ => uncommandedFound_of_settled,
    fun seen _ => uncommandedFound_of_unanswered seen, fun seen _ => uncommandedFound_of_accepted seen,
    fun seen idle moved => ?_, fun seen idle same => ?_, uncommandedFound_le c r, fun _ => rfl⟩
  · rw [uncommandedFound_of_idle seen idle, if_neg moved]
  · rw [uncommandedFound_of_idle seen idle, if_pos same]

/-- Settles O41: from the counter a module reports after each way of taking a request. -/
theorem commandedChangesNeverCounted : Obligations.CommandedChangesNeverCounted := by
  refine fun c m now present seen counter phase => ⟨fun m' accept => ?_, fun p live m' at' period accept => ?_,
    fun i => uncommandedFound_actuationMissed (.inl phase.symm)⟩
  · obtain rfl := onBreak_accept accept
    exact ⟨uncommandedFound_actuationReplied present seen (congrArg (· + 1) counter),
      uncommandedFound_actuationMissed (.inr rfl)⟩
  · obtain ⟨rfl, isOpen⟩ := onMake_accept accept
    obtain ⟨counted, closed⟩ := onCrossing_closing (m := m) (p := p) (now := now) (at' := at') (period := period)
    have shown := closed.imp (congrArg Confirmed.ofClosed) (congrArg Confirmed.ofClosed)
    rw [← phase] at shown
    exact ⟨uncommandedFound_actuationReplied present seen (congrArg (· + 1) counter),
      uncommandedFound_actuationReplied present seen (counted.trans (congrArg (· + 1) counter)),
      uncommandedFound_actuationMissed shown⟩
end

section
/-! What the ending of a slot's record writes (R14, R15, R81, R82), in one equation, and the three deadlines of a slot
(R87, R96, R101). -/

namespace Sys2Proof.Machine

open Sys2Proof

variable {s : State} {k : SlotId} {sl : Slot} {bt : Nat}

/-! ### Endings -/

/-- The ending of a connection's record sets a deferred chatter hold (R15). -/
def State.chatterDue (s : State) (n : ConnId) : Bool := (s.conn n).chatterPending && chatterTest s.params (s.conn n)

theorem State.chatterDue_iff (n : ConnId) :
    s.chatterDue n = true ↔ (s.conn n).chatterPending = true ∧ s.params.chatterLimit ≤ (s.conn n).uncommanded
      ∧ s.params.chatterHold = true ∧ (s.conn n).hold = none := by
  simp [State.chatterDue, chatterTest, and_assoc]

/-- A record once its transfer has ended: what the result writes (R14), the link cleared, a deferred chatter hold tested
(R15). -/
def State.endedConn (s : State) (n : ConnId) (res : Result) (target : Phase) : Conn :=
  { s.conn n with
    recordLink := none, chatterPending := false
    phase := if res = .done then .on target else if res = .noReply then .unknown else (s.conn n).phase
    lastMove := if res = .done then some s.tbs.epoch else (s.conn n).lastMove
    dark := if res = .dark then true else (s.conn n).dark
    hold := if s.chatterDue n then some .chatter else (s.conn n).hold }

theorem endingWrites_eq (c : Conn) (res : Result) (target : Phase) (epoch : Word) :
    endingWrites c res target epoch = { c with
      phase := if res = .done then .on target else if res = .noReply then .unknown else c.phase
      lastMove := if res = .done then some epoch else c.lastMove
      dark := if res = .dark then true else c.dark } := by
  cases res <;> rfl

/-- Statuses become set beside those that are (R191). -/
def State.raised (s : State) (w : Half) : State := { s with evu := { s.evu with statuses := s.evu.statuses ||| w } }

@[simp] theorem State.raised_zero (s : State) : s.raised 0 = s := by simp [State.raised]

theorem State.raised_chatterHold (s : State) : s.raise .chatterHold = s.raised 0x0100 := rfl

theorem State.raised_transferFailed (s : State) : s.raise .transferFailed = s.raised 0x0010 := rfl

/-- Clearing a pending chatter hold and testing it: one write of the record, and CHATTER_HOLD if the hold is set (R15). -/
theorem State.deferredChatter_eq (s : State) (n : ConnId) :
    s.deferredChatter n =
      (s.setConn n { s.conn n with
        chatterPending := false, hold := if s.chatterDue n then some .chatter else (s.conn n).hold }).raised
        (if s.chatterDue n then 0x0100 else 0) := by
  unfold State.deferredChatter State.chatterDue
  cases pending : (s.conn n).chatterPending
  · have same : { s.conn n with chatterPending := false, hold := (s.conn n).hold } = s.conn n := by rw [← pending]
    simp only [Bool.false_and, Bool.false_eq_true, if_false, same, State.setConn_conn, State.raised_zero]
  · have again : chatterTest (s.setConn n { s.conn n with chatterPending := false }).params
        { s.conn n with chatterPending := false } = chatterTest s.params (s.conn n) := rfl
    cases test : chatterTest s.params (s.conn n) <;>
      simp only [State.conn_setConn_same, again, test, Bool.true_and, Bool.false_eq_true, if_true, if_false,
        State.raised_zero, State.setChatterHold, State.setConn_setConn, State.raised_chatterHold]

/-- What every ending does once the record has left its place: three writes (R81, R82). -/
theorem State.finishRecord_eq (s : State) (r : MoveRec) (res : Result) :
    s.finishRecord r res =
      ({ s.setConn r.conn { s.conn r.conn with recordLink := none } with
        mvq := { s.mvq with history := pushHistory s.mvq.history (historyEntry r res s.tbs.epoch s.tbs.timeOfDay) } } :
        State).raised (if res.failed then 0x0010 else 0) := by
  unfold State.finishRecord
  cases res.failed
  · exact (State.raised_zero _).symm
  · rfl

/-- The whole of an ending of a slot's record (R14, R15, R81, R82). -/
theorem State.endRecord_eq (h : s.slot k = some sl) (res : Result) :
    s.endRecord k res = { s with
      conns := s.conns.set sl.record.conn (s.endedConn sl.record.conn res sl.record.target)
      txe := { s.txe with slots := s.txe.slots.set k none }
      mvq := { s.mvq with
        history := pushHistory s.mvq.history (historyEntry sl.record res s.tbs.epoch s.tbs.timeOfDay) }
      evu := { s.evu with statuses := s.evu.statuses ||| (if s.chatterDue sl.record.conn then 0x0100 else 0)
        ||| (if res.failed then 0x0010 else 0) }
      sbc := { s.sbc with verifyPolls := s.sbc.verifyPolls.filter fun j => j != k } } := by
  let c := endingWrites (s.conn sl.record.conn) res sl.record.target s.tbs.epoch
  have due : (s.setConn sl.record.conn c).chatterDue sl.record.conn = s.chatterDue sl.record.conn := by
    simp [State.chatterDue, chatterTest, c, endingWrites_eq]
  have hold : c.hold = (s.conn sl.record.conn).hold := by rw [show c = _ from endingWrites_eq ..]
  have applied : s.applyEnding sl.record.conn res sl.record.target =
      (s.setConn sl.record.conn { c with
        chatterPending := false,
        hold := if s.chatterDue sl.record.conn then some .chatter else (s.conn sl.record.conn).hold }).raised
        (if s.chatterDue sl.record.conn then 0x0100 else 0) := by
    rw [State.applyEnding, State.deferredChatter_eq, due, State.conn_setConn_same, State.setConn_setConn, hold]
  unfold State.endRecord
  rw [h]
  dsimp only
  rw [applied, State.finishRecord_eq]
  simp only [c, endingWrites_eq, State.raised, State.freeSlotOf, State.setSlot, State.setConn, State.conn,
    Vector.set_set, Fin.getElem_fin, Vector.getElem_set_self, State.endedConn]

theorem Result.failed_iff (res : Result) :
    res.failed = true ↔ res ∈ [.notOpened, .returned, .dark, .reverted, .wrongPhase, .noReply] := by
  cases res <;> decide

@[simp] theorem getLast?_pushHistory (h : List HistEntry) (e : HistEntry) : (pushHistory h e).getLast? = some e := by
  have places : h.length + 1 - Config.historyPlaces ≤ h.length := by
    simp only [Config.historyPlaces]
    omega
  rw [pushHistory, List.drop_append_of_le_length places, List.getLast?_concat]

section EndRecord

variable (h : s.slot k = some sl) (res : Result)
include h

theorem State.endRecord_conn (m : ConnId) :
    (s.endRecord k res).conn m =
      if m = sl.record.conn then s.endedConn sl.record.conn res sl.record.target else s.conn m := by
  rw [State.endRecord_eq h]
  exact s.conn_setConn _ _ _

theorem State.endRecord_slot (j : SlotId) : (s.endRecord k res).slot j = if j = k then none else s.slot j := by
  rw [State.endRecord_eq h]
  exact s.slot_setSlot _ _ _

end EndRecord

/-! ### The three instants (R87) -/

/-- The clock is brought to an instant the slot has. -/
theorem State.toSlotInstant_eq {instant : State → MoveRec → Option Nat} {t : Nat} (h : s.slot k = some sl)
    (ht : instant s sl.record = some t) : s.toSlotInstant k instant = s.atInstant t := by
  simp [State.toSlotInstant, h, ht]

theorem State.reached_some (s : State) (t : Nat) : s.reached (some t) = true ↔ t ≤ s.now := by simp [State.reached]

section Deadline

variable (h : s.slot k = some sl) (hb : sl.record.breakTime = some bt)
include h hb

/-- GAP_POINT at a slot with a break time: the gap point is reached, and a GAP slot goes on (R96, R97). -/
theorem exec_gapPoint :
    exec (.gapPoint k) s =
      let t := s.atInstant (bt + msToTicks (s.timing sl.record.conn).gap)
      if sl.stage = .gap then .next (t.goToMake k sl bt).settle else .next t.settle := by
  let t := s.atInstant (bt + msToTicks (s.timing sl.record.conn).gap)
  have there : s.toSlotInstant k State.gapInstant = t := State.toSlotInstant_eq h (by simp [State.gapInstant, hb])
  have slot : t.slot k = some sl := h
  have reached : t.reached (t.gapInstant sl.record) = true := by
    rw [State.gapInstant, hb, Option.map_some, State.reached_some]
    exact Nat.le_max_right _ _
  have run : exec (.gapPoint k) s =
      if sl.stage = .gap then .next (t.enterWaitMake k).settle else .next t.settle := by
    show execGapPoint k s = _
    unfold execGapPoint
    rw [there]
    simp [slot, reached]
  rw [run, State.enterWaitMake_eq slot hb]

/-- ORPHAN_DEADLINE at a waiting slot with a break time: the slot goes to ORPHANED (R87, R101). -/
theorem exec_orphanDeadline (waits : sl.stage = .waitMake ∨ sl.stage = .waitReturn) :
    exec (.orphanDeadline k) s =
      .next ((s.atInstant (bt + msToTicks ((s.timing sl.record.conn).orphan - 300))).enterOrphaned k).settle := by
  let t := s.atInstant (bt + msToTicks ((s.timing sl.record.conn).orphan - 300))
  have there : s.toSlotInstant k State.orphanInstant = t := State.toSlotInstant_eq h (by simp [State.orphanInstant, hb])
  have slot : t.slot k = some sl := h
  have reached : t.reached (t.orphanInstant sl.record) = true := by
    rw [State.orphanInstant, hb, Option.map_some, State.reached_some]
    exact Nat.le_max_right _ _
  show execOrphanDeadline k s = _
  unfold execOrphanDeadline
  rw [there]
  simp [slot, reached, waits, t]

/-- DARK_DEADLINE at an ORPHANED slot: its transfer ends DARK (R101). -/
theorem exec_darkDeadline (orphaned : sl.stage = .orphaned) :
    exec (.darkDeadline k) s =
      .next ((s.atInstant (bt + msToTicks ((s.timing sl.record.conn).orphan + 1000))).endRecord k .dark).settle := by
  let t := s.atInstant (bt + msToTicks ((s.timing sl.record.conn).orphan + 1000))
  have there : s.toSlotInstant k State.darkInstant = t := State.toSlotInstant_eq h (by simp [State.darkInstant, hb])
  have slot : t.slot k = some sl := h
  have reached : t.reached (t.darkInstant sl.record) = true := by
    rw [State.darkInstant, hb, Option.map_some, State.reached_some]
    exact Nat.le_max_right _ _
  show execDarkDeadline k s = _
  unfold execDarkDeadline
  rw [there]
  simp [slot, reached, orphaned, t]

end Deadline

theorem State.atInstant_of_le {t : Nat} (h : t ≤ s.now) : s.atInstant t = s := by
  rw [State.atInstant, Nat.max_eq_left h]

theorem msToTicks_mono {a b : Nat} (h : a ≤ b) : msToTicks a ≤ msToTicks b := Nat.mul_le_mul_right _ h

theorem State.setSlot_slot (h : s.slot k = some sl) : s.setSlot k (some sl) = s := by
  rw [← h]
  simp [State.setSlot, State.slot]

/-- No condition status has the bit of an edge status (R191). -/
theorem conditionBits_edge (s : State) {i : Nat} (edge : conditionMask.getLsbD i = false) :
    s.conditionBits.getLsbD i = false := by
  have kinds : ∀ e ∈ conditionKinds, e.mask.getLsbD i = false := by
    by_cases hi : i < 16
    · exact (by decide : ∀ i : Fin 16, conditionMask.getLsbD i = false → ∀ e ∈ conditionKinds, e.mask.getLsbD i = false)
        ⟨i, hi⟩ edge
    · exact fun e _ => BitVec.getLsbD_of_ge _ _ (by omega)
  simp only [conditionKinds, List.forall_mem_cons] at kinds
  simp [State.conditionBits, apply_ite (fun w : Half => w.getLsbD i), kinds]

/-- An edge status stays as it was when an operation settles (R191). -/
theorem State.settle_edge (s : State) {i : Nat} (hi : i < 16) (edge : conditionMask.getLsbD i = false) :
    s.settle.evu.statuses.getLsbD i = s.evu.statuses.getLsbD i := by
  rw [State.settle_statuses, State.statusesNow, BitVec.getLsbD_or, BitVec.getLsbD_and, BitVec.getLsbD_not, edge,
    conditionBits_edge s edge, decide_eq_true hi]
  simp only [Bool.not_false, Bool.and_true, Bool.or_false]

/-- What a transfer ended DARK leaves once the operation has settled (R14, R81, R101). -/
theorem State.endRecord_dark_settled (h : s.slot k = some sl) (hb : sl.record.breakTime = some bt) :
    let t := (s.endRecord k .dark).settle
    t.slot k = none ∧ (∀ j, j ≠ k → t.slot j = s.slot j) ∧ (t.conn sl.record.conn).dark = true
      ∧ (t.conn sl.record.conn).recordLink = none ∧ (t.conn sl.record.conn).phase = (s.conn sl.record.conn).phase
      ∧ (∀ m, m ≠ sl.record.conn → t.conn m = s.conn m)
      ∧ t.mvq.history.getLast?.map (fun e => (e.seq, e.result, e.breakConfirmed)) = some (sl.record.seq, .dark, true)
      ∧ t.evu.statuses.getLsbD 4 = true ∧ t.mvq.queue = s.mvq.queue ∧ t.mdc = s.mdc ∧ t.esm = s.esm := by
  have conn : ∀ m, (s.endRecord k .dark).settle.conn m = _ := State.endRecord_conn h .dark
  have slots : ∀ j, (s.endRecord k .dark).settle.slot j = _ := State.endRecord_slot h .dark
  have own := (conn sl.record.conn).trans (if_pos rfl)
  refine ⟨(slots k).trans (if_pos rfl), fun j hj => (slots j).trans (if_neg hj), ?_, ?_, ?_,
    fun m hm => (conn m).trans (if_neg hm), ?_, ?_, ?_, ?_, ?_⟩
  · rw [own]; rfl
  · rw [own]; rfl
  · rw [own]; rfl
  · rw [State.settle_mvq, State.endRecord_eq h]
    simp only [getLast?_pushHistory, Option.map_some, historyEntry, hb, Option.isSome_some]
  · rw [State.settle_edge _ (by decide) (by decide), State.endRecord_eq h]
    simp [Result.failed]
  all_goals simp only [State.settle_mvq, State.settle_mdc, State.settle_esm, State.endRecord_eq h]

end Sys2Proof.Machine

open Sys2Proof Sys2Proof.Machine

/-- Settles O49: stage by stage, through what an ending of a record and a return of a slot write. -/
theorem slotDeadlines : Obligations.SlotDeadlines := by
  refine ⟨fun s k sl bt h hb => ⟨fun gap healthy early => ?_, fun gap => ?_, fun other => ?_, fun waits late => ?_,
      fun waits early => ?_⟩,
    fun s k sl bt h hb orphaned => ?_, fun s k sl res h => ⟨_, rfl, ?_⟩⟩
  · rw [exec_gapPoint h hb, if_pos gap, State.goToMake, if_pos]
    exact ⟨healthy, early⟩
  · rw [exec_gapPoint h hb, if_pos gap]
  · rw [exec_gapPoint h hb, if_neg other]
  · have mono := msToTicks_mono (show (s.timing sl.record.conn).orphan - 300 ≤ (s.timing sl.record.conn).orphan + 1000
      by omega)
    rw [exec_orphanDeadline h hb waits, State.atInstant_of_le (by omega), State.enterOrphaned_eq h hb,
      if_neg (by omega), State.setSlot_slot h]
  · rw [exec_orphanDeadline h hb waits, State.enterOrphaned_eq (s := s.atInstant _) h hb, if_pos]
    · rfl
    · exact early
  · exact ⟨_, exec_darkDeadline h hb orphaned, State.endRecord_dark_settled (s := s.atInstant _) h hb⟩
  · have chatter := s.chatterDue_iff sl.record.conn
    refine ⟨?_, fun j hj => ?_, ?_, fun m hm => ?_, ?_, ?_, ?_, ?_⟩
    · rw [State.endRecord_slot h, if_pos rfl]
    · rw [State.endRecord_slot h, if_neg hj]
    · rw [State.endRecord_conn h, if_pos rfl]
      simp only [State.endedConn, chatter]
    · rw [State.endRecord_conn h, if_neg hm]
    all_goals rw [State.endRecord_eq h]
    · rfl
    · simp only [chatter, Result.failed_iff]
end

section
/-! The messages of the modules read back (R121, R190), and a status reply on its record (R5 to R11, R15) and on the slot
that holds the connection's record (R93, R94). -/

namespace Sys2Proof.Machine

open Sys2Proof

/-! ### Messages read back (R190) -/

theorem checkedBody?_withCrc (body : List Byte) : checkedBody? (withCrc body) = some body := by
  have body' : (withCrc body).dropLast.dropLast = body := by
    simp [withCrc, be16, List.dropLast_append_of_ne_nil]
  simp [checkedBody?, body']

theorem toNat_connNumber (n : ConnId) : (BitVec.ofNat 8 (connNumber n)).toNat = connNumber n := by
  revert n; decide

theorem closedOfCode?_closedCode (closed : Option Phase) :
    closedOfCode? (BitVec.ofNat 8 (closedCode closed)).toNat = some closed := by
  rcases closed with _ | _ | _ | _ <;> rfl

theorem load_be16 {load : Int} (low : -32000 ≤ load) (high : load ≤ 32000) :
    clampInt (-32000) 32000 (half ((BitVec.ofInt 16 load).extractLsb' 8 8) ((BitVec.ofInt 16 load).extractLsb' 0 8)).toInt
      = load := by
  rw [half_be16, BitVec.toInt_ofInt_eq_self (by omega) (by omega) (by omega)]
  simp only [clampInt]
  omega

theorem flagsByte_fault (r : StatusReport) : (flagsByte r).getLsbD 0 = r.fault := by
  cases hf : r.fault <;> cases hl : r.localOp <;> simp [flagsByte, hf, hl]

theorem flagsByte_localOp (r : StatusReport) : (flagsByte r).getLsbD 1 = r.localOp := by
  cases hf : r.fault <;> cases hl : r.localOp <;> simp [flagsByte, hf, hl]

theorem statusFields?_bytes {r : StatusReport} (low : -32000 ≤ r.load) (high : r.load ≤ 32000) :
    statusFields? (BitVec.ofNat 8 (closedCode r.closed)) r.counter ((BitVec.ofInt 16 r.load).extractLsb' 8 8)
      ((BitVec.ofInt 16 r.load).extractLsb' 0 8) (flagsByte r) = some r := by
  rw [statusFields?, closedOfCode?_closedCode, load_be16 low high, flagsByte_fault, flagsByte_localOp]
  rfl

/-- A POLL reply is read back as the report it was made from. -/
theorem judgePoll_pollReplyMessage (n : ConnId) {r : StatusReport} (low : -32000 ≤ r.load) (high : r.load ≤ 32000) :
    judgePoll n (pollReplyMessage n r) = some r := by
  rw [judgePoll, pollReplyMessage, checkedBody?_withCrc]
  simp only [u8, statusBytes, i16, be16, List.cons_append, List.nil_append, toNat_connNumber, and_self, if_true,
    statusFields?_bytes low high]

/-- A BREAK or MAKE reply is read back as its outcome, whose reason fits the kind of the actuation (R122, R123). -/
theorem judgeActuation_actuationReplyMessage (n : ConnId) (isBreak : Bool) {o : ActOutcome} (closed : Option Phase)
    (fits : o ∈ (if isBreak then [.accept, .reject .notClosed, .reject .localLockout]
      else [.accept, .reject .notOpen, .reject .phaseDead, .reject .localLockout] : List ActOutcome)) :
    judgeActuation n isBreak (actuationReplyMessage n isBreak o closed) = some o := by
  have outcome : ∃ a b, outcomeBytes o = [a, b] ∧ outcomeOf? isBreak a.toNat b.toNat = some o := by
    cases isBreak <;> simp at fits <;> rcases fits with rfl | rfl | rfl | rfl <;> exact ⟨_, _, rfl, rfl⟩
  obtain ⟨a, b, bytes, judged⟩ := outcome
  rw [judgeActuation, actuationReplyMessage, checkedBody?_withCrc]
  simp only [u8, bytes, List.cons_append, List.nil_append, toNat_connNumber, closedOfCode?_closedCode,
    Option.isSome_some, and_self, if_true, judged]

/-! ### A status reply on its record (R5 to R11, R15) -/

variable {s : State} {n : ConnId} {k : SlotId} {sl : Slot} {r : StatusReport}

theorem State.slotOf_setConn {c : Conn} (h : c.recordLink = (s.conn n).recordLink) (m : ConnId) :
    (s.setConn n c).slotOf m = s.slotOf m := by
  have link : ((s.setConn n c).conn m).recordLink = (s.conn m).recordLink := by
    rw [State.conn_setConn]
    split
    · rename_i e; rw [e, h]
    · rfl
  rw [State.slotOf, link]
  rfl

theorem State.stageOf_setConn {c : Conn} (h : c.recordLink = (s.conn n).recordLink) (m : ConnId) :
    (s.setConn n c).stageOf m = s.stageOf m := by
  rw [State.stageOf, State.slotOf_setConn h]
  rfl

/-- The connection's record stands in a slot mid-transfer (R10, R15). -/
def State.inTransfer (s : State) (n : ConnId) : Bool := ((s.stageOf n).map Stage.midTransfer).getD false

theorem State.inTransfer_iff (s : State) (n : ConnId) :
    s.inTransfer n = true ↔ (s.stageOf n).map Stage.midTransfer = some true := by
  unfold State.inTransfer
  rcases (s.stageOf n).map Stage.midTransfer with _ | _ | _ <;> simp

/-- A reply finds uncommanded changes that bring the record to the chatter limit (R9, R15). -/
def State.replyChatters (s : State) (n : ConnId) (r : StatusReport) : Bool :=
  decide (uncommandedFound (s.conn n) r ≠ 0) && chatterTest s.params { s.conn n with
    uncommanded := min 15 ((s.conn n).uncommanded + uncommandedFound (s.conn n) r) }

theorem State.replyChatters_iff (s : State) (n : ConnId) (r : StatusReport) :
    s.replyChatters n r = true ↔ 0 < uncommandedFound (s.conn n) r
      ∧ s.params.chatterLimit ≤ min 15 ((s.conn n).uncommanded + uncommandedFound (s.conn n) r)
      ∧ s.params.chatterHold = true ∧ (s.conn n).hold = none := by
  simp only [State.replyChatters, chatterTest, Bool.and_eq_true, decide_eq_true_eq, Option.isNone_iff_eq_none,
    Nat.pos_iff_ne_zero, and_assoc]

/-- The record of a present connection after a status reply, steps 1 to 7 of R5. -/
def State.repliedConn (s : State) (n : ConnId) (r : StatusReport) : Conn :=
  { countLoad s.tbs.endDue r.load (recordReply (s.conn n) (s.stageOf n) r) with
    uncommanded := if uncommandedFound (s.conn n) r = 0 then (s.conn n).uncommanded
      else min 15 ((s.conn n).uncommanded + uncommandedFound (s.conn n) r)
    hold := if s.replyChatters n r && !s.inTransfer n then some .chatter else (s.conn n).hold
    chatterPending := if s.replyChatters n r && s.inTransfer n then true else (s.conn n).chatterPending }

theorem State.applyReply_of_absent (absent : (s.conn n).present = false) : s.applyReply n r = s := by
  simp [State.applyReply, absent]

theorem countLoad_keeps (due : Bool) (load : Int) (c : Conn) :
    (countLoad due load c).uncommanded = c.uncommanded ∧ (countLoad due load c).hold = c.hold
      ∧ (countLoad due load c).chatterPending = c.chatterPending ∧ (countLoad due load c).recordLink = c.recordLink := by
  cases due <;> exact ⟨rfl, rfl, rfl, rfl⟩

/-- The chatter test after a reply: a hold at once, or pending while the record is mid-transfer (R15). -/
theorem State.chatterAfterReply_eq (s : State) (n : ConnId) :
    s.chatterAfterReply n =
      (s.setConn n { s.conn n with
        hold := if chatterTest s.params (s.conn n) && !s.inTransfer n then some .chatter else (s.conn n).hold
        chatterPending := if chatterTest s.params (s.conn n) && s.inTransfer n then true
          else (s.conn n).chatterPending }).raised
        (if chatterTest s.params (s.conn n) && !s.inTransfer n then 0x0100 else 0) := by
  unfold State.chatterAfterReply
  rw [← State.inTransfer]
  have same : { s.conn n with hold := (s.conn n).hold, chatterPending := (s.conn n).chatterPending } = s.conn n := rfl
  cases test : chatterTest s.params (s.conn n) <;> cases mid : s.inTransfer n <;>
    simp only [Bool.false_and, Bool.true_and, Bool.not_true, Bool.not_false, Bool.false_eq_true, if_true, if_false,
      State.raised_zero, same, State.setConn_conn, State.setChatterHold, State.raised_chatterHold]

/-- A status reply of a present connection writes its record, and an uncommanded change disturbs the epoch and is raised
(R5, R9, R15). -/
theorem State.applyReply_eq (present : (s.conn n).present = true) :
    s.applyReply n r =
      ({ s.setConn n (s.repliedConn n r) with
        fmu := if uncommandedFound (s.conn n) r = 0 then s.fmu else { s.fmu with disturbed := true } } : State).raised
        ((if uncommandedFound (s.conn n) r = 0 then 0 else 0x0080)
          ||| (if s.replyChatters n r && !s.inTransfer n then 0x0100 else 0)) := by
  obtain ⟨c, hc⟩ : ∃ c, countLoad s.tbs.endDue r.load (recordReply (s.conn n) (s.stageOf n) r) = c := ⟨_, rfl⟩
  obtain ⟨unc, hold, pending, link⟩ := hc ▸ countLoad_keeps s.tbs.endDue r.load (recordReply (s.conn n) (s.stageOf n) r)
  simp only [recordReply] at unc hold pending link
  unfold State.applyReply State.repliedConn State.replyChatters
  simp only [present, if_true, hc]
  by_cases none : uncommandedFound (s.conn n) r = 0
  · have same : { c with
        uncommanded := (s.conn n).uncommanded, hold := (s.conn n).hold,
        chatterPending := (s.conn n).chatterPending } = c := by rw [← unc, ← hold, ← pending]
    simp only [none, ne_eq, not_true_eq_false, decide_false, Bool.false_and, Bool.false_eq_true, if_true, if_false,
      same]
    exact (State.raised_zero _).symm
  · obtain ⟨d, hd⟩ : ∃ d, uncommandedFound (s.conn n) r = d := ⟨_, rfl⟩
    rw [hd] at none
    simp only [hd, none, if_false]
    obtain ⟨e, he⟩ : ∃ e, { c with uncommanded := min 15 (c.uncommanded + d) } = e := ⟨_, rfl⟩
    obtain ⟨v, hv⟩ : ∃ v, (((s.setConn n c).setConn n e).raise .uncommandedChange).disturb = v := ⟨_, rfl⟩
    have reached : ((s.setConn n c).uncommanded n d) = v.chatterAfterReply n := by
      rw [State.uncommanded, State.conn_setConn_same, he, hv]
    have written : v = ({ s.setConn n e with fmu := { s.fmu with disturbed := true } } : State).raised 0x0080 := by
      rw [← hv, State.setConn_setConn]
      rfl
    have conn : v.conn n = e := by
      rw [written]
      exact s.conn_setConn_same n e
    have mid : v.inTransfer n = s.inTransfer n := by
      have stage := s.stageOf_setConn (n := n) (c := e) (by rw [← he, link]) n
      rw [State.inTransfer, State.inTransfer, ← stage, written]
      rfl
    have test : chatterTest v.params e = chatterTest s.params { s.conn n with
        uncommanded := min 15 ((s.conn n).uncommanded + d) } := by
      rw [← he, ← hv]
      simp [chatterTest, hold, unc]
    rw [reached, State.chatterAfterReply_eq, conn, mid, test, written, ← he, hold, pending, unc]
    simp only [none, ne_eq, not_false_eq_true, decide_true, Bool.true_and, State.raised, State.setConn, Vector.set_set,
      BitVec.or_assoc]
    rfl

/-! ### A status reply on the slot that holds the connection's record (R93, R94, R102) -/

/-- An ending other than WRONG_PHASE sets no MAP_FAULT (R102). -/
theorem State.endTransfer_of_ne {res : Result} (h : res ≠ .wrongPhase) : s.endTransfer k res = s.endRecord k res :=
  if_neg h

/-- A stray closed phase ends the transfer REVERTED on the from phase, and WRONG_PHASE with MAP_FAULT on another. -/
theorem State.endTransfer_stray (m : MoveRec) (p : Phase) :
    s.endTransfer k (strayResult m p) =
      if p = m.source then s.endRecord k .reverted else (s.endRecord k .wrongPhase).setMapFault := by
  unfold strayResult
  split <;> rfl

theorem State.clearMisses_eq (h : s.slot k = some sl) :
    s.clearMisses k = s.setSlot k (some { sl with misses := 0 }) := by
  simp [State.clearMisses, State.modSlot, h]

/-- A status reply other than the slot's own verify reply acts by stage (R93, R94). -/
theorem State.statusToSlot_eq (h : s.slot k = some sl) (closed : Option Phase) :
    s.statusToSlot k closed = s.seenBySlot k sl closed := by
  have held : ((s.setSlot k (some { sl with misses := 0 })).conn sl.record.conn).hold.isSome = true
      ↔ (s.conn sl.record.conn).hold ≠ none := Option.isSome_iff_ne_none
  unfold State.statusToSlot State.seenBySlot
  rw [State.clearMisses_eq h]
  simp only [State.slot_setSlot_same]
  cases stage : sl.stage
  case waitBreak =>
    simp only [State.statusAtWaitBreak, State.endTransfer_of_ne (show Result.stale ≠ .wrongPhase by decide),
      State.endTransfer_of_ne (show Result.blocked ≠ .wrongPhase by decide)]
    exact if_congr Iff.rfl rfl (if_congr held rfl rfl)
  case breaking | making | returning => rfl
  all_goals
    cases closed
    · rfl
    · exact State.endTransfer_stray _ _

/-! ### A reply to a survey poll or a probe (R113, R114) -/

/-- A POLL reply within its window, to a survey poll or a probe, is a status reply of its connection. -/
theorem exec_pollReply_status {t : Transaction} (txn : s.sbc.txn = some t)
    (poll : t.purpose = .survey ∨ t.purpose = .probe) (inTime : s.now ≤ s.windowEnd t) (low : -32000 ≤ r.load)
    (high : r.load ≤ 32000) :
    exec (.pollReply { late := false, bytes := pollReplyMessage t.conn r }) s
      = .next ((s.setTxn none).statusTaken t.conn r).settle := by
  have taken : s.takeMessage { late := false, bytes := pollReplyMessage t.conn r }
      = (s.setTxn none).statusTaken t.conn r := by
    simp only [State.takeMessage, State.takeReply, txn, inTime, Bool.false_eq_true, if_true, if_false]
    rcases poll with p | p <;> simp only [p, judgePoll_pollReplyMessage _ low high]
  exact settled_congr taken

theorem State.applyReply_slot (s : State) (n : ConnId) (r : StatusReport) (k : SlotId) :
    (s.applyReply n r).slot k = s.slot k := by
  simp [State.slot]

theorem State.repliedConn_recordLink (s : State) (n : ConnId) (r : StatusReport) :
    (s.repliedConn n r).recordLink = (s.conn n).recordLink :=
  (countLoad_keeps _ _ _).2.2.2

/-- A status reply moves no record into a slot or out of one. -/
theorem State.applyReply_slotOf (s : State) (n m : ConnId) (r : StatusReport) :
    (s.applyReply n r).slotOf m = s.slotOf m := by
  cases present : (s.conn n).present
  · rw [State.applyReply_of_absent present]
  · rw [State.applyReply_eq present]
    exact State.slotOf_setConn (s.repliedConn_recordLink n r) m

end Sys2Proof.Machine

open Sys2Proof Sys2Proof.Machine

/-- Settles O39: the record's seven steps first, then what the slot's stage makes of the reply. -/
theorem surveyReplyApplied : Obligations.SurveyReplyApplied := by
  refine ⟨fun s n p u r poll txn inTime out low high => ?_, fun s n p u r k sl poll txn inTime own slot low high => ?_,
    fun s n r present => ⟨_, rfl, ?_⟩, fun s n r absent => State.applyReply_of_absent absent⟩
  · rw [exec_pollReply_status txn poll inTime low high, State.statusTaken, State.applyReply_slotOf,
      show (s.setTxn none).slotOf n = none from out]
  · rw [exec_pollReply_status txn poll inTime low high, State.statusTaken, State.applyReply_slotOf,
      show (s.setTxn none).slotOf n = some k from own]
    exact settled_congr (State.statusToSlot_eq (by rw [State.applyReply_slot]; exact slot) _)
  · have chatters := s.replyChatters_iff n r
    have mid := s.inTransfer_iff n
    refine ⟨?_, ?_, ?_, ?_, ?_⟩
    all_goals rw [State.applyReply_eq present]
    · refine (s.conn_setConn_same n _).trans ?_
      have dark : ((s.stageOf n).map Stage.midTransfer).getD false = true ↔ _ := mid
      simp only [State.repliedConn, recordReply, countLoad, darkAfter, pendingAfter, Bool.and_eq_true,
        Bool.not_eq_true', ← Bool.not_eq_true, chatters, mid, dark]
      cases s.tbs.endDue <;> cases r.closed <;> cases (s.conn n).pendingAct <;> rfl
    · exact fun m hm => s.conn_setConn_ne _ hm
    · rfl
    · simp only [State.raised, Bool.and_eq_true, Bool.not_eq_true', ← Bool.not_eq_true, chatters, mid, BitVec.or_assoc]
      rfl
    · rfl
end

section
/-! The miss of a transaction, by its purpose (R8, R12, R92, R113, R118), and messages that come past their window. -/

namespace Sys2Proof.Machine

open Sys2Proof

variable {s : State} {n : ConnId} {u : Nat} {k : SlotId} {sl : Slot}

/-! ### A missed survey poll or probe (R12, R120) -/

/-- The third miss in a row of a connection that is not OFFLINE makes it so. -/
theorem State.pollMissed_offline (present : (s.conn n).present = true) (link : (s.conn n).link ≠ .offline)
    (third : 2 ≤ (s.conn n).missedRun) :
    s.pollMissed n = { s.setConn n { s.conn n with missedRun := 3, link := .offline } with
      sbc := { s.sbc with lastProbe := s.sbc.lastProbe.set n (some s.sbc.frame) } } := by
  have run : min 3 ((s.conn n).missedRun + 1) = 3 := by omega
  simp only [State.pollMissed, present, if_true, run, true_and, link, ne_eq, not_false_eq_true]
  rfl

/-- Any other miss of a present connection is counted. -/
theorem State.pollMissed_counted (present : (s.conn n).present = true)
    (h : (s.conn n).link = .offline ∨ (s.conn n).missedRun < 2) :
    s.pollMissed n = s.setConn n { s.conn n with missedRun := min 3 ((s.conn n).missedRun + 1) } := by
  have goes : ¬ (min 3 ((s.conn n).missedRun + 1) = 3 ∧ (s.conn n).link ≠ .offline) := by
    rintro ⟨run, link⟩
    rcases h with off | early
    · exact link off
    · omega
  simp only [State.pollMissed, present, if_true, if_neg goes]

theorem State.pollMissed_absent (absent : (s.conn n).present = false) : s.pollMissed n = s := by
  simp [State.pollMissed, absent]

/-! ### What the miss comes to, by purpose (R113, R114) -/

theorem State.owned_self (h : s.slot k = some sl) : s.owned k sl.order = true := by simp [State.owned, h]

theorem State.missTransaction_poll {p : Purpose} (poll : p = .survey ∨ p = .probe)
    (h : s.sbc.txn = some { conn := n, purpose := p, lastUnit := u }) :
    s.missTransaction = (s.setTxn none).pollMissed n := by
  rcases poll with rfl | rfl <;> simp only [State.missTransaction, h]

theorem State.missTransaction_verify (h : s.sbc.txn = some { conn := n, purpose := .verify k sl.order, lastUnit := u })
    (slot : s.slot k = some sl) : s.missTransaction = (s.setTxn none).verifyMissed k := by
  simp only [State.missTransaction, h, State.owned_self (s := s.setTxn none) slot, if_true]

theorem State.missTransaction_actuation {owner : Nat} {kind : ActKind} {b i : Confirmed}
    (h : s.sbc.txn = some { conn := n, purpose := .actuation k owner kind b i, lastUnit := u }) :
    s.missTransaction = (s.setTxn none).actuationOutcome n k owner kind b i .missed := by
  simp only [State.missTransaction, h]

theorem State.missTransaction_query (h : s.sbc.txn = some { conn := n, purpose := .passThrough, lastUnit := u }) :
    s.missTransaction = (s.setTxn none).finishQuery n [0x0F] := by
  simp only [State.missTransaction, h]
  rfl

/-! ### The verify poll of an actuation, and its miss (R92) -/

/-- An actuation of a frame makes the verify poll fall due after the class settle frames. -/
theorem State.setVerifyDue_eq (h : s.slot k = some sl) (frame : Word) :
    s.setVerifyDue k frame = s.setSlot k
      (some { sl with verifyDue := some (frame + BitVec.ofNat 32 (s.timing sl.record.conn).settle) }) := by
  simp only [State.setVerifyDue, State.modSlot, h]

theorem State.verifyMissed_early (h : s.slot k = some sl) (early : sl.misses < 2) :
    s.verifyMissed k = s.setSlot k
      (some { sl with misses := sl.misses + 1, verifyDue := some (s.sbc.frame + 1) }) := by
  simp only [State.verifyMissed, h, show ¬ 3 ≤ sl.misses + 1 by omega, if_false]

theorem State.verifyMissed_third (h : s.slot k = some sl) (third : 2 ≤ sl.misses) :
    s.verifyMissed k = s.endRecord k .noReply := by
  simp only [State.verifyMissed, h, show 3 ≤ sl.misses + 1 by omega, if_true]
  exact State.endTransfer_of_ne (by decide)

/-- The outcome of an actuation whose slot still holds its transfer: the Connection Table, the slot, the store (R114). -/
theorem State.actuationOutcome_owned (h : s.slot k = some sl) (kind : ActKind) (b i : Confirmed) (o : ActOutcome) :
    s.actuationOutcome n k sl.order kind b i o =
      let t := (s.ctbOutcome n b i o).slotOutcome k kind s.sbc.frame o
      t.storeOutcome n t.sbc.frame o := by
  have slot : (s.ctbOutcome n b i o).slot k = some sl := by simpa [State.slot] using h
  have frame : (s.ctbOutcome n b i o).sbc.frame = s.sbc.frame := by simp
  simp only [State.actuationOutcome, State.owned_self slot, if_true, frame]

/-- An ACCEPT and a missed reply leave the decision to the verify poll (R91). -/
theorem State.slotOutcome_polled (h : s.slot k = some sl) (kind : ActKind) (frame : Word) {o : ActOutcome}
    (drawn : o = .accept ∨ o = .missed) : s.slotOutcome k kind frame o = s.setVerifyDue k frame := by
  rcases drawn with rfl | rfl <;> simp only [State.slotOutcome, h]

/-- Only a REJECT gives the store its charge back (R139). -/
theorem State.storeOutcome_drawn (s : State) (frame : Word) {o : ActOutcome} (drawn : o = .accept ∨ o = .missed) :
    s.storeOutcome n frame o = s := by
  rcases drawn with rfl | rfl <;> simp [State.storeOutcome]

/-- An actuation that was accepted or not answered: the record as the Connection Table leaves it, the verify poll due
after the settle frames of its class (R7, R8, R91, R92). -/
theorem State.actuationOutcome_drawn (h : s.slot k = some sl) (conn : sl.record.conn = n) (kind : ActKind)
    (b i : Confirmed) {o : ActOutcome} (drawn : o = .accept ∨ o = .missed) {c : Conn}
    (ctb : s.ctbOutcome n b i o = s.setConn n c) (timing : c.timing = (s.conn n).timing) :
    s.actuationOutcome n k sl.order kind b i o = (s.setConn n c).setSlot k
      (some { sl with verifyDue := some (s.sbc.frame + BitVec.ofNat 32 (s.timing n).settle) }) := by
  have slot : (s.setConn n c).slot k = some sl := h
  have cls : (s.setConn n c).timing n = s.timing n := by
    simp only [State.timing, State.conn_setConn_same, timing]
    rfl
  rw [State.actuationOutcome_owned h, ctb, State.storeOutcome_drawn _ _ drawn, State.slotOutcome_polled slot _ _ drawn,
    State.setVerifyDue_eq slot, conn, cls]

/-! ### A missed query (R118) -/

/-- The query on the bus, alone in the list, leaves it, and its link is answered unless RESTART has answered it. -/
theorem State.finishQuery_alone {q : Query} (list : s.sbc.queries = [q]) (conn : q.conn = n) (bus : q.onBus = true)
    (reply : List Byte) :
    s.finishQuery n reply =
      if q.answered then { s with sbc := { s.sbc with queries := [] } }
      else ({ s with sbc := { s.sbc with queries := [] } } : State).setReply q.link reply := by
  have serves : q.serves n = true := by simp [Query.serves, bus, conn]
  simp [State.finishQuery, list, serves]

/-- A reply set at a port that awaits it. -/
theorem State.setReply_awaiting {lk : Link} {cmd tag : Byte} (h : (s.port lk).answer = .answering cmd tag none)
    (reply : List Byte) :
    s.setReply lk reply = s.setPort lk { s.port lk with answer := .answering cmd tag (some reply) } := by
  simp [State.setReply, Port.answered, h]

end Sys2Proof.Machine

open Sys2Proof Sys2Proof.Machine

/-- Settles O43: purpose by purpose of the missed transaction. -/
theorem missedTransactionHandedOn : Obligations.MissedTransactionHandedOn := by
  refine ⟨fun s n u => ⟨fun p poll txn => ⟨fun present link early => ?_, fun present link third => ?_,
      fun present link => ?_, fun absent => ?_⟩, fun k sl kind b i txn slot conn => ?_,
      fun k sl txn slot => ⟨fun early => ?_, fun third => ?_⟩,
      fun q cmd tag txn list conn bus => ⟨fun waits port => ?_, fun answered => ?_⟩⟩,
    fun s bytes row hrow => ⟨?_, fun x txn past => ?_⟩⟩
  · refine settled_congr ((State.missTransaction_poll poll txn).trans ?_)
    refine (State.pollMissed_counted (s := s.setTxn none) present (.inr early)).trans ?_
    rw [show min 3 (((s.setTxn none).conn n).missedRun + 1) = (s.conn n).missedRun + 1 from by
      show min 3 ((s.conn n).missedRun + 1) = _; omega]
    rfl
  · exact settled_congr ((State.missTransaction_poll poll txn).trans
      (State.pollMissed_offline (s := s.setTxn none) present link third))
  · exact settled_congr ((State.missTransaction_poll poll txn).trans
      (State.pollMissed_counted (s := s.setTxn none) present (.inl link)))
  · exact settled_congr ((State.missTransaction_poll poll txn).trans
      (State.pollMissed_absent (s := s.setTxn none) absent))
  · exact settled_congr ((State.missTransaction_actuation txn).trans
      (State.actuationOutcome_drawn (s := s.setTxn none) slot conn kind b i (.inr rfl) rfl rfl))
  · exact settled_congr ((State.missTransaction_verify txn slot).trans
      (State.verifyMissed_early (s := s.setTxn none) slot early))
  · exact settled_congr ((State.missTransaction_verify txn slot).trans
      (State.verifyMissed_third (s := s.setTxn none) slot third))
  · refine settled_congr ((State.missTransaction_query txn).trans ?_)
    rw [State.finishQuery_alone (s := s.setTxn none) list conn bus, waits, if_neg (by decide)]
    exact State.setReply_awaiting (s := { s with sbc := { s.sbc with txn := none, queries := [] } }) port _
  · refine settled_congr ((State.missTransaction_query txn).trans ?_)
    rw [State.finishQuery_alone (s := s.setTxn none) list conn bus, answered, if_pos rfl]
    rfl
  · simp only [List.mem_cons, List.not_mem_nil, or_false] at hrow
    rcases hrow with rfl | rfl | rfl <;> rfl
  · have missed : s.takeMessage { late := false, bytes := bytes } = s.missTransaction := by
      have outside : ¬ s.now ≤ s.windowEnd x := Nat.not_le.mpr past
      simp only [State.takeMessage, txn, outside, Bool.false_eq_true, if_false]
    simp only [List.mem_cons, List.not_mem_nil, or_false] at hrow
    rcases hrow with rfl | rfl | rfl <;> exact settled_congr missed
end

section
/-! What acts on one slot leaves the other slots and the queue as they were, and the halt treatment of the slots (R104)
with the flush of the queue (R76): what a masked MAP_FAULT does (R102, R153, R155, R171). -/

namespace Sys2Proof.Machine

open Sys2Proof

variable {s t : State} {k : SlotId} {sl : Slot} {bt : Nat}

/-! ### Operations on one slot -/

/-- A state t differs from s in no slot but k, and the queue and the frame counter are those of s. -/
structure State.OnlySlot (k : SlotId) (s t : State) : Prop where
  others : ∀ j, j ≠ k → t.slot j = s.slot j
  queue : t.mvq.queue = s.mvq.queue
  frame : t.sbc.frame = s.sbc.frame

namespace State.OnlySlot

theorem refl : OnlySlot k s s := ⟨fun _ _ => rfl, rfl, rfl⟩

theorem setSlot (h : OnlySlot k s t) {x : Option Slot} : OnlySlot k s (t.setSlot k x) :=
  ⟨fun j hj => (t.slot_setSlot_ne x hj).trans (h.others j hj), h.queue, h.frame⟩

theorem modSlot (h : OnlySlot k s t) {f : Slot → Slot} : OnlySlot k s (t.modSlot k f) := by
  unfold State.modSlot
  split
  · exact h.setSlot
  · exact h

theorem endRecord (h : OnlySlot k s t) {res : Result} : OnlySlot k s (t.endRecord k res) := by
  cases slot : t.slot k with
  | none => simpa [State.endRecord, slot] using h
  | some sl =>
    refine ⟨fun j hj => ?_, ?_, ?_⟩
    · rw [State.endRecord_slot slot, if_neg hj, h.others j hj]
    · rw [State.endRecord_eq slot]
      exact h.queue
    · rw [State.endRecord_eq slot]
      exact h.frame

theorem enterOrphaned (h : OnlySlot k s t) : OnlySlot k s (t.enterOrphaned k) := by
  unfold State.enterOrphaned
  split
  · dsimp only
    split
    · exact h.setSlot.endRecord
    · exact h.setSlot
  · exact h

theorem holdWaitReturn (h : OnlySlot k s t) : OnlySlot k s (t.holdWaitReturn k) := by
  unfold State.holdWaitReturn
  repeat' split
  · exact h.enterOrphaned
  · exact h
  · exact h

theorem enterWaitReturn (h : OnlySlot k s t) : OnlySlot k s (t.enterWaitReturn k) := h.modSlot.holdWaitReturn

theorem enterWaitMake (h : OnlySlot k s t) : OnlySlot k s (t.enterWaitMake k) := by
  unfold State.enterWaitMake
  split
  · dsimp only
    repeat' split
    · exact h.setSlot.enterWaitReturn
    · exact h.setSlot.enterOrphaned
    · exact h.setSlot
  · exact h

theorem treatSlot (h : OnlySlot k s t) : OnlySlot k s (t.treatSlot k) := by
  unfold State.treatSlot
  split
  · exact h.endRecord
  · exact h.modSlot
  · exact h.modSlot
  · exact h.enterWaitReturn
  · exact h.enterWaitReturn
  all_goals exact h

end State.OnlySlot

/-! ### The halt treatment (R104) -/

theorem State.slotStage_of_some (h : s.slot k = some sl) : s.slotStage k = some sl.stage := by
  simp [State.slotStage, h]

theorem State.slotStage_of_none (h : s.slot k = none) : s.slotStage k = none := by simp [State.slotStage, h]

/-- A slot that goes to ORPHANED is there, or its transfer has ended. -/
theorem State.enterOrphaned_stage (h : s.slot k = some sl) :
    (s.enterOrphaned k).slotStage k = none ∨ (s.enterOrphaned k).slotStage k = some .orphaned := by
  obtain ⟨x, hx⟩ : ∃ x : Slot, { sl with stage := .orphaned, verifyDue := some (s.sbc.frame + 1) } = x := ⟨_, rfl⟩
  have slot : (s.setSlot k (some x)).slot k = some x := s.slot_setSlot_same k _
  unfold State.enterOrphaned
  rw [h]
  simp only [hx]
  split
  · refine .inl (State.slotStage_of_none ?_)
    rw [State.endRecord_slot slot, if_pos rfl]
  · refine .inr (State.slotStage_of_some slot |>.trans ?_)
    rw [← hx]

/-- A slot turned back stands at WAIT_RETURN or ORPHANED, or its transfer has ended. -/
theorem State.enterWaitReturn_stage (h : s.slot k = some sl) :
    (s.enterWaitReturn k).slotStage k ∈ [none, some .waitReturn, some .orphaned] := by
  obtain ⟨x, hx⟩ : ∃ x : Slot, { sl with stage := .waitReturn, verifyDue := none } = x := ⟨_, rfl⟩
  have slot : (s.setSlot k (some x)).slot k = some x := s.slot_setSlot_same k _
  have entered : s.enterWaitReturn k = (s.setSlot k (some x)).holdWaitReturn k := by
    simp only [State.enterWaitReturn, State.modSlot, h, hx]
  rw [entered]
  unfold State.holdWaitReturn
  simp only [slot]
  split
  · rcases State.enterOrphaned_stage slot with e | e <;> simp [e]
  · simp [State.slotStage_of_some slot, show x.stage = .waitReturn from hx ▸ rfl]

/-- The halt treatment leaves a slot at no stage at which new work waits (R104). -/
theorem State.treatSlot_stage (s : State) (k : SlotId) : (s.treatSlot k).slotStage k ≠ some .waitBreak := by
  cases slot : s.slot k with
  | none => simp [State.treatSlot, State.slotStage, slot]
  | some sl =>
    have turned := State.enterWaitReturn_stage slot
    unfold State.treatSlot
    rw [State.slotStage_of_some slot]
    cases stage : sl.stage
    case waitBreak =>
      have ended : (s.endRecord k .halted).slot k = none := by rw [State.endRecord_slot slot, if_pos rfl]
      simp [State.slotStage_of_none ended]
    case breaking | making => simp [State.requestCancel, State.modSlot, slot, State.slotStage, stage]
    case gap | waitMake =>
      intro waits
      simp [waits] at turned
    case waitReturn | returning | orphaned => simp [State.slotStage_of_some slot, stage]

theorem State.treatSlot_keeps_stage {j : SlotId} {p : Option Stage → Prop} (h : p (s.slotStage j)) (hj : j ≠ k) :
    p ((s.treatSlot k).slotStage j) := by
  rw [State.slotStage, State.OnlySlot.refl.treatSlot.others j hj]
  exact h

/-- After the halt treatment no slot stands at WAIT_BREAK, and the queue is as it was (R104). -/
theorem State.haltTreatment_stage (s : State) :
    (∀ k, s.haltTreatment.slotStage k ≠ some .waitBreak) ∧ s.haltTreatment.mvq.queue = s.mvq.queue := by
  have treated : ∀ (ks : List SlotId) (s : State),
      (∀ k, k ∈ ks ∨ s.slotStage k ≠ some .waitBreak →
        (ks.foldl State.treatSlot s).slotStage k ≠ some .waitBreak)
      ∧ (ks.foldl State.treatSlot s).mvq.queue = s.mvq.queue := by
    intro ks
    induction ks with
    | nil => exact fun s => ⟨fun k h => h.resolve_left (by simp), rfl⟩
    | cons j js ih =>
      intro s
      obtain ⟨stages, queue⟩ := ih (s.treatSlot j)
      refine ⟨fun k h => stages k ?_, queue.trans State.OnlySlot.refl.treatSlot.queue⟩
      by_cases e : k = j
      · exact .inr (e ▸ s.treatSlot_stage j)
      · rcases h with h | h
        · exact .inl ((List.mem_cons.mp h).resolve_left e)
        · exact .inr (State.treatSlot_keeps_stage (p := (· ≠ some .waitBreak)) h e)
  exact ⟨fun k => (treated allSlots s).1 k (.inl (by revert k; decide)), (treated allSlots s).2⟩

/-! ### Queued records that end, one after another (R75, R76, R81, R85) -/

/-- A record with its link cleared (R81). -/
def Conn.unlinked (c : Conn) : Conn := { c with recordLink := none }

/-- Records' links cleared, one after another (R81). -/
def unlinkConns (cs : Vector Conn 96) (rs : List MoveRec) : Vector Conn 96 :=
  rs.foldl (fun cs r => cs.set r.conn cs[r.conn].unlinked) cs

theorem getElem_unlinkConns (rs : List MoveRec) (cs : Vector Conn 96) (n : ConnId) :
    (unlinkConns cs rs)[n] = if ∃ r ∈ rs, r.conn = n then cs[n].unlinked else cs[n] := by
  induction rs generalizing cs with
  | nil => simp [unlinkConns]
  | cons r rs ih =>
    have step : unlinkConns cs (r :: rs) = unlinkConns (cs.set r.conn cs[r.conn].unlinked) rs := rfl
    have twice : ∀ c : Conn, c.unlinked.unlinked = c.unlinked := fun _ => rfl
    rw [step, ih]
    by_cases own : r.conn = n
    · subst own
      simp [twice]
    · have other : (cs.set r.conn cs[r.conn].unlinked)[n] = cs[n] :=
        Vector.getElem_set_ne _ _ fun e => own (Fin.ext e)
      rw [other]
      simp [own]

/-- A queued record that ends with a result that raises nothing: it leaves the queue, its link is cleared, its entry is
written (R81, R82). -/
theorem State.endQueued_eq (s : State) (r : MoveRec) {res : Result} (quiet : res.failed = false) :
    s.endQueued r res = { s with
      conns := unlinkConns s.conns [r]
      mvq := { s.mvq with
        queue := s.mvq.queue.filter fun x => x.order != r.order
        history := pushHistory s.mvq.history (historyEntry r res s.tbs.epoch s.tbs.timeOfDay) } } := by
  rw [State.endQueued, State.finishRecord_eq, quiet]
  simp [State.raised]
  rfl

/-- Several queued records end so, in order. -/
theorem State.endQueued_foldl (rs : List MoveRec) (s : State) {res : Result} (quiet : res.failed = false) :
    rs.foldl (fun s r => s.endQueued r res) s = { s with
      conns := unlinkConns s.conns rs
      mvq := { s.mvq with
        queue := s.mvq.queue.filter fun x => rs.all fun r => x.order != r.order
        history := s.endedHistory (rs.map fun r => (r, res)) } } := by
  induction rs generalizing s with
  | nil => simp [unlinkConns, State.endedHistory]
  | cons r rs ih =>
    rw [List.foldl_cons, ih, State.endQueued_eq s r quiet]
    simp only [List.filter_filter, List.all_cons, Bool.and_comm]
    rfl

theorem State.endAllQueued_eq (s : State) {res : Result} (quiet : res.failed = false) :
    s.endAllQueued res = { s with
      conns := unlinkConns s.conns s.mvq.queue
      mvq := { s.mvq with queue := [], history := s.endedHistory (s.mvq.queue.map fun r => (r, res)) } } := by
  have emptied : (s.mvq.queue.filter fun x => s.mvq.queue.all fun r => x.order != r.order) = [] := by
    rw [List.filter_eq_nil_iff]
    intro x hx all
    simpa using List.all_eq_true.mp all x hx
  rw [State.endAllQueued, State.endQueued_foldl _ _ quiet, emptied]

/-! ### MAP_FAULT (R102, R153, R155, R171) -/

/-- The flush and the halt treatment leave the queue empty and no slot at WAIT_BREAK (R76, R104). -/
theorem State.flushAndTreat_spec (s : State) :
    s.flushAndTreat.mvq.queue = [] ∧ (∀ k, s.flushAndTreat.slotStage k ≠ some .waitBreak)
      ∧ s.flushAndTreat.mdc = s.mdc ∧ s.flushAndTreat.ilu = s.ilu := by
  obtain ⟨stages, queue⟩ := (s.endAllQueued .halted).haltTreatment_stage
  refine ⟨queue.trans ?_, stages, by simp, by simp⟩
  rw [State.endAllQueued_eq s rfl]

/-- A source with no entry in the halt record gets one; with or without it, the source stands there afterwards. -/
theorem State.enterHalt_mem (s : State) (h : HaltSource) : ∃ e ∈ (s.enterHalt h).ilu.haltRecord, e.source = h := by
  unfold State.enterHalt
  split
  · rename_i known
    obtain ⟨e, mem, source⟩ := List.any_eq_true.mp known
    exact ⟨e, mem, by simpa using source⟩
  · exact ⟨_, List.mem_append_right _ (List.mem_singleton_self _), rfl⟩

theorem State.enterHalt_keeps (s : State) (h : HaltSource) :
    (s.enterHalt h).ilu.mapFault = s.ilu.mapFault ∧ (s.enterHalt h).mdc = s.mdc := by
  unfold State.enterHalt
  split <;> exact ⟨rfl, rfl⟩

/-- A halt event leaves the interlock unit as it is; from MANUAL or AUTO it stops the part (R171). -/
theorem State.haltMode_spec (s : State) :
    s.haltMode.ilu = s.ilu ∧ (s.modeName = .manual ∨ s.modeName = .auto →
      s.haltMode.mdc.mode = .base .halted ∧ s.haltMode.mvq.queue = [] ∧ ∀ k, s.haltMode.slotStage k ≠ some .waitBreak) := by
  obtain ⟨queue, stages, mdc, _⟩ := (s.setMode (.base .halted)).flushAndTreat_spec
  refine ⟨by simp, fun mode => ?_⟩
  have stopped : s.haltMode = (s.setMode (.base .halted)).flushAndTreat := by
    unfold State.haltMode
    rcases hm : s.mdc.mode with (_ | _ | _ | _) | _ <;>
      simp [State.modeName, Mode.name, BaseMode.name, hm] at mode ⊢
  rw [stopped]
  exact ⟨by rw [mdc]; rfl, queue, stages⟩

end Sys2Proof.Machine
end

section
/-! The outcome of an actuation whose slot holds its transfer (R91, R114, R139), and the verify reply that decides its
stage (R92, R95, R98, R100, R101). -/

namespace Sys2Proof.Machine

open Sys2Proof

variable {s : State} {n : ConnId} {k : SlotId} {sl : Slot} {bt : Nat}

/-! ### Waiting stages entered from another stage -/

/-- Turning back depends on no slot but the one given, and not on its stage or its verify poll. -/
theorem State.turnBack_setSlot (z : Option Slot) (stage : Stage) (due : Option Word) :
    (s.setSlot k z).turnBack k { sl with stage := stage, verifyDue := due } bt = s.turnBack k sl bt := by
  unfold State.turnBack
  simp only [State.setSlot_setSlot]
  exact if_congr Iff.rfl rfl (if_congr Iff.rfl rfl (State.endRecord_setSlot _ _ _ _ _ rfl))

theorem State.goToMake_setSlot (z : Option Slot) (stage : Stage) (due : Option Word) :
    (s.setSlot k z).goToMake k { sl with stage := stage, verifyDue := due } bt = s.goToMake k sl bt := by
  unfold State.goToMake
  rw [State.turnBack_setSlot]
  simp only [State.setSlot_setSlot]
  exact if_congr Iff.rfl rfl rfl

/-! ### The verify decision, by stage -/

/-- The break is confirmed at the frame end of the slot's last actuation (R95). -/
theorem State.confirmBreak_eq {a : LastAct} {fe : Nat} (h : s.slot k = some sl) (act : sl.lastAct = some a)
    (ended : a.frameEnd = some fe) :
    s.confirmBreak k = s.setSlot k (some { sl with record := { sl.record with breakTime := some fe } }) := by
  simp [State.confirmBreak, State.modSlot, h, act, ended]

/-- GAP with a confirmed break: kept while the gap point lies ahead, else on to WAIT_MAKE in the same operation (R96). -/
theorem State.enterGap_eq (h : s.slot k = some sl) (hb : sl.record.breakTime = some bt) :
    s.enterGap k = if s.now < bt + msToTicks (s.timing sl.record.conn).gap then
        s.setSlot k (some { sl with stage := .gap, verifyDue := none })
      else s.goToMake k sl bt := by
  obtain ⟨x, hx⟩ : ∃ x : Slot, { sl with stage := .gap, verifyDue := none } = x := ⟨_, rfl⟩
  have slot : (s.setSlot k (some x)).slot k = some x := s.slot_setSlot_same k _
  have record : x.record = sl.record := hx ▸ rfl
  have entered : s.enterGap k =
      if (s.setSlot k (some x)).reached ((s.setSlot k (some x)).gapInstant x.record) then
        (s.setSlot k (some x)).enterWaitMake k
      else s.setSlot k (some x) := by
    simp only [State.enterGap, State.modSlot, h, hx, slot]
  have point : (s.setSlot k (some x)).gapInstant x.record = some (bt + msToTicks (s.timing sl.record.conn).gap) := by
    rw [State.gapInstant, record, hb]
    rfl
  rw [entered, point, State.enterWaitMake_eq slot (record ▸ hb), ← hx, State.goToMake_setSlot]
  by_cases early : s.now < bt + msToTicks (s.timing sl.record.conn).gap
  · rw [if_pos early, if_neg]
    rw [State.reached_some]
    exact Nat.not_le.mpr early
  · rw [if_neg early, if_pos]
    rw [State.reached_some]
    exact Nat.not_lt.mp early

/-- A slot whose break did not open goes back to WAIT_BREAK, unless a chatter hold is pending or the part rides through
(R94, R95, R105). -/
theorem State.backToWaitBreak_eq (h : s.slot k = some sl) :
    s.backToWaitBreak k = if (s.conn sl.record.conn).chatterPending then s.endRecord k .blocked
      else if s.modeName = .rideThrough then s.handBack k
      else s.setSlot k (some { sl with stage := .waitBreak, verifyDue := none }) := by
  simp only [State.backToWaitBreak, h]

section Decision

variable (h : s.slot k = some sl)
include h

/-- BREAKING: an open module confirms the break (R95). -/
theorem State.verifyBreaking_open {a : LastAct} {fe : Nat} (act : sl.lastAct = some a) (ended : a.frameEnd = some fe) :
    s.verifyBreaking k sl none =
      let opened := { sl with record := { sl.record with breakTime := some fe } }
      if sl.record.cancel then s.turnBack k opened fe
      else if s.now < fe + msToTicks (s.timing sl.record.conn).gap then
        s.setSlot k (some { opened with stage := .gap, verifyDue := none })
      else s.goToMake k opened fe := by
  obtain ⟨x, hx⟩ : ∃ x : Slot, { sl with record := { sl.record with breakTime := some fe } } = x := ⟨_, rfl⟩
  have slot : (s.setSlot k (some x)).slot k = some x := s.slot_setSlot_same k _
  have time : x.record.breakTime = some fe := hx ▸ rfl
  have record : x.record.conn = sl.record.conn := hx ▸ rfl
  have confirmed : s.confirmBreak k = s.setSlot k (some x) := hx ▸ State.confirmBreak_eq h act ended
  have back : (s.setSlot k (some x)).turnBack k x fe = s.turnBack k x fe := State.turnBack_setSlot ..
  have make : (s.setSlot k (some x)).goToMake k x fe = s.goToMake k x fe := State.goToMake_setSlot ..
  simp only [State.verifyBreaking, confirmed, hx]
  rw [State.enterWaitReturn_eq slot time, State.enterGap_eq slot time, back, make, State.setSlot_setSlot, record]
  subst hx
  rfl

/-- MAKING: still open (R98). -/
theorem State.verifyMaking_open (hb : sl.record.breakTime = some bt) :
    s.verifyMaking k sl none =
      if sl.record.makes < 3 ∧ sl.record.cancel = false then s.goToMake k sl bt else s.turnBack k sl bt := by
  simp only [State.verifyMaking, State.enterWaitMake_eq h hb, State.enterWaitReturn_eq h hb]

/-- RETURNING: still open (R100). -/
theorem State.verifyReturning_open (hb : sl.record.breakTime = some bt) :
    s.verifyReturning k sl none = if sl.record.returns < 3 then s.turnBack k sl bt else s.endRecord k .dark := by
  simp only [State.verifyReturning, State.enterWaitReturn_eq h hb]
  rfl

end Decision

/-- BREAKING: still closed on the from phase (R95). -/
theorem State.verifyBreaking_source :
    s.verifyBreaking k sl (some sl.record.source) =
      if sl.record.cancel then s.endRecord k .cancelled
      else if sl.record.breaks < 3 then s.backToWaitBreak k
      else s.endRecord k .notOpened := by
  simp only [State.verifyBreaking, if_true]
  rfl

/-- MAKING: closed on a phase (R98). -/
theorem State.verifyMaking_closed (p : Phase) :
    s.verifyMaking k sl (some p) =
      if p = sl.record.target then s.endRecord k .done
      else if p = sl.record.source then s.endRecord k .reverted
      else (s.endRecord k .wrongPhase).setMapFault := by
  simp only [State.verifyMaking, State.endTransfer_stray]
  rfl

/-- RETURNING: closed on a phase, judged against the phase the last actuation named (R100). -/
theorem State.verifyReturning_closed {q : Phase} (named : sl.lastAct.bind (·.named) = some q) (p : Phase) :
    s.verifyReturning k sl (some p) =
      if q = p then s.endRecord k .returned
      else if p = sl.record.source then s.endRecord k .reverted
      else (s.endRecord k .wrongPhase).setMapFault := by
  simp only [State.verifyReturning, named, Option.some.injEq, State.endTransfer_stray]
  rfl

/-! ### The verify reply taken (R92, R114) -/

section Decide

variable (h : s.slot k = some sl) (closed : Option Phase)
include h

theorem State.verifyDecision_breaking (stage : sl.stage = .breaking) :
    s.verifyDecision k closed =
      (s.setSlot k (some { sl with misses := 0 })).verifyBreaking k { sl with misses := 0 } closed := by
  simp only [State.verifyDecision, State.clearMisses_eq h, State.slot_setSlot_same, stage]

theorem State.verifyDecision_making (stage : sl.stage = .making) :
    s.verifyDecision k closed =
      (s.setSlot k (some { sl with misses := 0 })).verifyMaking k { sl with misses := 0 } closed := by
  simp only [State.verifyDecision, State.clearMisses_eq h, State.slot_setSlot_same, stage]

theorem State.verifyDecision_returning (stage : sl.stage = .returning) :
    s.verifyDecision k closed =
      (s.setSlot k (some { sl with misses := 0 })).verifyReturning k { sl with misses := 0 } closed := by
  simp only [State.verifyDecision, State.clearMisses_eq h, State.slot_setSlot_same, stage]

/-- ORPHANED: polled again in the next frame, and a closed phase ends the transfer (R101). -/
theorem State.verifyDecision_orphaned (stage : sl.stage = .orphaned) :
    s.verifyDecision k closed =
      (s.setSlot k (some { sl with misses := 0, verifyDue := some (s.sbc.frame + 1) })).seeClosed k
        { sl with misses := 0 } closed := by
  simp only [State.verifyDecision, State.clearMisses_eq h, State.slot_setSlot_same, stage, State.setSlot_setSlot]
  rfl

end Decide

/-- ORPHANED: a closed phase ends the transfer (R101). -/
theorem State.seeClosed_polled (x : Slot) (due : Option Word) (p : Phase) :
    (s.setSlot k (some { x with verifyDue := due })).seeClosed k x (some p) =
      if p = x.record.source then (s.setSlot k (some x)).endRecord k .reverted
      else ((s.setSlot k (some x)).endRecord k .wrongPhase).setMapFault := by
  have same := fun res => s.endRecord_setSlot k { x with verifyDue := due } x res rfl
  rw [State.seeClosed, State.endTransfer_stray, same, same]

theorem State.timing_congr {t : State} (classes : s.classes = t.classes)
    (timing : (s.conn n).timing = (t.conn n).timing) : s.timing n = t.timing n := by
  simp only [State.timing, classes, timing]

theorem State.repliedConn_timing (s : State) (n : ConnId) (r : StatusReport) :
    (s.repliedConn n r).timing = (s.conn n).timing := by
  unfold State.repliedConn countLoad
  split <;> rfl

theorem State.applyReply_timing (s : State) (n m : ConnId) (r : StatusReport) :
    (s.applyReply n r).timing m = s.timing m := by
  have kept : ((s.applyReply n r).conn m).timing = (s.conn m).timing := by
    cases present : (s.conn n).present
    · rw [State.applyReply_of_absent present]
    · rw [State.applyReply_eq present]
      refine (congrArg Conn.timing (s.conn_setConn n m _)).trans ?_
      split
      · rename_i e; rw [e, State.repliedConn_timing]
      · rfl
  exact State.timing_congr (by simp) kept

/-- A POLL reply within its window, to the verify poll of a slot that holds the transfer it was made for: the Connection
Table, then the decision of the slot. -/
theorem exec_pollReply_verify {u : Nat} {r : StatusReport}
    (txn : s.sbc.txn = some { conn := n, purpose := .verify k sl.order, lastUnit := u }) (h : s.slot k = some sl)
    (inTime : s.now ≤ s.sbc.boundaryAt + u * s.sbc.unitLength) (low : -32000 ≤ r.load) (high : r.load ≤ 32000) :
    exec (.pollReply { late := false, bytes := pollReplyMessage n r }) s
      = .next (((s.setTxn none).applyReply n r).verifyDecision k r.closed).settle := by
  have window : s.now ≤ s.windowEnd { conn := n, purpose := .verify k sl.order, lastUnit := u } := inTime
  have taken : s.takeMessage { late := false, bytes := pollReplyMessage n r }
      = ((s.setTxn none).applyReply n r).verifyDecision k r.closed := by
    simp only [State.takeMessage, State.takeReply, txn, window, Bool.false_eq_true, if_true, if_false,
      judgePoll_pollReplyMessage _ low high, State.verifyTaken, State.owned_self (s := s.setTxn none) h]
  exact settled_congr taken

/-! ### An actuation reply taken (R91, R114, R139) -/

/-- A BREAK or MAKE reply within its window, whose reason fits: the outcome is handed on. -/
theorem exec_actuationReply {u owner : Nat} {kind : ActKind} {b i : Confirmed} {o : ActOutcome} (closed : Option Phase)
    (txn : s.sbc.txn = some { conn := n, purpose := .actuation k owner kind b i, lastUnit := u })
    (inTime : s.now ≤ s.sbc.boundaryAt + u * s.sbc.unitLength)
    (fits : o ∈ (if kind == .brk then [.accept, .reject .notClosed, .reject .localLockout]
      else [.accept, .reject .notOpen, .reject .phaseDead, .reject .localLockout] : List ActOutcome)) :
    exec (.actuationReply { late := false, bytes := actuationReplyMessage n (kind == .brk) o closed }) s
      = .next ((s.setTxn none).actuationOutcome n k owner kind b i o).settle := by
  have window : s.now ≤ s.windowEnd { conn := n, purpose := .actuation k owner kind b i, lastUnit := u } := inTime
  have taken : s.takeMessage { late := false, bytes := actuationReplyMessage n (kind == .brk) o closed }
      = (s.setTxn none).actuationOutcome n k owner kind b i o := by
    simp only [State.takeMessage, State.takeReply, txn, window, Bool.false_eq_true, if_true, if_false,
      judgeActuation_actuationReplyMessage n (kind == .brk) closed fits]
  exact settled_congr taken

/-- A slot that acts on a REJECT leaves the frame counter as it is. -/
theorem State.slotOutcome_reject_frame (s : State) (k : SlotId) (kind : ActKind) (frame : Word) (why : Reason) :
    (s.slotOutcome k kind frame (.reject why)).sbc.frame = s.sbc.frame := by
  have ended : ∀ res, res ≠ .wrongPhase → (s.endTransfer k res).sbc.frame = s.sbc.frame := fun res h => by
    rw [State.endTransfer_of_ne h]
    exact State.OnlySlot.refl.endRecord.frame
  have back := (State.OnlySlot.refl (k := k) (s := s)).enterWaitReturn.frame
  have make := (State.OnlySlot.refl (k := k) (s := s)).enterWaitMake.frame
  have due : (s.setVerifyDue k frame).sbc.frame = s.sbc.frame := State.OnlySlot.refl.modSlot.frame
  unfold State.slotOutcome
  cases s.slot k with
  | none => rfl
  | some sl =>
    cases kind
    case brk => cases why <;> exact ended _ (by decide)
    case make =>
      cases why
      case notOpen => exact due
      case phaseDead =>
        dsimp only
        split
        · exact make
        · exact back
      case notClosed | localLockout => exact back
    case ret =>
      have again : (if sl.record.returns < 3 then s.enterWaitReturn k else s.endTransfer k .dark).sbc.frame
          = s.sbc.frame := by
        split
        · exact back
        · exact ended _ (by decide)
      cases why
      case notOpen => exact due
      all_goals exact again

/-- The Connection Table takes a REJECT: link state and missed run of a present, seen record (R7). -/
def State.rejectTaken (s : State) (n : ConnId) : State :=
  s.setConn n (if (s.conn n).present = true ∧ (s.conn n).link ≠ .unseen then
    { s.conn n with link := .online, missedRun := 0 } else s.conn n)

/-- A REJECT of the actuation the store was granted for: the Connection Table, the slot, and the store READY again. -/
theorem State.actuationOutcome_rejected {count : Nat} {g : Grant} (h : s.slot k = some sl)
    (store : s.esm.store = .recovery count g) (conn : g.conn = n) (frame : g.frame = s.sbc.frame) (kind : ActKind)
    (b i : Confirmed) (why : Reason) :
    s.actuationOutcome n k sl.order kind b i (.reject why) =
      ((s.rejectTaken n).slotOutcome k kind s.sbc.frame (.reject why)).setStore .ready := by
  have taken : s.ctbOutcome n b i (.reject why) = s.rejectTaken n := by
    simp [State.ctbOutcome, actuationReplied, State.rejectTaken]
  obtain ⟨t, ht⟩ : ∃ t, (s.rejectTaken n).slotOutcome k kind s.sbc.frame (.reject why) = t := ⟨_, rfl⟩
  have esm : t.esm = s.esm := by rw [← ht]; simp [State.rejectTaken]
  have same : t.sbc.frame = s.sbc.frame := by rw [← ht, State.slotOutcome_reject_frame]; rfl
  rw [State.actuationOutcome_owned h, taken]
  dsimp only
  rw [ht]
  simp [State.storeOutcome, esm, store, conn, frame, same]

theorem State.endRecord_history (h : s.slot k = some sl) (res : Result) :
    (s.endRecord k res).mvq.history
      = pushHistory s.mvq.history (historyEntry sl.record res s.tbs.epoch s.tbs.timeOfDay) := by
  rw [State.endRecord_eq h]

theorem State.endRecord_txn (h : s.slot k = some sl) (res : Result) : (s.endRecord k res).sbc.txn = s.sbc.txn := by
  rw [State.endRecord_eq h]

theorem State.rejectTaken_conn (s : State) (n : ConnId) :
    ((s.rejectTaken n).conn n).timing = (s.conn n).timing ∧ ((s.rejectTaken n).conn n).expected = (s.conn n).expected := by
  rw [State.rejectTaken, State.conn_setConn_same]
  split <;> exact ⟨rfl, rfl⟩

/-- An ended transfer and a store READY again, once the operation has settled (R81, R139). -/
theorem State.endRecord_ready_settled (h : s.slot k = some sl) (res : Result) :
    let t := ((s.endRecord k res).setStore .ready).settle
    t.slot k = none ∧ t.esm.store = .ready ∧ (t.conn sl.record.conn).recordLink = none
      ∧ (t.conn sl.record.conn).expected = (s.conn sl.record.conn).expected
      ∧ t.mvq.history.getLast?.map (fun e => (e.seq, e.result)) = some (sl.record.seq, res)
      ∧ t.sbc.txn = s.sbc.txn := by
  obtain ⟨t, ht⟩ : ∃ t, s.endRecord k res = t := ⟨_, rfl⟩
  have slot := ht ▸ State.endRecord_slot h res k
  have own := ht ▸ State.endRecord_conn h res sl.record.conn
  have history := ht ▸ State.endRecord_history h res
  have txn := ht ▸ State.endRecord_txn h res
  rw [if_pos rfl] at slot own
  rw [ht]
  refine ⟨slot, rfl, (congrArg Conn.recordLink own).trans rfl, (congrArg Conn.expected own).trans rfl, ?_, txn⟩
  show t.mvq.history.getLast?.map (fun e => (e.seq, e.result)) = _
  rw [history, getLast?_pushHistory]
  rfl

section Reject

variable (h : s.slot k = some sl) (frame : Word)
include h

/-- A MAKE refused PHASE_DEAD is tried again, at most three times and not after a CANCEL (R91). -/
theorem State.slotOutcome_make_phaseDead (hb : sl.record.breakTime = some bt) :
    s.slotOutcome k .make frame (.reject .phaseDead) =
      if sl.record.makes < 3 ∧ sl.record.cancel = false then s.goToMake k sl bt else s.turnBack k sl bt := by
  simp only [State.slotOutcome, h, State.enterWaitMake_eq h hb, State.enterWaitReturn_eq h hb]

theorem State.slotOutcome_make_localLockout (hb : sl.record.breakTime = some bt) :
    s.slotOutcome k .make frame (.reject .localLockout) = s.turnBack k sl bt := by
  simp only [State.slotOutcome, h, State.enterWaitReturn_eq h hb]

/-- A RETURN refused for another reason than NOT_OPEN is tried again, at most three times (R91). -/
theorem State.slotOutcome_ret_refused {why : Reason} (reason : why = .phaseDead ∨ why = .localLockout) :
    s.slotOutcome k .ret frame (.reject why) =
      if sl.record.returns < 3 then s.enterWaitReturn k else s.endRecord k .dark := by
  rcases reason with rfl | rfl <;> simp only [State.slotOutcome, h] <;> rfl

/-- NOT_OPEN leaves the decision to the verify poll (R91). -/
theorem State.slotOutcome_notOpen {kind : ActKind} (closing : kind = .make ∨ kind = .ret) :
    s.slotOutcome k kind frame (.reject .notOpen) = s.setVerifyDue k frame := by
  rcases closing with rfl | rfl <;> simp only [State.slotOutcome, h]

/-- A refused BREAK ends the transfer (R91). -/
theorem State.slotOutcome_brk_refused :
    s.slotOutcome k .brk frame (.reject .notClosed) = s.endRecord k .stale
      ∧ s.slotOutcome k .brk frame (.reject .localLockout) = s.endRecord k .blocked := by
  constructor <;> simp only [State.slotOutcome, h] <;> rfl

end Reject

/-- A REJECT received within its window, of the actuation the store was granted for. -/
theorem exec_actuationReply_reject {u count : Nat} {kind : ActKind} {b i : Confirmed} {g : Grant} (closed : Option Phase)
    (txn : s.sbc.txn = some { conn := n, purpose := .actuation k sl.order kind b i, lastUnit := u })
    (h : s.slot k = some sl) (inTime : s.now ≤ s.sbc.boundaryAt + u * s.sbc.unitLength)
    (store : s.esm.store = .recovery count g) (gconn : g.conn = n) (gframe : g.frame = s.sbc.frame) {why : Reason}
    (fits : ActOutcome.reject why ∈ (if kind == .brk then [.accept, .reject .notClosed, .reject .localLockout]
      else [.accept, .reject .notOpen, .reject .phaseDead, .reject .localLockout] : List ActOutcome))
    {t : State} (acted : ((s.setTxn none).rejectTaken n).slotOutcome k kind s.sbc.frame (.reject why) = t) :
    exec (.actuationReply { late := false, bytes := actuationReplyMessage n (kind == .brk) (.reject why) closed }) s
      = .next (t.setStore .ready).settle := by
  rw [exec_actuationReply closed txn inTime fits,
    State.actuationOutcome_rejected (s := s.setTxn none) h store gconn gframe kind b i why]
  exact acted ▸ rfl

/-! ### MAP_FAULT set (R102, R153) -/

/-- A masked MAP_FAULT is entered in the halt record and halts the part (R155, R171). -/
theorem State.setMapFault_masked (clear : s.ilu.mapFault = false) (masked : s.params.haltMask.getLsbD 7 = true) :
    s.setMapFault = (State.enterHalt { s with ilu := { s.ilu with mapFault := true } } .mapFault).haltMode := by
  have member : State.masked { s with ilu := { s.ilu with mapFault := true } } .mapFault = true := masked
  simp only [State.setMapFault, State.haltEvent, clear, member, Bool.false_eq_true, if_false, if_true]

theorem State.setMapFault_unmasked (clear : s.ilu.mapFault = false) (unmasked : s.params.haltMask.getLsbD 7 = false) :
    s.setMapFault = { s with ilu := { s.ilu with mapFault := true } } := by
  have member : State.masked { s with ilu := { s.ilu with mapFault := true } } .mapFault = false := unmasked
  simp only [State.setMapFault, State.haltEvent, clear, member, Bool.false_eq_true, if_false]

end Sys2Proof.Machine

open Sys2Proof Sys2Proof.Machine

/-- Settles O42: outcome by outcome, then stage by stage of the verify reply. -/
theorem actuationReplyTaken : Obligations.ActuationReplyTaken := by
  refine ⟨fun s k sl n kind b i u closed txn slot conn inTime => ⟨fun present seen => ?_,
      fun count g brk store gconn gframe => ?_, fun count g store gconn gframe => ?_⟩,
    fun s k sl n u r txn slot conn inTime low high => ?_, fun s => ⟨fun set => ?_, State.setMapFault_unmasked,
      fun clear masked => ?_⟩⟩
  · have ctb : (s.setTxn none).ctbOutcome n b i .accept = (s.setTxn none).setConn n { s.conn n with
        link := .online, missedRun := 0, expected := (s.conn n).expected + 1,
        pendingAct := some { before := b, intended := i, state := .accepted } } :=
      congrArg ((s.setTxn none).setConn n) (actuationReplied_accept present seen b i)
    rw [exec_actuationReply closed txn inTime (by cases kind <;> decide)]
    exact settled_congr (State.actuationOutcome_drawn (s := s.setTxn none) slot conn kind b i (.inl rfl) ctb rfl)
  · subst brk
    have held : ((s.setTxn none).rejectTaken n).slot k = some sl := slot
    refine ⟨_, exec_actuationReply_reject closed txn slot inTime store gconn gframe (by decide)
      (State.slotOutcome_brk_refused held _).2, ?_⟩
    obtain ⟨gone, ready, link, expected, ended, txn'⟩ := State.endRecord_ready_settled held .blocked
    rw [conn] at link expected
    exact ⟨gone, ready, link, expected.trans (State.rejectTaken_conn _ n).2, ended, txn'⟩
  · have held : ((s.setTxn none).rejectTaken n).slot k = some sl := slot
    have cls : ((s.setTxn none).rejectTaken n).timing sl.record.conn = s.timing n := by
      rw [conn]
      exact State.timing_congr rfl (State.rejectTaken_conn _ n).1
    have rejected := fun why fits t => exec_actuationReply_reject (why := why) (t := t) closed txn slot inTime store
      gconn gframe fits
    refine ⟨fun brk => ?_, fun make => ?_, fun ret => ?_⟩
    · subst brk
      exact ⟨rejected _ (by decide) _ (State.slotOutcome_brk_refused held _).1,
        rejected _ (by decide) _ (State.slotOutcome_brk_refused held _).2⟩
    · subst make
      refine ⟨rejected _ (by decide) _ ?_, fun bt hb => ⟨fun few going => rejected _ (by decide) _ ?_,
        fun spent => rejected _ (by decide) _ ?_, rejected _ (by decide) _ ?_⟩⟩
      · rw [State.slotOutcome_notOpen held _ (.inl rfl), State.setVerifyDue_eq held, cls]
        rfl
      · rw [State.slotOutcome_make_phaseDead held _ hb, if_pos ⟨few, going⟩]
        rfl
      · rw [State.slotOutcome_make_phaseDead held _ hb, if_neg]
        · rfl
        · rintro ⟨few, going⟩
          rcases spent with many | cancelled
          · omega
          · simp [going] at cancelled
      · rw [State.slotOutcome_make_localLockout held _ hb]
        rfl
    · subst ret
      refine ⟨rejected _ (by decide) _ ?_, fun spent why reason => rejected _ ?_ _ ?_,
        fun bt hb few why reason => rejected _ ?_ _ ?_⟩
      · rw [State.slotOutcome_notOpen held _ (.inr rfl), State.setVerifyDue_eq held, cls]
        rfl
      · rcases reason with rfl | rfl <;> decide
      · rw [State.slotOutcome_ret_refused held _ reason, if_neg (by omega)]
        rfl
      · rcases reason with rfl | rfl <;> decide
      · rw [State.slotOutcome_ret_refused held _ reason, if_pos few, State.enterWaitReturn_eq held hb]
        rfl
  · intro leaves kept v
    have held : ((s.setTxn none).applyReply n r).slot k = some sl := (State.applyReply_slot ..).trans slot
    have slotV : v.slot k = some kept := State.slot_setSlot_same ..
    have now : v.now = s.now := (State.applyReply_frame ..).1
    have cls : v.timing sl.record.conn = s.timing n := conn ▸ State.applyReply_timing ..
    have mode : v.modeName = s.modeName := by
      simp [v, State.modeName, State.setTxn]
    have decided : ∀ t, ((s.setTxn none).applyReply n r).verifyDecision k r.closed = t → leaves t := fun t ht =>
      ht ▸ exec_pollReply_verify txn slot inTime low high
    have breaking : sl.stage = .breaking → ∀ t, v.verifyBreaking k kept r.closed = t → leaves t := fun stage t ht =>
      decided t ((State.verifyDecision_breaking held _ stage).trans ht)
    have making : sl.stage = .making → ∀ t, v.verifyMaking k kept r.closed = t → leaves t := fun stage t ht =>
      decided t ((State.verifyDecision_making held _ stage).trans ht)
    have returning : sl.stage = .returning → ∀ t, v.verifyReturning k kept r.closed = t → leaves t := fun stage t ht =>
      decided t ((State.verifyDecision_returning held _ stage).trans ht)
    have frame : ((s.setTxn none).applyReply n r).sbc.frame = s.sbc.frame := by simp [State.setTxn]
    have orphaned : sl.stage = .orphaned → ∀ t, (v.setSlot k (some { kept with
        verifyDue := some (s.sbc.frame + 1) })).seeClosed k kept r.closed = t → leaves t := fun stage t ht => by
      refine decided t ((State.verifyDecision_orphaned held _ stage).trans ?_)
      rw [frame, ← ht, State.setSlot_setSlot]
    have kept_slot : v.setSlot k (some kept) = v := State.setSlot_slot slotV
    have record : kept.record = sl.record := rfl
    have names : ∀ {a : LastAct} {q : Phase}, sl.lastAct = some a → a.named = some q →
        kept.lastAct.bind (·.named) = some q := fun act named => by simp [kept, act, named]
    clear_value v leaves
    refine ⟨fun stage => ⟨fun a fe isOpen act ended => ?_, fun closed => ?_, fun p closed other => ?_⟩,
      fun stage => ⟨fun closed => ?_, fun bt isOpen hb => ⟨fun few going => ?_, fun spent => ?_⟩,
        fun p closed other => ⟨fun same => ?_, fun stray => ?_⟩⟩,
      fun a q stage act named => ⟨fun closed => ?_, fun bt isOpen few hb => ?_, fun isOpen spent => ?_,
        fun p closed other => ⟨fun same => ?_, fun stray => ?_⟩⟩,
      fun stage => ⟨fun isOpen => ?_, fun p closed => ⟨fun same => ?_, fun stray => ?_⟩⟩⟩
    · have decision := (isOpen ▸ State.verifyBreaking_open slotV act ended : v.verifyBreaking k kept r.closed = _)
      rw [now, cls] at decision
      exact ⟨fun going early => breaking stage _ (by rw [decision, if_neg (by simp [kept, going]), if_pos early]),
        fun going reached => breaking stage _
          (by rw [decision, if_neg (by simp [kept, going]), if_neg (Nat.not_lt.mpr reached)]),
        fun cancelled => breaking stage _ (by rw [decision, if_pos (by simp [kept, cancelled])])⟩
    · have decision := (closed ▸ State.verifyBreaking_source : v.verifyBreaking k kept r.closed = _)
      rw [State.backToWaitBreak_eq slotV, record, conn, mode] at decision
      exact ⟨fun cancelled => breaking stage _ (by rw [decision, if_pos cancelled]),
        fun going many => breaking stage _ (by rw [decision, if_neg (by simp [going]), if_neg (by omega)]),
        fun going few held => breaking stage _ (by rw [decision, if_neg (by simp [going]), if_pos few, if_pos held]),
        fun going few free =>
          ⟨fun base => breaking stage _
            (by rw [decision, if_neg (by simp [going]), if_pos few, if_neg (by simp [free]), if_neg base]),
          fun rides => breaking stage _
            (by rw [decision, if_neg (by simp [going]), if_pos few, if_neg (by simp [free]), if_pos rides])⟩⟩
    · refine breaking stage _ ?_
      rw [closed, State.verifyBreaking]
      exact if_neg other
    · exact making stage _ (by rw [closed, State.verifyMaking_closed, if_pos rfl])
    · exact making stage _ (by rw [isOpen, State.verifyMaking_open slotV hb, if_pos ⟨few, going⟩])
    · refine making stage _ ?_
      rw [isOpen, State.verifyMaking_open slotV hb, if_neg]
      rintro ⟨few, going⟩
      rcases spent with many | cancelled
      · exact absurd few (by simpa [kept] using many)
      · simp [kept, cancelled] at going
    · exact making stage _ (by rw [closed, State.verifyMaking_closed, if_neg other, if_pos same])
    · exact making stage _ (by rw [closed, State.verifyMaking_closed, if_neg other, if_neg stray])
    · exact returning stage _ (by rw [closed, State.verifyReturning_closed (names act named), if_pos rfl])
    · exact returning stage _ (by rw [isOpen, State.verifyReturning_open slotV hb, if_pos few])
    · exact returning stage _ (by rw [isOpen]; exact if_neg (Nat.not_lt.mpr spent))
    · exact returning stage _
        (by rw [closed, State.verifyReturning_closed (names act named), if_neg (Ne.symm other), if_pos same])
    · exact returning stage _
        (by rw [closed, State.verifyReturning_closed (names act named), if_neg (Ne.symm other), if_neg stray])
    · exact orphaned stage _ (by rw [isOpen]; rfl)
    · refine orphaned stage _ ?_
      rw [closed, State.seeClosed_polled, kept_slot, if_pos same]
    · refine orphaned stage _ ?_
      rw [closed, State.seeClosed_polled, kept_slot, if_neg stray]
  · simp only [State.setMapFault, set, if_true]
  · rw [State.setMapFault_masked clear masked]
    obtain ⟨u, hu⟩ : ∃ u : State, { s with ilu := { s.ilu with mapFault := true } } = u := ⟨_, rfl⟩
    obtain ⟨ilu, stops⟩ := (u.enterHalt .mapFault).haltMode_spec
    obtain ⟨fault, mdc⟩ := u.enterHalt_keeps .mapFault
    rw [hu, ilu]
    refine ⟨fault.trans (hu ▸ rfl), u.enterHalt_mem .mapFault, fun mode => stops ?_⟩
    rw [State.modeName, mdc, ← hu]
    exact mode
end

section
/-! The time base: the tick, the day rollover, the epoch end and the work its signal makes (R13, R25, R37 to R41, R44, R59,
R75). -/

namespace Sys2Proof.Machine

open Sys2Proof

/-! ### What the Move Queue and the planner write in a record: its link alone -/

/-- A state t differs from s in the connection records by their record links alone. -/
structure LinksOnly (s t : State) : Prop where
  conn : ∀ n, (t.conn n).unlinked = (s.conn n).unlinked

namespace LinksOnly

variable {s t : State}

theorem refl (s : State) : LinksOnly s s := ⟨fun _ => rfl⟩

theorem setConn (h : LinksOnly s t) {n : ConnId} {c : Conn} (hc : c.unlinked = (t.conn n).unlinked) :
    LinksOnly s (t.setConn n c) where
  conn m := by
    rw [State.conn_setConn]
    split
    · next e => rw [hc, e, h.conn]
    · exact h.conn m

theorem foldl {α : Type} {f : State → α → State} (step : ∀ u a, LinksOnly s u → LinksOnly s (f u a))
    (l : List α) (h : LinksOnly s t) : LinksOnly s (l.foldl f t) := by
  induction l generalizing t with
  | nil => exact h
  | cons a l ih => exact ih (step _ a h)

theorem finishRecord (h : LinksOnly s t) {r : MoveRec} {res : Result} : LinksOnly s (t.finishRecord r res) := by
  rw [State.finishRecord_eq]
  exact ⟨(h.setConn (n := r.conn) (c := { t.conn r.conn with recordLink := none }) rfl).conn⟩

theorem endQueued (h : LinksOnly s t) {r : MoveRec} {res : Result} : LinksOnly s (t.endQueued r res) :=
  finishRecord (t := t.setQueue (t.mvq.queue.filter fun x => x.order != r.order)) ⟨h.conn⟩

theorem accept (h : LinksOnly s t) {n : ConnId} {x y : Phase} {o : Origin} : LinksOnly s (t.accept n x y o) :=
  ⟨(h.setConn (n := n) (c := { t.conn n with recordLink := some t.mvq.seqCounter }) rfl).conn⟩

theorem setPlan (h : LinksOnly s t) {p : PlanStatus} : LinksOnly s (t.setPlan p) := ⟨h.conn⟩

theorem makeRoom (h : LinksOnly s t) : LinksOnly s t.makeRoom := by
  unfold State.makeRoom
  split
  · split
    · exact h.endQueued
    · exact h
  · exact h

theorem expireQueued (h : LinksOnly s t) {e : Word} : LinksOnly s (t.expireQueued e) := h.foldl (fun _ _ hu => hu.endQueued) _

theorem planOn (h : LinksOnly s t) {e : Word} {w : PerPhase Int} : LinksOnly s (t.planOn e w) := by
  unfold State.planOn
  split
  · exact h.setPlan
  · dsimp only
    split
    · exact h.setPlan
    · exact ⟨(h.foldl (fun _ _ hu => hu.accept) _).conn⟩

theorem plannerRun (h : LinksOnly s t) {e : Word} {d : Bool} : LinksOnly s (t.plannerRun e d) := by
  unfold State.plannerRun
  split
  · exact h.setPlan
  · split
    · split
      · exact h.setPlan
      · split
        · exact h.setPlan
        · exact h.planOn
    · exact h.setPlan

theorem place {a : Pass} (h : LinksOnly s a.state) {n : ConnId} {x y : Phase} {l : Int} :
    LinksOnly s (a.place n x y l).state := by
  unfold Pass.place
  split
  · exact h
  · exact h.makeRoom.accept

theorem examine {a : Pass} (h : LinksOnly s a.state) {n : ConnId} : LinksOnly s (a.examine n).state := by
  unfold Pass.examine
  split
  · exact h
  · split
    · exact h
    · dsimp only
      split
      · exact h
      · exact h.place

theorem rescuePass (h : LinksOnly s t) {c : RescueCause} : LinksOnly s (t.rescuePass c) := by
  have examined (l : List ConnId) (a : Pass) (ha : LinksOnly s a.state) : LinksOnly s (l.foldl Pass.examine a).state := by
    induction l generalizing a with
    | nil => exact ha
    | cons n l ih => exact ih _ ha.examine
  have noted {u : State} (hu : LinksOnly s u) (x : Option RescueStatus) :
      LinksOnly s { u with bpl := { u.bpl with rescue := x } } := ⟨hu.conn⟩
  have raised {u : State} (hu : LinksOnly s u) : LinksOnly s (u.raise .rescueStarted) := ⟨hu.conn⟩
  unfold State.rescuePass
  dsimp only
  split
  · exact noted (examined _ _ h) _
  · exact raised (noted (examined _ _ h) _)

theorem epochRescue (h : LinksOnly s t) : LinksOnly s t.epochRescue := by
  unfold State.epochRescue
  split
  · exact h.rescuePass
  · exact h

theorem signalEnd (h : LinksOnly s t) {e : Word} {d : Bool} {x : ExpiryPlace} : LinksOnly s (t.signalEnd e d x) := by
  cases x
  · exact h.expireQueued.plannerRun.epochRescue
  · exact h.plannerRun.expireQueued.epochRescue
  · exact h.plannerRun.epochRescue.expireQueued

end LinksOnly

variable {s : State}

/-! ### Expiry (R75) -/

theorem expires_iff (e : Word) (r : MoveRec) :
    expires e r = decide (r.origin = .planner ∧ r.acceptedEpoch ≠ e + 1 ∧ 2 ≤ (e - r.acceptedEpoch).toNat) := by
  rw [Bool.eq_iff_iff]
  simp only [expires, MoveRec.isPlanner, Bool.and_eq_true, beq_iff_eq, bne_iff_ne, decide_eq_true_eq, and_assoc]

/-- Where the acceptance orders of the queued records differ, exactly the records that expire leave the queue. -/
theorem filter_other_orders {q : List MoveRec} (orders : q.Pairwise fun x y => x.order ≠ y.order) (old : MoveRec → Bool) :
    q.filter (fun x => (q.filter old).all fun r => x.order != r.order) = q.filter fun x => !old x := by
  refine List.filter_congr fun x hx => ?_
  rw [Bool.eq_iff_iff, List.all_eq_true]
  constructor
  · intro all
    by_contra gone
    have same := all x (List.mem_filter.mpr ⟨hx, by simpa using gone⟩)
    simp at same
  · intro stays r hr
    obtain ⟨hr, goes⟩ := List.mem_filter.mp hr
    have other : x ≠ r := fun e => by simp [e, goes] at stays
    have : Std.Symm fun x y : MoveRec => x.order ≠ y.order := ⟨fun _ _ h => h.symm⟩
    exact bne_iff_ne.mpr (orders.forall hx hr other)

theorem State.expireQueued_eq (s : State) (e : Word) (orders : s.mvq.queue.Pairwise fun x y => x.order ≠ y.order) :
    s.expireQueued e = { s with
      conns := unlinkConns s.conns (s.mvq.queue.filter (expires e))
      mvq := { s.mvq with
        queue := s.mvq.queue.filter fun r => !expires e r
        history := s.endedHistory ((s.mvq.queue.filter (expires e)).map fun r => (r, .expired)) } } := by
  rw [State.expireQueued, State.endQueued_foldl _ _ rfl, filter_other_orders orders]

/-! ### The tick (R37, R39) -/

theorem State.takeOwedEnd_of_none (h : s.tbs.endDue = false) : s.takeOwedEnd = s := by simp [State.takeOwedEnd, h]

/-- Marking the end, due or not, of a state in which none is owed. -/
theorem State.markEnd_eq (h : s.tbs.endDue = false) :
    s.markEnd = { s with tbs := { s.tbs with endDue := decide (s.tbs.timeOfDay % s.tbs.epochLength = 0) } } := by
  unfold State.markEnd
  by_cases multiple : s.tbs.timeOfDay % s.tbs.epochLength = 0
  · simp [multiple]
  · simp only [multiple, if_false, decide_false, ← h]

theorem exec_secondTick (s : State) : exec .secondTick s = .next s.tick.settle := rfl

theorem exec_epochEnd (s : State) : exec .epochEnd s = .next s.takeOwedEnd.settle := rfl

theorem exec_dayRollover (last : s.tbs.timeOfDay = 86399) : exec .dayRollover s = .next s.tick.settle :=
  if_pos (Nat.le_of_eq last.symm)

/-- One second later, the time of day as it was. -/
def State.secondLater (s : State) : State :=
  { s with
    now := max s.now (s.tbs.tickAt + Config.ticksPerSecond)
    tbs := { s.tbs with tickAt := s.tbs.tickAt + Config.ticksPerSecond } }

theorem State.tick_eq (free : s.tbs.endDue = false) : s.tick = s.secondLater.nextSecond.markEnd := by
  rw [State.tick, State.takeOwedEnd_of_none free]
  rfl

/-- A tick within the day: time-of-day rises by 1, and an epoch end falls due at a multiple of the epoch length. -/
theorem State.tick_of_within (free : s.tbs.endDue = false) (within : s.tbs.timeOfDay < 86399) :
    s.tick = { s with
      now := max s.now (s.tbs.tickAt + Config.ticksPerSecond)
      tbs := { s.tbs with
        timeOfDay := s.tbs.timeOfDay + 1, tickAt := s.tbs.tickAt + Config.ticksPerSecond,
        endDue := decide ((s.tbs.timeOfDay + 1) % s.tbs.epochLength = 0) } } := by
  have today : ¬ 86399 ≤ s.secondLater.tbs.timeOfDay := Nat.not_le.mpr within
  rw [State.tick_eq free, State.nextSecond, if_neg today, State.markEnd_eq (by exact free)]
  rfl

/-- The tick at the end of the day rolls it over, and an epoch end falls due (R37). -/
theorem State.tick_of_rollover (free : s.tbs.endDue = false) (last : s.tbs.timeOfDay = 86399) :
    s.tick = { s.secondLater.rollDay with tbs := { s.secondLater.rollDay.tbs with endDue := true } } := by
  have ended : 86399 ≤ s.secondLater.tbs.timeOfDay := Nat.le_of_eq last.symm
  have midnight : s.secondLater.rollDay.tbs.timeOfDay % s.secondLater.rollDay.tbs.epochLength = 0 := Nat.zero_mod _
  rw [State.tick_eq free, State.nextSecond, if_pos ended, State.markEnd_eq (s := s.secondLater.rollDay) free,
    decide_eq_true midnight]

/-! ### The epoch end (R39 to R41) -/

theorem State.takeOwedEnd_of_due (h : s.tbs.endDue = true) : s.takeOwedEnd = s.endEpoch := by simp [State.takeOwedEnd, h]

/-- A state at the end of its epoch, before the signal of the end (R13, R39 to R41). -/
def State.epochClosed (s : State) : State :=
  { s with
    fmu := { s.fmu with
      chan := s.fmu.chan.map clearAccumulator
      averages := some { epoch := s.tbs.epoch, avg := s.fmu.chan.map averageOf }
      disturbed := s.shortOfHealthy }
    conns := mapAll closeLoad s.conns
    tbs := { s.tbs with epoch := s.tbs.epoch + 1, epochLength := s.tbs.pendingLength, endDue := false }
    free := s.free + 1 }

theorem State.takeOwedEnd_eq (h : s.tbs.endDue = true) :
    s.takeOwedEnd = s.epochClosed.signalEnd s.tbs.epoch s.fmu.disturbed (Config.expiryPlace s.free) := by
  have closed : { s.closeAverages.closeLoads.advanceEpoch with free := s.free + 1 } = s.epochClosed := by
    simp only [State.closeAverages, State.clearAccumulators, State.closeLoads, State.advanceEpoch, State.epochClosed]
  simp only [State.takeOwedEnd_of_due h, State.endEpoch, closed]

theorem State.epochClosed_chan (s : State) (p : Phase) : s.epochClosed.chan p = clearAccumulator (s.chan p) :=
  PerPhase.get_map _ _ p

theorem State.epochClosed_conn (s : State) (n : ConnId) : s.epochClosed.conn n = closeLoad (s.conn n) :=
  s.closeLoads_conn n

theorem closeLoad_of_present {c : Conn} (h : c.present = true) :
    closeLoad c = { c with
      epochLoad := if 4 ≤ c.accCount then some (c.accSum.tdiv c.accCount) else none
      accSum := c.nextSum, accCount := c.nextCount, nextSum := 0, nextCount := 0 } :=
  if_pos h

theorem closeLoad_of_absent {c : Conn} (h : c.present = false) :
    closeLoad c = { c with accSum := 0, accCount := 0, nextSum := 0, nextCount := 0 } :=
  if_neg (by simp [h])

theorem mem_phases (p : Phase) : p ∈ phases := by cases p <;> decide

theorem State.shortOfHealthy_iff (s : State) : s.shortOfHealthy = true ↔ ∃ p, s.health p ≠ .healthy := by
  simp [State.shortOfHealthy, mem_phases]

theorem State.rescueAllowed_iff (s : State) : s.rescueAllowed = true ↔ s.modeName = .auto ∧ s.params.rescue = true := by
  simp [State.rescueAllowed]

theorem State.epochRescue_iff (s : State) :
    (s.rescueAllowed && phases.any fun p => s.health p == .lost) = true
      ↔ (s.modeName = .auto ∧ s.params.rescue = true) ∧ ∃ p, s.health p = .lost := by
  simp [mem_phases, ← State.rescueAllowed_iff]

/-- A rescue pass of cause EPOCH_END is made when it is allowed and a phase is LOST, and only then (R59). -/
theorem State.epochRescue_of_lost (mode : s.modeName = .auto) (on : s.params.rescue = true)
    (lost : ∃ p, s.health p = .lost) : s.epochRescue = s.rescuePass .epochEnd :=
  if_pos (s.epochRescue_iff.mpr ⟨⟨mode, on⟩, lost⟩)

theorem State.epochRescue_of_not (h : s.modeName ≠ .auto ∨ s.params.rescue = false ∨ ∀ p, s.health p ≠ .lost) :
    s.epochRescue = s := by
  refine if_neg fun due => ?_
  obtain ⟨⟨mode, on⟩, p, lost⟩ := s.epochRescue_iff.mp due
  rcases h with h | h | h
  · exact h mode
  · simp [on] at h
  · exact h p lost

/-- For a part that is not in AUTO the signal of an epoch end leaves NOT_AUTO as the planner's outcome (R46). -/
theorem State.signalEnd_plan (e : Word) (d : Bool) (x : ExpiryPlace) (mode : s.modeName ≠ .auto) :
    (s.signalEnd e d x).bpl.plan = some { epoch := e, outcome := .notAuto, before := none, after := none, entries := [] } := by
  have run (t : State) (ht : t.modeName ≠ .auto) : t.plannerRun e d = t.setPlan (planStatus e .notAuto none none []) :=
    if_pos ht
  have expired (t : State) (ht : t.modeName ≠ .auto) : (t.expireQueued e).modeName ≠ .auto := by
    simpa [State.modeName] using ht
  have planned : (s.plannerRun e d).modeName ≠ .auto := by simpa [State.modeName] using mode
  cases x
  · have ranMode : ((s.expireQueued e).plannerRun e d).modeName ≠ .auto := by simpa [State.modeName] using mode
    rw [State.signalEnd, State.epochRescue_of_not (.inl ranMode), run _ (expired _ mode)]
    rfl
  · rw [State.signalEnd, State.epochRescue_of_not (.inl (expired _ planned)), run _ mode]
    simp [State.setPlan, planStatus]
  · rw [State.signalEnd, State.epochRescue_of_not (.inl planned), run _ mode]
    simp [State.setPlan, planStatus]

end Sys2Proof.Machine

open Sys2Proof Sys2Proof.Machine

/-- Settles O57: the tick, the rollover and the epoch end each from its own equation. -/
theorem timeBaseEvents : Obligations.TimeBaseEvents := by
  refine ⟨fun s free => ⟨fun within => ?_, fun last => ?_⟩, fun s due => ?_, fun s due => ?_,
    fun s => ⟨fun mode on lost => ?_, fun h => ?_⟩, fun s e linked => ?_⟩
  · rw [exec_secondTick, State.tick_of_within free within]
  · refine ⟨_, exec_dayRollover last, ?_⟩
    rw [State.tick_of_rollover free last]
    refine ⟨rfl, rfl, rfl, rfl, ?_, fun n => ?_, rfl, rfl, rfl, rfl⟩
    · rw [State.settle_edge _ (by decide) (by decide)]
      simp [State.rollDay, State.raise, EventKind.mask, EventKind.bit]
    · exact s.secondLater.rollDay_conn n
  · obtain ⟨t, ht⟩ : ∃ t, s.takeOwedEnd = t := ⟨_, rfl⟩
    have ended := (State.takeOwedEnd_eq due).symm.trans ht
    have tbs : t.tbs = s.epochClosed.tbs := by simp [← ended]
    have fmu : t.fmu = s.epochClosed.fmu := by simp [← ended]
    have links : LinksOnly s.epochClosed t := ended ▸ (LinksOnly.refl _).signalEnd
    refine ⟨t.settle, by rw [exec_epochEnd, ht], tbs, congrArg Fmu.averages fmu, fun p => ?_, ?_, fun n => ?_, fun mode => ?_⟩
    · have chan : t.chan p = clearAccumulator (s.chan p) := by
        rw [← s.epochClosed_chan p, State.chan, fmu]
        rfl
      exact ⟨congrArg PhaseChannel.accSum chan, congrArg PhaseChannel.accCount chan,
        (congrArg PhaseChannel.health chan :)⟩
    · rw [← s.shortOfHealthy_iff]
      exact iff_of_eq (congrArg (· = true) (congrArg Fmu.disturbed fmu))
    · have conn := links.conn n
      rw [State.epochClosed_conn] at conn
      have fields : ∀ {α : Type} (f : Conn → α), (∀ c, f c.unlinked = f c) → f (t.conn n) = f (closeLoad (s.conn n)) :=
        fun f hf => (hf _).symm.trans ((congrArg f conn).trans (hf _))
      have load := fields Conn.epochLoad fun _ => rfl
      have sum := fields Conn.accSum fun _ => rfl
      have count := fields Conn.accCount fun _ => rfl
      have nextSum := fields Conn.nextSum fun _ => rfl
      have nextCount := fields Conn.nextCount fun _ => rfl
      cases present : (s.conn n).present
      · rw [closeLoad_of_absent present] at load sum count nextSum nextCount
        exact ⟨nextSum, nextCount, sum, count, nofun, nofun, fun _ => load⟩
      · rw [closeLoad_of_present present] at load sum count nextSum nextCount
        exact ⟨nextSum, nextCount, sum, count, fun _ many => load.trans (if_pos many),
          fun _ few => load.trans (if_neg (by omega)), nofun⟩
    · exact (congrArg (fun u : State => u.bpl.plan) ended.symm).trans (State.signalEnd_plan _ _ _ mode)
  · refine ⟨_, by rw [exec_epochEnd, State.takeOwedEnd_eq due], ?_⟩
    cases Config.expiryPlace s.free
    · exact .inl rfl
    · exact .inr (.inl rfl)
    · exact .inr (.inr rfl)
  · exact State.epochRescue_of_lost mode on lost
  · exact State.epochRescue_of_not h
  · obtain ⟨_, _, orders, _⟩ := linked
    have eq := s.expireQueued_eq e (List.pairwise_append.mp orders).1
    have conn : ∀ n, (s.expireQueued e).conn n = _ := fun n =>
      (congrArg (fun t : State => t.conns[n]) eq).trans (getElem_unlinkConns _ _ n)
    have old : expires e = _ := funext (expires_iff e)
    refine ⟨?_, fun r hr gone => ?_, fun n out => ?_, ?_⟩
    · rw [eq]
      simp only [old]
    · refine (conn r.conn).trans (if_pos ⟨r, List.mem_filter.mpr ⟨hr, ?_⟩, rfl⟩)
      rw [expires_iff]
      exact gone
    · refine (conn n).trans (if_neg ?_)
      rintro ⟨r, hr, own⟩
      obtain ⟨hr, gone⟩ := List.mem_filter.mp hr
      exact out r hr ((expires_iff e r).symm.trans gone) own
    · rw [eq]
end

section
/-! RESTART (R173): what it ends, clears and answers (R3, R15, R43, R67, R85, R106, R118, R120). -/

namespace Sys2Proof.Machine

open Sys2Proof

variable {s t : State} {k : SlotId} {sl : Slot}

/-! ### Every record in a slot ends ABANDONED (R85, R106) -/

/-- The records that stand in some of the slots, in their order. -/
def State.recordsIn (s : State) (ks : List SlotId) : List MoveRec := ks.filterMap fun k => (s.slot k).map (·.record)

theorem State.recordsIn_cons (s : State) (k : SlotId) (ks : List SlotId) :
    s.recordsIn (k :: ks) = match s.slot k with
      | some sl => sl.record :: s.recordsIn ks
      | none => s.recordsIn ks := by
  cases h : s.slot k <;> simp [State.recordsIn, h]

theorem State.recordsIn_congr {ks : List SlotId} (h : ∀ k ∈ ks, t.slot k = s.slot k) : t.recordsIn ks = s.recordsIn ks :=
  List.filterMap_congr fun k hk => by rw [h k hk]

/-- A record whose transfer is abandoned: the link cleared, a deferred chatter hold tested (R15, R81). -/
def State.abandonedConn (s : State) (n : ConnId) : Conn :=
  { s.conn n with
    recordLink := none, chatterPending := false
    hold := if s.chatterDue n then some .chatter else (s.conn n).hold }

/-- What the end of the records in some slots leaves of a state. -/
structure State.Abandoned (ks : List SlotId) (s t : State) : Prop where
  slot : ∀ j, t.slot j = if j ∈ ks then none else s.slot j
  conn : ∀ n, t.conn n = if ∃ r ∈ s.recordsIn ks, r.conn = n then s.abandonedConn n else s.conn n
  history : t.mvq.history = s.endedHistory ((s.recordsIn ks).map fun r => (r, .abandoned))
  statuses : ∃ held : Bool, t.evu.statuses = s.evu.statuses ||| (if held then 0x0100 else 0)
    ∧ (held = true ↔ ∃ n, (∃ r ∈ s.recordsIn ks, r.conn = n) ∧ s.chatterDue n = true)
  polls : ∀ j ∈ t.sbc.verifyPolls, j ∈ s.sbc.verifyPolls ∧ (j ∈ ks → s.slot j = none)
  rest : t = { s with
    conns := t.conns, txe := { s.txe with slots := t.txe.slots }, mvq := { s.mvq with history := t.mvq.history }
    evu := { s.evu with statuses := t.evu.statuses }, sbc := { s.sbc with verifyPolls := t.sbc.verifyPolls } }

theorem State.Abandoned.keeps {ks : List SlotId} (h : State.Abandoned ks s t) :
    t.params = s.params ∧ t.classes = s.classes ∧ t.ilu = s.ilu ∧ t.esm = s.esm ∧ t.tbs = s.tbs
      ∧ t.mvq.seqCounter = s.mvq.seqCounter ∧ t.mvq.acceptCount = s.mvq.acceptCount
      ∧ t.txe.admitCount = s.txe.admitCount ∧ t.now = s.now ∧ t.pending = s.pending ∧ t.smp = s.smp
      ∧ t.sbc = { s.sbc with verifyPolls := t.sbc.verifyPolls } := by
  rw [h.rest]
  exact ⟨rfl, rfl, rfl, rfl, rfl, rfl, rfl, rfl, rfl, rfl, rfl, rfl⟩

theorem State.endRecord_abandoned_conn (h : s.slot k = some sl) (n : ConnId) :
    (s.endRecord k .abandoned).conn n = if n = sl.record.conn then s.abandonedConn n else s.conn n := by
  rw [State.endRecord_conn h]
  split
  · rename_i own
    simp [own, State.endedConn, State.abandonedConn]
  · rfl

/-- A record ended has no deferred hold left, and another one's is as it was. -/
theorem State.endRecord_abandoned_chatterDue (h : s.slot k = some sl) (n : ConnId) :
    (s.endRecord k .abandoned).chatterDue n = if n = sl.record.conn then false else s.chatterDue n := by
  have params : (s.endRecord k .abandoned).params = s.params := by simp
  rw [State.chatterDue, State.endRecord_abandoned_conn h, params]
  split <;> rfl

/-- An ending of one slot's record changes nothing in what an ending makes of any record. -/
theorem State.endRecord_abandonedConn (h : s.slot k = some sl) (n : ConnId) :
    (s.endRecord k .abandoned).abandonedConn n = s.abandonedConn n := by
  rw [State.abandonedConn, State.endRecord_abandoned_conn h, State.endRecord_abandoned_chatterDue h]
  split <;> rfl

theorem State.endedHistory_cons (h : s.slot k = some sl) (ended : List (MoveRec × Result)) :
    s.endedHistory ((sl.record, .abandoned) :: ended) = (s.endRecord k .abandoned).endedHistory ended := by
  rw [State.endRecord_eq h]
  rfl

theorem State.abandoned_nil (s : State) : State.Abandoned [] s s where
  slot j := by simp
  conn n := by simp [State.recordsIn]
  history := rfl
  statuses := ⟨false, by simp, by simp [State.recordsIn]⟩
  polls j hj := ⟨hj, by simp⟩
  rest := rfl

/-- One slot's record ended before those of other slots. -/
theorem State.Abandoned.cons {ks : List SlotId} (fresh : k ∉ ks) (h : State.Abandoned ks (s.endRecord k .abandoned) t) :
    State.Abandoned (k :: ks) s t := by
  cases own : s.slot k with
  | none =>
    have same : s.endRecord k .abandoned = s := by simp [State.endRecord, own]
    rw [same] at h
    have records : s.recordsIn (k :: ks) = s.recordsIn ks := by rw [State.recordsIn_cons, own]
    refine ⟨fun j => ?_, ?_, ?_, ?_, fun j hj => ⟨(h.polls j hj).1, fun mem => ?_⟩, h.rest⟩
    · rw [h.slot]
      by_cases e : j = k <;> simp [e, own]
    · rw [records]; exact h.conn
    · rw [records]; exact h.history
    · rw [records]; exact h.statuses
    · rcases List.mem_cons.mp mem with rfl | mem
      · exact own
      · exact (h.polls j hj).2 mem
  | some sl =>
    have records : s.recordsIn (k :: ks) = sl.record :: s.recordsIn ks := by rw [State.recordsIn_cons, own]
    have later : (s.endRecord k .abandoned).recordsIn ks = s.recordsIn ks :=
      State.recordsIn_congr fun j hj => by
        have ne : j ≠ k := fun e => fresh (e ▸ hj)
        rw [State.endRecord_slot own, if_neg ne]
    refine ⟨fun j => ?_, fun n => ?_, ?_, ?_, fun j hj => ?_, ?_⟩
    · rw [h.slot, State.endRecord_slot own]
      by_cases e : j = k <;> simp [e]
    · rw [h.conn, State.endRecord_abandonedConn own, State.endRecord_abandoned_conn own, records, later]
      by_cases e : n = sl.record.conn
      · simp [e]
      · simp [e, Ne.symm e]
    · rw [h.history, records, later, List.map_cons, State.endedHistory_cons own]
    · obtain ⟨held, statuses, iff⟩ := h.statuses
      refine ⟨s.chatterDue sl.record.conn || held, ?_, ?_⟩
      · rw [statuses, State.endRecord_eq own]
        cases s.chatterDue sl.record.conn <;> cases held <;> simp [Result.failed, BitVec.or_assoc]
      · rw [Bool.or_eq_true, iff, records, later]
        simp only [State.endRecord_abandoned_chatterDue own]
        constructor
        · rintro (due | ⟨n, hr, due⟩)
          · exact ⟨_, ⟨_, List.mem_cons_self, rfl⟩, due⟩
          · obtain ⟨r, mem, conn⟩ := hr
            split at due
            · simp at due
            · exact ⟨n, ⟨r, List.mem_cons_of_mem _ mem, conn⟩, due⟩
        · rintro ⟨n, ⟨r, mem, conn⟩, due⟩
          by_cases e : n = sl.record.conn
          · exact .inl (e ▸ due)
          · refine .inr ⟨n, ⟨r, ?_, conn⟩, by rw [if_neg e]; exact due⟩
            exact (List.mem_cons.mp mem).resolve_left fun same => e (by rw [← conn, same])
    · obtain ⟨old, gone⟩ := h.polls j hj
      rw [State.endRecord_eq own] at old
      obtain ⟨old, other⟩ := List.mem_filter.mp old
      have ne : j ≠ k := bne_iff_ne.mp other
      refine ⟨old, fun mem => ?_⟩
      rw [← gone ((List.mem_cons.mp mem).resolve_left ne), State.endRecord_slot own, if_neg ne]
    · exact h.rest.trans (by rw [State.endRecord_eq own])

theorem State.abandonSlots_abandoned (s : State) : State.Abandoned allSlots s s.abandonSlots := by
  have each : ∀ (ks : List SlotId) (s : State), ks.Nodup →
      State.Abandoned ks s (ks.foldl (fun s k => s.endRecord k .abandoned) s) := by
    intro ks
    induction ks with
    | nil => exact fun s _ => s.abandoned_nil
    | cons k ks ih =>
      intro s distinct
      obtain ⟨fresh, distinct⟩ := List.nodup_cons.mp distinct
      exact .cons fresh (ih _ distinct)
  exact each allSlots s (by decide)

/-! ### The links of the queries (R118) -/

/-- The ports once the links of the queries that await an answer are answered BUSY. -/
def busyPorts (qs : List Query) (ports : PerLink Port) : PerLink Port :=
  qs.foldl (fun ps q => if q.answered then ps else ps.set q.link ((ps.get q.link).answered [0x07])) ports

theorem State.answerBusy_foldl (qs : List Query) (s : State) :
    qs.foldl State.answerBusy s = { s with ports := busyPorts qs s.ports } := by
  induction qs generalizing s with
  | nil => rfl
  | cons q qs ih =>
    have step : s.answerBusy q = { s with
        ports := if q.answered then s.ports else s.ports.set q.link ((s.ports.get q.link).answered [0x07]) } := by
      unfold State.answerBusy
      cases q.answered <;> rfl
    rw [List.foldl_cons, ih, step]
    rfl

theorem get_busyPorts (qs : List Query) (ports : PerLink Port) (x : Link) :
    (busyPorts qs ports).get x =
      if ∃ q ∈ qs, q.link = x ∧ q.answered = false then (ports.get x).answered [0x07] else ports.get x := by
  have twice : ∀ (p : Port) (reply : List Byte), (p.answered reply).answered reply = p.answered reply := fun p _ => by
    cases h : p.answer <;> simp [Port.answered, h]
  induction qs generalizing ports with
  | nil => simp [busyPorts]
  | cons q qs ih =>
    cases h : q.answered
    · have step : busyPorts (q :: qs) ports = busyPorts qs (ports.set q.link ((ports.get q.link).answered [0x07])) := by
        simp [busyPorts, h]
      rw [step, ih]
      by_cases own : q.link = x
      · subst own
        simp [h, twice]
      · rw [PerLink.get_set_ne _ _ (Ne.symm own)]
        simp [own]
    · have step : busyPorts (q :: qs) ports = busyPorts qs ports := by simp [busyPorts, h]
      rw [step, ih]
      simp [h]

/-! ### The fresh start of a supply warning (R159, R173 step 7) -/

/-- With no slot occupied and nothing queued a supply warning that starts hands nothing back (R77). -/
theorem State.handBackAll_of_empty (slots : ∀ k, s.slot k = none) (queue : s.mvq.queue = []) : s.handBackAll = s := by
  have stage : ∀ k, s.slotStage k ≠ some .waitBreak := fun k => by simp [State.slotStage_of_none (slots k)]
  simp [State.handBackAll, allSlots, stage, queue, State.trimQueue]

/-- The mode RESTART leaves (R173). -/
def restartMode (supply : SupplyState) : Mode := if supply = .clear then .base .config else .rideThrough .config

theorem State.freshSupplyStart_eq (slots : ∀ k, s.slot k = none) (queue : s.mvq.queue = [])
    (mode : s.mdc.mode = .base .config) : s.freshSupplyStart = s.setMode (restartMode s.ilu.supply) := by
  have same : s.setMode (.base .config) = s := by rw [← mode]; rfl
  have starts : s.supplyStart = s.setMode (.rideThrough .config) := by
    rw [State.supplyStart, mode]
    exact State.handBackAll_of_empty slots queue
  cases supply : s.ilu.supply <;> simp [State.freshSupplyStart, supply, restartMode, same, starts]

/-- Nothing of the bus but the verify polls differs once the probes start afresh on either side. -/
theorem freshProbes_of_polls {b c : Sbc} (h : b = { c with verifyPolls := b.verifyPolls }) (qs : List Query) :
    { b with queries := qs, probePos := 0, lastProbe := Vector.replicate 96 none } =
      { c with
        verifyPolls := b.verifyPolls, queries := qs, probePos := 0, lastProbe := Vector.replicate 96 none } := by
  conv_lhs => rw [h]

/-! ### RESTART, whole (R173) -/

/-- What RESTART leaves of a state, once the records in slots have ended and left the state v. -/
def State.restarted (s v : State) : State :=
  { v with
    conns := mapAll restartConn (unlinkConns v.conns s.mvq.queue)
    mvq := { v.mvq with queue := [], history := v.endedHistory (s.mvq.queue.map fun r => (r, .abandoned)) }
    fmu := { s.fmu with chan := s.fmu.chan.map clearAccumulator, disturbed := true }
    bpl := { plan := none, rescue := none }
    sbc := { v.sbc with
      queries := (s.sbc.queries.filter (·.onBus)).map fun q => { q with answered := true }
      probePos := 0, lastProbe := Vector.replicate 96 none }
    ports := busyPorts s.sbc.queries s.ports
    mdc := { s.mdc with mode := restartMode s.ilu.supply }
    evu := { v.evu with statuses := v.evu.statuses ||| 0x8000 } }

theorem State.restart_eq (s : State) :
    ∃ v, State.Abandoned allSlots (s.setMode (.base .config)) v ∧ s.restart = s.restarted v := by
  obtain ⟨v, hv⟩ : ∃ v, (s.setMode (.base .config)).abandonSlots = v := ⟨_, rfl⟩
  have abandoned := hv ▸ (s.setMode (.base .config)).abandonSlots_abandoned
  have queue : v.mvq.queue = s.mvq.queue := by rw [abandoned.rest]; rfl
  have queries : v.sbc.queries = s.sbc.queries := by rw [abandoned.rest]; rfl
  have fmu : v.fmu = s.fmu := by rw [abandoned.rest]; rfl
  have ports : v.ports = s.ports := by rw [abandoned.rest]; rfl
  have ilu : v.ilu = s.ilu := by rw [abandoned.rest]; rfl
  have mdc : v.mdc = { s.mdc with mode := .base .config } := by rw [abandoned.rest]; rfl
  obtain ⟨w, hw⟩ : ∃ w, { s.restarted v with mdc := v.mdc, evu := v.evu } = w := ⟨_, rfl⟩
  have slots : ∀ k, w.slot k = none := fun k => by
    rw [← hw]
    exact (abandoned.slot k).trans (if_pos (by revert k; decide))
  have fresh : w.freshSupplyStart = w.setMode (restartMode s.ilu.supply) := by
    have supply : w.ilu = s.ilu := by rw [← hw]; exact ilu
    rw [← supply]
    exact State.freshSupplyStart_eq slots (by rw [← hw]; rfl) (by rw [← hw]; exact congrArg Mdc.mode mdc)
  have before : s.restart = w.freshSupplyStart.raise .restarted := by
    rw [State.restart, hv, State.endAllQueued_eq v rfl, ← hw]
    simp only [State.clearProbes, State.clearAccumulators, State.disturb, State.restartQueries, State.answerBusy_foldl,
      State.restarted, queue, queries, fmu, ports]
  refine ⟨v, abandoned, ?_⟩
  rw [before, fresh, ← hw]
  simp only [State.setMode, State.raise, State.restarted, mdc]
  rfl

/-- The command, carried out at a free port of the in-control link (R173, R176). -/
theorem exec_restart {lk : Link} {tag : Byte} (free : s.portFree lk) (auth : s.mdc.authority = lk) :
    exec (.restart lk tag []) s = .next (((s.asking lk 0x32 tag).restart).setReply lk [0x00]).settle := by
  have asked : doRestart lk [] (s.asking lk 0x32 tag) = okWith [] (s.asking lk 0x32 tag).restart :=
    controlled_inControl _ _ _ _ auth
  have taken : takeRequest lk 0x32 tag (doRestart lk []) s = ((s.asking lk 0x32 tag).restart).setReply lk [0x00] := by
    rw [takeRequest_of_free _ _ _ _ _ free, asked]
    rfl
  exact settled_congr taken

theorem State.restarted_conn (s v : State) (n : ConnId) : (s.restarted v).conn n = restartConn (v.conn n) := by
  have unlinked : ∀ c : Conn, restartConn c.unlinked = restartConn c := fun _ => rfl
  refine (getElem_mapAll restartConn (unlinkConns v.conns s.mvq.queue) n n.isLt).trans ?_
  refine (congrArg restartConn (getElem_unlinkConns _ _ n)).trans ?_
  split
  · exact unlinked _
  · rfl

theorem State.endedHistory_append (s : State) (xs ys : List (MoveRec × Result)) :
    s.endedHistory (xs ++ ys) =
      ys.foldl (fun h x => pushHistory h (historyEntry x.1 x.2 s.tbs.epoch s.tbs.timeOfDay)) (s.endedHistory xs) :=
  List.foldl_append

/-- The port of another link than the asking one, once RESTART has answered the queries and set its own reply. -/
theorem restart_otherPort (s : State) {lk x : Link} {code tag : Byte} (other : x ≠ lk) (qs : List Query)
    (reply : List Byte) :
    ((busyPorts qs (s.asking lk code tag).ports).set lk (Port.answered
      ((busyPorts qs (s.asking lk code tag).ports).get lk) reply)).get x =
      if ∃ q ∈ qs, q.link = x ∧ q.answered = false then (s.port x).answered [0x07] else s.port x := by
  have port : (s.asking lk code tag).ports.get x = s.port x := PerLink.get_set_ne _ _ other
  rw [PerLink.get_set_ne _ _ other, get_busyPorts, port]

/-- The port of the asking link answers its own request, whatever queries of that link stood in the list. -/
theorem restart_ownPort (s : State) {lk : Link} {code tag : Byte} (qs : List Query) (reply : List Byte) :
    (((busyPorts qs (s.asking lk code tag).ports).set lk (Port.answered
      ((busyPorts qs (s.asking lk code tag).ports).get lk) reply)).get lk).answer = .answering code tag (some reply) := by
  have port : (s.asking lk code tag).ports.get lk = (s.port lk).asked code tag := PerLink.get_set_same _ _ _
  rw [PerLink.get_set_same, get_busyPorts, port]
  split <;> rfl

theorem getLsbD_chatterHold : ∀ (held : Bool) (b : Nat), b < 16 →
    (if held then 0x0100 else 0 : Half).getLsbD b = (held && decide (b = 8)) := by decide

theorem getLsbD_restarted : ∀ b, b < 16 → (0x8000 : Half).getLsbD b = decide (b = 15) := by decide

end Sys2Proof.Machine

open Sys2Proof Sys2Proof.Machine

/-- Settles O32: from the whole state RESTART leaves (`State.restart_eq`), field by field. -/
theorem restartTaken : Obligations.RestartTaken := by
  intro s lk tag free auth
  obtain ⟨v, abandoned, restart⟩ := (s.asking lk 0x32 tag).restart_eq
  obtain ⟨params, classes, ilu, esm, tbs, seqs, accepts, admits, now, pending, smp, sbc⟩ := abandoned.keeps
  obtain ⟨slots, conns, history, ⟨held, statuses, deferred⟩, polls, _⟩ := abandoned
  have all : ∀ k, k ∈ allSlots := by decide
  replace conns : ∀ n, v.conn n = if ∃ r ∈ s.slotRecords, r.conn = n then s.abandonedConn n else s.conn n := conns
  replace deferred : held = true ↔ ∃ n, (∃ r ∈ s.slotRecords, r.conn = n) ∧ s.chatterDue n = true := deferred
  simp only [s.chatterDue_iff] at deferred
  obtain ⟨t, ht⟩ : ∃ t, ((s.asking lk 0x32 tag).restarted v).setReply lk [0x00] = t := ⟨_, rfl⟩
  have bits : ∀ b, b < 16 → conditionMask.getLsbD b = false → t.settle.evu.statuses.getLsbD b
      = (s.evu.statuses.getLsbD b || (held && decide (b = 8)) || decide (b = 15)) := fun b hb edge => by
    have left : t.evu.statuses = s.evu.statuses ||| (if held then 0x0100 else 0) ||| 0x8000 := by
      rw [← ht]
      exact congrArg (· ||| (0x8000 : Half)) statuses
    rw [State.settle_edge _ hb edge, left, BitVec.getLsbD_or, BitVec.getLsbD_or, getLsbD_restarted b hb,
      getLsbD_chatterHold held b hb]
  have ports : t.ports = (busyPorts s.sbc.queries (s.asking lk 0x32 tag).ports).set lk (Port.answered
      ((busyPorts s.sbc.queries (s.asking lk 0x32 tag).ports).get lk) [0x00]) := by rw [← ht]; rfl
  have conn : ∀ n, t.conn n = restartConn (v.conn n) := fun n => by
    rw [← ht]
    exact State.restarted_conn _ v n
  rw [exec_restart free auth, restart, ht]
  refine ⟨_, rfl, ?_, ?_, ?_, fun k => ?_, ?_, ⟨fun n => ⟨(v.conn n).hold, fun h => ?_, fun h => ?_, ?_⟩, ?_⟩,
    fun p => ?_, ?_, ?_, ?_, ?_, ?_, fun q hq cmd tg waits other port => ?_, fun x other answered => ?_, ?_,
    fun b hb => ?_, ?_, ?_, ?_, ?_, ?_, ?_, ?_, ?_, ?_, ?_, ?_, ?_, ?_, ?_, fun k hk => ?_, ?_⟩
  · rw [State.port, State.settle_ports, ports]
    exact restart_ownPort s _ _
  · rw [← ht]; rfl
  · rw [← ht]; rfl
  · rw [← ht]
    exact (slots k).trans (if_pos (all k))
  · rw [← ht, List.map_append, State.endedHistory_append]
    show v.endedHistory _ = _
    rw [State.endedHistory, tbs, history]
    rfl
  · rw [conns, if_pos h.1]
    exact if_pos ((s.chatterDue_iff n).mpr h.2)
  · rw [conns]
    split
    · next touched => exact if_neg fun e => h ⟨touched, (s.chatterDue_iff n).mp e⟩
    · rfl
  · rw [show t.settle.conn n = t.conn n from rfl, conn, conns]
    split <;> rfl
  · rw [bits 8 (by decide) (by decide)]
    simp [deferred]
  · rw [← ht]
    exact PerPhase.get_map _ _ p
  · rw [← ht]; rfl
  · rw [← ht]; rfl
  · rw [← ht]; rfl
  · rw [← ht]; rfl
  · rw [← ht]; rfl
  · rw [State.port, State.settle_ports, ports]
    refine (restart_otherPort s other _ _).trans ((if_pos ⟨q, hq, rfl, waits⟩).trans ?_)
    simp only [Port.answered, port]
  · rw [State.port, State.settle_ports, ports]
    refine (restart_otherPort s other _ _).trans (if_neg ?_)
    rintro ⟨q, hq, own, waits⟩
    simp [answered q hq own] at waits
  · rw [bits 15 (by decide) (by decide)]
    simp
  · simp only [List.mem_cons, List.not_mem_nil, or_false] at hb
    rcases hb with rfl | rfl | rfl | rfl | rfl | rfl | rfl <;> rw [bits _ (by decide) (by decide)] <;> simp
  · rw [← ht]; rfl
  · rw [← ht]; exact params
  · rw [← ht]; exact classes
  · rw [← ht]; exact ilu
  · rw [← ht]; exact esm
  · rw [← ht]; exact tbs
  · rw [← ht]; exact seqs
  · rw [← ht]; exact accepts
  · rw [← ht]; exact admits
  · rw [← ht]; exact now
  · rw [← ht]; exact pending
  · rw [← ht]; exact (congrArg Smp.latched smp :)
  · rw [← ht]; exact (congrArg Smp.bit smp :)
  · rw [← ht]; exact (congrArg Smp.selectLow smp :)
  · rw [← ht] at hk
    exact (polls k hk).2 (all k)
  · rw [← ht]
    exact freshProbes_of_polls sbc _
end

section
/-! The figures of a completed cycle (R30) and the health table (R33). -/

namespace Sys2Proof.Machine

open Sys2Proof

/-! ### The root and the RMS (R30) -/

/-- The powers of 2 below 2^k, the highest first. -/
def powersDown : Nat → List Nat
  | 0 => []
  | k + 1 => 2 ^ k :: powersDown k

theorem isqrt14_eq (x : Nat) : isqrt14 x = isqrtFrom x (powersDown 14) 0 := rfl

/-- A root built from r by k bits is the root of x, or all of its bits are set. -/
theorem isqrtFrom_spec (x k r : Nat) (low : r * r ≤ x) :
    let q := isqrtFrom x (powersDown k) r
    q * q ≤ x ∧ (x < (q + 1) * (q + 1) ∨ q + 1 = r + 2 ^ k) := by
  induction k generalizing r with
  | zero => exact ⟨low, .inr rfl⟩
  | succ k ih =>
    have halves : 2 ^ (k + 1) = 2 ^ k + 2 ^ k := by omega
    dsimp only [powersDown, isqrtFrom]
    split
    · next fits =>
      obtain ⟨root, above⟩ := ih (r + 2 ^ k) fits
      exact ⟨root, above.imp_right fun full => by omega⟩
    · next beyond =>
      obtain ⟨root, above⟩ := ih r low
      refine ⟨root, .inl (above.elim id fun full => ?_)⟩
      rw [full]
      omega

/-- An RMS is the cap, or the greatest tenth whose square is at most the mean square. -/
theorem rmsTenths_spec {cap n : Nat} (sumSq : Nat) (capped : cap < 2 ^ 14) (samples : 0 < n) :
    let r := rmsTenths cap sumSq n
    r ≤ cap ∧ r * r * (n * 10000) ≤ sumSq ∧ (r < cap → sumSq < (r + 1) * (r + 1) * (n * 10000)) := by
  have positive : 0 < n * 10000 := by omega
  obtain ⟨root, above⟩ := isqrtFrom_spec (sumSq / (n * 10000)) 14 0 (Nat.zero_le _)
  rw [← isqrt14_eq] at root above
  refine ⟨min_le_left _ _, ?_, fun below => ?_⟩
  · rw [← Nat.le_div_iff_mul_le positive]
    exact (Nat.mul_self_le_mul_self (min_le_right _ _)).trans root
  · have uncapped : rmsTenths cap sumSq n = isqrt14 (sumSq / (n * 10000)) :=
      min_eq_right ((min_lt_iff.mp below).resolve_left (lt_irrefl _)).le
    rw [← Nat.div_lt_iff_lt_mul positive, uncapped]
    exact above.resolve_right (by omega)

/-! ### The health table (R33) -/

theorem bandRuns_of_inBand {p : Params} {ch : PhaseChannel} {rms : Nat} (h : inBand p rms = true) :
    bandRuns p ch rms = { ch with lossRun := 0, outRun := 0, inRun := min p.restoreCount (ch.inRun + 1) } := if_pos h

theorem bandRuns_of_outOfBand {p : Params} {ch : PhaseChannel} {rms : Nat} (h : inBand p rms = false) :
    bandRuns p ch rms = { ch with
      inRun := 0, outRun := min 10 (ch.outRun + 1)
      lossRun := if rms < p.vLoss then min 3 (ch.lossRun + 1) else 0 } := if_neg (by simp [h])

theorem enterHealth_health (ch : PhaseChannel) (h : Health) : (enterHealth ch h).health = h := by
  unfold enterHealth
  split
  · assumption
  · cases h <;> rfl

theorem enterHealth_lost {ch : PhaseChannel} (h : ch.health ≠ .lost) :
    enterHealth ch .lost = { ch with health := .lost, outRun := 0, inRun := 0 } := if_neg h

theorem enterHealth_recovering {ch : PhaseChannel} (h : ch.health ≠ .recovering) :
    enterHealth ch .recovering = { ch with health := .recovering, inRun := 1 } := if_neg h

theorem evaluate_eq (p : Params) (ch : PhaseChannel) (rms : Nat) :
    evaluate p ch rms = enterHealth (bandRuns p ch rms) (nextHealth p (bandRuns p ch rms) rms) := rfl

theorem evaluate_health (p : Params) (ch : PhaseChannel) (rms : Nat) :
    (evaluate p ch rms).health = nextHealth p (bandRuns p ch rms) rms := enterHealth_health _ _

theorem bandRuns_health (p : Params) (ch : PhaseChannel) (rms : Nat) : (bandRuns p ch rms).health = ch.health := by
  unfold bandRuns
  split <;> rfl

/-- The loss run is full exactly after a third loss cycle. -/
theorem bandRuns_lossRun {p : Params} {ch : PhaseChannel} {rms : Nat} (out : inBand p rms = false)
    (run : ch.lossRun ≤ 3) :
    (bandRuns p ch rms).lossRun = 3 ↔ rms < p.vLoss ∧ 2 ≤ ch.lossRun := by
  rw [bandRuns_of_outOfBand out]
  dsimp only
  split <;> omega

theorem bandRuns_lossRun_le {p : Params} {ch : PhaseChannel} {rms : Nat} : (bandRuns p ch rms).lossRun ≤ 3 := by
  unfold bandRuns
  split
  · exact Nat.zero_le _
  · dsimp only
    split <;> omega

section Rows

variable {p : Params} {ch : PhaseChannel} {rms : Nat}

/-- A loss cycle is out of band, the limits being in their ranges. -/
theorem inBand_of_loss (range : p.inRange) (loss : rms < p.vLoss) : inBand p rms = false := by
  obtain ⟨⟨low, -⟩, -, ⟨-, high⟩, -⟩ := range
  simp only [inBand, decide_eq_false_iff_not]
  omega

/-- Row 1: a third loss cycle in a row takes a phase LOST. -/
theorem evaluate_third_loss (range : p.inRange) (live : ch.health ≠ .lost) (loss : rms < p.vLoss)
    (run : ch.lossRun = 2 ∨ ch.lossRun = 3) :
    evaluate p ch rms = { bandRuns p ch rms with health := .lost, outRun := 0, inRun := 0 } := by
  have full : (bandRuns p ch rms).lossRun = 3 :=
    (bandRuns_lossRun (inBand_of_loss range loss) (by omega)).mpr ⟨loss, by omega⟩
  have live' : (bandRuns p ch rms).health ≠ .lost := by rwa [bandRuns_health]
  rw [evaluate_eq, nextHealth, if_pos ⟨live', full⟩, enterHealth_lost live']

/-- Row 2: a tenth cycle out of band takes a phase DEGRADED, if it does not take it LOST. -/
theorem nextHealth_tenth_out (well : ch.health ≠ .degraded) (out : inBand p rms = false) (lossRun : ch.lossRun ≤ 3)
    (noLoss : ¬ (rms < p.vLoss ∧ 2 ≤ ch.lossRun)) (run : 9 ≤ ch.outRun) :
    nextHealth p (bandRuns p ch rms) rms = .degraded := by
  have partly : (bandRuns p ch rms).lossRun ≠ 3 := mt (bandRuns_lossRun out lossRun).mp noLoss
  have full : (bandRuns p ch rms).outRun = 10 := by
    rw [bandRuns_of_outOfBand out]
    dsimp only
    omega
  have below : (bandRuns p ch rms).lossRun < 3 := lt_of_le_of_ne bandRuns_lossRun_le partly
  rw [nextHealth, if_neg fun h => partly h.2, if_pos ⟨by rwa [bandRuns_health], full, below⟩]

/-- In band the two rows of the runs do not apply. -/
theorem nextHealth_inBand (h : inBand p rms = true) :
    nextHealth p (bandRuns p ch rms) rms =
      if ch.health = .degraded ∨ ch.health = .lost then .recovering
      else if ch.health = .recovering ∧ p.restoreCount ≤ ch.inRun + 1 then .healthy
      else ch.health := by
  simp [nextHealth, bandRuns_of_inBand h, h]

/-- The last row: a healthy phase out of band, neither run at its end, stays as it was. -/
theorem nextHealth_healthy_out (healthy : ch.health = .healthy) (out : inBand p rms = false) (lossRun : ch.lossRun < 2)
    (outRun : ch.outRun < 9) : nextHealth p (bandRuns p ch rms) rms = .healthy := by
  have partly : (bandRuns p ch rms).lossRun ≠ 3 := mt (bandRuns_lossRun out (by omega)).mp (by omega)
  have few : (bandRuns p ch rms).outRun ≠ 10 := by
    rw [bandRuns_of_outOfBand out]
    dsimp only
    omega
  simp [nextHealth, partly, few, bandRuns_health, healthy]

end Rows

end Sys2Proof.Machine

open Sys2Proof Sys2Proof.Machine

/-- Settles O55: the root's defining bounds, then the health table row by row. -/
theorem cyclesFormedAndJudged : Obligations.CyclesFormedAndJudged := by
  refine ⟨fun x samples => ?_, fun p ch rms range lossRun outRun => ?_⟩
  · obtain ⟨cap, root, above⟩ := rmsTenths_spec x.vv (show 4000 < 2 ^ 14 by decide) samples
    exact ⟨cap, root, above, rfl⟩
  · have band (b : Bool) : (decide (rms < p.vLow) || decide (p.vHigh < rms)) = b → inBand p rms = !b := by
      rintro rfl
      rw [Bool.eq_iff_iff]
      simp [inBand]
    refine ⟨fun live loss run => ?_, fun well out noLoss run => ?_, fun short isIn => ?_, fun recovering isIn run => ?_,
      fun recovering isIn run => ?_, fun healthy isIn => ?_, fun healthy out loss run => ?_⟩
    · rw [evaluate_third_loss range live loss run]
      exact ⟨rfl, rfl, rfl⟩
    · rw [evaluate_health, nextHealth_tenth_out well (band _ out) lossRun noLoss run]
    · have entered : (bandRuns p ch rms).health ≠ .recovering := by
        rw [bandRuns_health]
        rcases short with h | h <;> simp [h]
      rw [evaluate_eq, nextHealth_inBand (band _ isIn), if_pos short, enterHealth_recovering entered]
      exact ⟨rfl, rfl⟩
    · rw [evaluate_health, nextHealth_inBand (band _ isIn)]
      simp [recovering, run]
    · rw [evaluate_health, nextHealth_inBand (band _ isIn)]
      simp [recovering, run]
    · rw [evaluate_health, nextHealth_inBand (band _ isIn)]
      simp [healthy]
    · rw [evaluate_health, nextHealth_healthy_out healthy (band _ out) loss run]
end

section
/-! One sample pair through the glitch filter (R28): an equation for each of its branches. -/

namespace Sys2Proof.Machine

open Sys2Proof

variable {s : State} {p : Phase} {v i : Int}

theorem exec_samplePair (s : State) (p : Phase) (v i : Int) :
    exec (.samplePair p v i) s = .next (s.takeSample p v i).settle := rfl

theorem exec_acceptedCrossing (s : State) (p : Phase) (v i : Int) :
    exec (.acceptedCrossing p v i) s = .next (s.takeSample p v i).settle := rfl

/-- The clock at a channel's next sample. -/
def State.atSample (s : State) (p : Phase) : State := s.atInstant ((s.chan p).sampledAt + (s.chan p).interval)

/-- A channel that has taken a sample of a sign. -/
def PhaseChannel.sampledSign (ch : PhaseChannel) (pos : Bool) : PhaseChannel :=
  { ch with sampledAt := ch.sampledAt + ch.interval, lastSign := some pos }

/-- A sample of the accepted sign joins the cycle in progress with the run before it. -/
theorem State.takeSample_agreeing {sign : Bool} (accepted : (s.chan p).sign = some sign)
    (agrees : decide (0 < v) = sign) :
    s.takeSample p v i = (s.atSample p).setChan p { (s.chan p).sampledSign sign with
      run := 0, runSums := noSums
      cycle := addToCycle (s.chan p).cycle (addSums (s.chan p).runSums (sumsOf v i)) } := by
  simp only [State.takeSample, accepted, agrees, if_true, State.atSample, PhaseChannel.sampledSign]

/-- A sample that breaks away, before the fourth, lengthens the run. -/
theorem State.takeSample_breaking {sign : Bool} (accepted : (s.chan p).sign = some sign)
    (breaks : decide (0 < v) ≠ sign) (early : (s.chan p).run < 3) :
    s.takeSample p v i = (s.atSample p).setChan p { (s.chan p).sampledSign (decide (0 < v)) with
      run := (s.chan p).run + 1
      runPlace := if (s.chan p).run = 0 then (s.chan p).sampledAt + (s.chan p).interval else (s.chan p).runPlace
      runSums := if (s.chan p).run = 0 then sumsOf v i else addSums (s.chan p).runSums (sumsOf v i) } := by
  have short : ¬ 4 ≤ (s.chan p).run + 1 := by omega
  simp only [State.takeSample, accepted, breaks, if_false, short, State.atSample, PhaseChannel.sampledSign]

/-- The fourth sample that breaks away accepts its sign: a negative-going crossing ends there, a positive-going one is
handed on with the place and the sums of its run. -/
theorem State.takeSample_fourth {sign : Bool} (accepted : (s.chan p).sign = some sign)
    (breaks : decide (0 < v) ≠ sign) (fourth : (s.chan p).run = 3) :
    s.takeSample p v i =
      let ch := { (s.chan p).sampledSign (decide (0 < v)) with
        sign := some (decide (0 < v)), run := 0, runSums := noSums }
      let sums := addSums (s.chan p).runSums (sumsOf v i)
      if 0 < v then ((s.atSample p).setChan p ch).positiveCrossing p (s.chan p).runPlace sums
      else (s.atSample p).setChan p { ch with cycle := addToCycle (s.chan p).cycle sums } := by
  simp [State.takeSample, accepted, breaks, fourth, State.atSample, PhaseChannel.sampledSign]

/-- With no accepted sign the run counts samples of one sign, and the fourth accepts it. -/
theorem State.takeSample_unsigned (unsigned : (s.chan p).sign = none) :
    s.takeSample p v i =
      let run := if (s.chan p).lastSign = some (decide (0 < v)) then (s.chan p).run + 1 else 1
      (s.atSample p).setChan p { (s.chan p).sampledSign (decide (0 < v)) with
        sign := if 4 ≤ run then some (decide (0 < v)) else none
        run := if 4 ≤ run then 0 else run } := by
  obtain ⟨run, hrun⟩ :
    ∃ run, (if (s.chan p).lastSign = some (decide (0 < v)) then (s.chan p).run + 1 else 1) = run := ⟨_, rfl⟩
  have last : ((s.atInstant ((s.chan p).sampledAt + (s.chan p).interval)).chan p).lastSign = (s.chan p).lastSign := rfl
  simp only [State.takeSample, unsigned, last, hrun, State.atSample, PhaseChannel.sampledSign]
  by_cases full : 4 ≤ run <;> simp [full]

end Sys2Proof.Machine

open Sys2Proof Sys2Proof.Machine

/-- Settles O53: the branch of the filter that the accepted sign and the run select. -/
theorem samplePairFiltered : Obligations.SamplePairFiltered := by
  refine fun s p v i => ⟨fun sign accepted agrees => ?_, fun sign accepted breaks early => ?_,
    fun accepted negative fourth => ?_, fun unsigned => ⟨_, exec_samplePair s p v i, ?_⟩⟩
  · rw [exec_samplePair, State.takeSample_agreeing accepted agrees]
    rfl
  · rw [exec_samplePair, State.takeSample_breaking accepted breaks early]
    rfl
  · have sign : decide (0 < v) = false := decide_eq_false (by omega)
    rw [exec_acceptedCrossing, State.takeSample_fourth accepted (by simp [sign]) fourth, sign]
    dsimp only
    rw [if_neg (by omega)]
    rfl
  · have taken := State.takeSample_unsigned (v := v) (i := i) unsigned
    have chan : (s.takeSample p v i).settle.chan p = _ :=
      (congrArg (fun t : State => t.chan p) taken).trans (State.chan_setChan_same _ _ _)
    have sbc : (s.takeSample p v i).settle.sbc = s.sbc := (congrArg State.sbc taken :)
    rw [chan]
    refine ⟨fun same fourth => ?_, fun same early => ?_, fun other => ?_, rfl, sbc⟩
    · simp [same, fourth]
    · have short : ¬ 3 ≤ (s.chan p).run := by omega
      simp [same, short]
    · simp [other]
end

section
/-! A change of a phase's health at the slots (R88, R97, R99): what one slot becomes, and that what the slots after
it do leaves it so. -/

namespace Sys2Proof.Machine

open Sys2Proof

variable {s t u : State} {k : SlotId} {sl : Slot} {bt m : Nat}

/-! ### The newest history entries (R82) -/

theorem reverse_pushHistory (h : List HistEntry) (e : HistEntry) :
    (pushHistory h e).reverse = (e :: h.reverse).take (h.length + 1 - (h.length + 1 - 32)) := by
  simp [pushHistory, Config.historyPlaces, List.reverse_drop]

/-- One of the newest entries is still among them after one more, while all have a place. -/
theorem mem_newest_pushHistory {h : List HistEntry} {e x : HistEntry} {m : Nat} (places : m < 32)
    (mem : x ∈ h.reverse.take m) : x ∈ (pushHistory h e).reverse.take (m + 1) := by
  rw [reverse_pushHistory, List.take_take]
  by_cases short : h.length ≤ m
  · rw [List.take_of_length_le (by simp only [List.length_cons, List.length_reverse]; omega)]
    exact List.mem_cons_of_mem _ (List.mem_of_mem_take mem)
  · rw [show min (m + 1) (h.length + 1 - (h.length + 1 - 32)) = m + 1 by omega, List.take_succ_cons]
    exact List.mem_cons_of_mem _ mem

/-! ### What the slots leave of a state when they work out where they stand -/

/-- A state t is one that s has become by changes of slots and at most m endings DARK: beside the slots and the history
only the records of ended transfers, the verify polls and the edge statuses of an ending have changed. -/
structure State.SlotsTurned (m : Nat) (s t : State) : Prop where
  fmu : t.fmu = s.fmu
  now : t.now = s.now
  bpl : t.bpl = s.bpl
  mvq : t.mvq = { s.mvq with history := t.mvq.history }
  sbc : t.sbc = { s.sbc with verifyPolls := t.sbc.verifyPolls }
  restored : t.evu.statuses.getLsbD 3 = s.evu.statuses.getLsbD 3
  timing : ∀ n, t.timing n = s.timing n
  dark : ∀ n, (s.conn n).dark = true → (t.conn n).dark = true
  unlinked : ∀ n, (s.conn n).recordLink = none → (t.conn n).recordLink = none
  newest : m < 32 → ∀ e, s.mvq.history.getLast? = some e → e ∈ t.mvq.history.reverse.take (m + 1)

namespace State.SlotsTurned

theorem refl (s : State) : SlotsTurned 0 s s where
  fmu := rfl
  now := rfl
  bpl := rfl
  mvq := rfl
  sbc := rfl
  restored := rfl
  timing _ := rfl
  dark _ := id
  unlinked _ := id
  newest _ e last := by
    obtain ⟨h, eq⟩ := List.getLast?_eq_some_iff.mp last
    simp [eq]

theorem succ (h : SlotsTurned m s t) : SlotsTurned (m + 1) s t :=
  { h with newest := fun few e last => List.take_subset_take_left _ (by omega) (h.newest (by omega) e last) }

theorem setSlot (h : SlotsTurned m s t) {x : Option Slot} : SlotsTurned m s (t.setSlot k x) := { h with }

theorem modSlot (h : SlotsTurned m s t) {f : Slot → Slot} : SlotsTurned m s (t.modSlot k f) := by
  unfold State.modSlot
  split
  · exact h.setSlot
  · exact h

theorem endRecord (h : SlotsTurned m s t) : SlotsTurned (m + 1) s (t.endRecord k .dark) := by
  cases slot : t.slot k with
  | none => simpa [State.endRecord, slot] using h.succ
  | some sl =>
    have conn := State.endRecord_conn slot .dark
    have eq := State.endRecord_eq slot .dark
    refine ⟨?_, ?_, ?_, ?_, ?_, ?_, fun n => ?_, fun n dark => ?_, fun n free => ?_, fun few e last => ?_⟩
    · rw [eq]; exact h.fmu
    · rw [eq]; exact h.now
    · rw [eq]; exact h.bpl
    · rw [eq, h.mvq]
    · rw [eq, h.sbc]
    · rw [← h.restored, eq]
      cases t.chatterDue sl.record.conn <;> simp [Result.failed]
    · refine (State.timing_congr (by simp) ?_).trans (h.timing n)
      rw [conn]
      split
      · next own => rw [own]; rfl
      · rfl
    · rw [conn]
      split
      · rfl
      · exact h.dark n dark
    · rw [conn]
      split
      · rfl
      · exact h.unlinked n free
    · rw [eq]
      exact mem_newest_pushHistory few (h.newest (by omega) e last)

theorem enterOrphaned (h : SlotsTurned m s t) : SlotsTurned (m + 1) s (t.enterOrphaned k) := by
  unfold State.enterOrphaned
  split
  · dsimp only
    split
    · exact h.setSlot.endRecord
    · exact h.setSlot.succ
  · exact h.succ

theorem holdWaitReturn (h : SlotsTurned m s t) : SlotsTurned (m + 1) s (t.holdWaitReturn k) := by
  unfold State.holdWaitReturn
  split
  · split
    · exact h.enterOrphaned
    · exact h.succ
  · exact h.succ

theorem recheckSlot (h : SlotsTurned m s t) : SlotsTurned (m + 1) s (t.recheckSlot k) := by
  unfold State.recheckSlot
  split
  · split
    · split
      · exact h.modSlot.holdWaitReturn
      · exact h.succ
    · exact h.holdWaitReturn
    all_goals exact h.succ
  · exact h.succ

theorem foldl (h : SlotsTurned m s t) (ks : List SlotId) :
    SlotsTurned (m + ks.length) s (ks.foldl State.recheckSlot t) := by
  induction ks generalizing m t with
  | nil => exact h
  | cons k ks ih =>
    rw [List.length_cons, Nat.add_comm ks.length, ← Nat.add_assoc]
    exact ih h.recheckSlot

theorem returnable_iff (h : SlotsTurned m s t) (r : MoveRec) : t.returnable r bt ↔ s.returnable r bt := by
  simp only [State.returnable, State.health, State.chan, h.fmu, h.now, h.timing]

end State.SlotsTurned

theorem State.OnlySlot.recheckSlot (h : OnlySlot k s t) : OnlySlot k s (t.recheckSlot k) := by
  unfold State.recheckSlot
  split
  · split
    · split
      · exact h.enterWaitReturn
      · exact h
    · exact h.holdWaitReturn
    all_goals exact h
  · exact h

/-! ### One slot -/

/-- What a slot is held at when its return cannot be made: ORPHANED, or ended DARK (R87, R88, R101). -/
def State.holdOpen (s : State) (k : SlotId) (sl : Slot) (breakTime : Nat) : State :=
  if s.now < breakTime + msToTicks ((s.timing sl.record.conn).orphan + 1000) then
    s.setSlot k (some { sl with stage := .orphaned, verifyDue := some (s.sbc.frame + 1) })
  else s.endRecord k .dark

/-- The slot held open stays so while other slots are turned. -/
theorem State.heldOpen_of_holdOpen (h : s.slot k = some sl) (later : State.SlotsTurned m (s.holdOpen k sl bt) t)
    (few : m < 32) (slot : t.slot k = (s.holdOpen k sl bt).slot k) : t.heldOpen sl bt (t.slot k) := by
  unfold State.holdOpen at later slot
  unfold State.heldOpen
  by_cases early : s.now < bt + msToTicks ((s.timing sl.record.conn).orphan + 1000)
  · rw [if_pos early] at later slot
    have frame : t.sbc.frame = s.sbc.frame := by rw [later.sbc]; rfl
    rw [if_pos (by rw [later.now, later.timing]; exact early), slot, State.slot_setSlot_same, frame]
  · rw [if_neg early] at later slot
    have before := (State.SlotsTurned.refl s).endRecord (k := k)
    have own := (State.endRecord_conn h .dark sl.record.conn).trans (if_pos rfl)
    rw [if_neg (by rw [later.now, later.timing, before.now, before.timing]; exact early), slot,
      State.endRecord_slot h, if_pos rfl]
    refine ⟨rfl, later.dark _ (by rw [own]; rfl), later.unlinked _ (by rw [own]; rfl),
      historyEntry sl.record .dark s.tbs.epoch s.tbs.timeOfDay, ?_, rfl, rfl⟩
    refine List.mem_reverse.mp (List.mem_of_mem_take (later.newest few _ ?_))
    rw [State.endRecord_eq h]
    exact getLast?_pushHistory _ _

/-- A slot at WAIT_RETURN works out its return phase again (R88, R99). -/
theorem State.holdWaitReturn_eq (h : s.slot k = some sl) (hb : sl.record.breakTime = some bt) :
    s.holdWaitReturn k = if s.returnable sl.record bt then s else s.holdOpen k sl bt := by
  have leaves : (s.returnPhase sl.record).isNone = true ∨ s.reached (s.orphanInstant sl.record) = true
      ↔ ¬ s.returnable sl.record bt := by
    rw [State.returnPhase_isNone, State.orphanInstant, hb, Option.map_some, State.reached_some, State.returnable,
      not_and_or, not_lt]
  have open_ : s.enterOrphaned k = s.holdOpen k sl bt := by
    rw [State.enterOrphaned_eq h hb, State.setSlot_slot h]
    rfl
  simp only [State.holdWaitReturn, h, leaves, open_, ite_not]

theorem State.turnBack_eq (h : s.slot k = some sl) :
    s.turnBack k sl bt = if s.returnable sl.record bt then
        s.setSlot k (some { sl with stage := .waitReturn, verifyDue := none })
      else s.holdOpen k sl bt := by
  rw [State.turnBack, State.setSlot_slot h]
  rfl

/-- What a recheck has made of a slot, in a state that later rechecks of other slots left. -/
theorem State.rechecked_of_recheckSlot (h : s.slot k = some sl) (later : State.SlotsTurned m (s.recheckSlot k) t)
    (few : m < 32) (slot : t.slot k = (s.recheckSlot k).slot k) : t.rechecked sl (t.slot k) := by
  have before := (State.SlotsTurned.refl s).recheckSlot (k := k)
  have health (p : Phase) : t.health p = s.health p := by
    simp only [State.health, State.chan, later.fmu, before.fmu]
  have returnable (bt : Nat) : t.returnable sl.record bt ↔ s.returnable sl.record bt :=
    (later.returnable_iff _).trans (before.returnable_iff _)
  have stays (e : s.recheckSlot k = s) : t.slot k = some sl := by rw [slot, e, h]
  unfold State.rechecked
  cases stage : sl.stage
  case waitMake =>
    have eq : s.recheckSlot k = if s.health sl.record.target ≠ .healthy then s.enterWaitReturn k else s := by
      simp only [State.recheckSlot, h, stage]
    refine ⟨fun healthy => stays ?_, fun unhealthy bt hb => ?_⟩
    · rw [eq, if_neg (not_not.mpr (health _ ▸ healthy))]
    · rw [if_pos (health _ ▸ unhealthy), State.enterWaitReturn_eq h hb, State.turnBack_eq h] at eq
      unfold State.turnedBack
      by_cases back : s.returnable sl.record bt
      · rw [if_pos ((returnable bt).mpr back), slot, eq, if_pos back, State.slot_setSlot_same]
      · rw [if_neg back] at eq
        rw [if_neg (mt (returnable bt).mp back)]
        exact State.heldOpen_of_holdOpen h (eq ▸ later) few (eq ▸ slot)
  case waitReturn =>
    intro bt hb
    have eq : s.recheckSlot k = s.holdWaitReturn k := by simp only [State.recheckSlot, h, stage]
    rw [State.holdWaitReturn_eq h hb] at eq
    refine ⟨fun back => stays ?_, fun away => ?_⟩
    · rw [eq, if_pos ((returnable bt).mp back)]
    · rw [if_neg (mt (returnable bt).mpr away)] at eq
      exact State.heldOpen_of_holdOpen h (eq ▸ later) few (eq ▸ slot)
  all_goals exact stays (by simp only [State.recheckSlot, h, stage])

theorem State.recheckSlot_of_free (h : s.slot k = none) : s.recheckSlot k = s := by simp [State.recheckSlot, h]

/-! ### All four slots -/

/-- A slot that is not rechecked is as it was. -/
theorem State.foldl_recheckSlot_other (ks : List SlotId) (s : State) (out : k ∉ ks) :
    (ks.foldl State.recheckSlot s).slot k = s.slot k := by
  induction ks generalizing s with
  | nil => rfl
  | cons j ks ih =>
    rw [List.mem_cons, not_or] at out
    exact (ih (s.recheckSlot j) out.2).trans (State.OnlySlot.refl.recheckSlot.others k out.1)

/-- Every rechecked slot is what the recheck makes of it in the end, and a free slot stays free. -/
theorem State.foldl_recheckSlot_spec (ks : List SlotId) (s : State) (distinct : ks.Nodup) (few : ks.length < 32)
    (mem : k ∈ ks) :
    let t := ks.foldl State.recheckSlot s
    (∀ sl, s.slot k = some sl → t.rechecked sl (t.slot k)) ∧ (s.slot k = none → t.slot k = none) := by
  induction ks generalizing s with
  | nil => cases mem
  | cons j ks ih =>
    obtain ⟨fresh, distinct⟩ := List.nodup_cons.mp distinct
    rw [List.length_cons] at few
    by_cases own : k = j
    · subst own
      have slot := State.foldl_recheckSlot_other ks (s.recheckSlot k) fresh
      refine ⟨fun sl h => ?_, fun h => slot.trans (by rw [State.recheckSlot_of_free h, h])⟩
      exact State.rechecked_of_recheckSlot h ((State.SlotsTurned.refl _).foldl ks) (by omega) slot
    · have other : (s.recheckSlot j).slot k = s.slot k := State.OnlySlot.refl.recheckSlot.others k own
      rw [← other]
      exact ih (s.recheckSlot j) distinct (by omega) ((List.mem_cons.mp mem).resolve_left own)

theorem mem_allSlots : ∀ k : SlotId, k ∈ allSlots := by decide

theorem State.recheckSlots_turned (s : State) : State.SlotsTurned 4 s s.recheckSlots :=
  (State.SlotsTurned.refl s).foldl allSlots

theorem State.recheckSlots_rechecked (h : s.slot k = some sl) : s.recheckSlots.rechecked sl (s.recheckSlots.slot k) :=
  (State.foldl_recheckSlot_spec allSlots s (by decide) (by decide) (mem_allSlots k)).1 sl h

theorem State.recheckSlots_free (h : s.slot k = none) : s.recheckSlots.slot k = none :=
  (State.foldl_recheckSlot_spec allSlots s (by decide) (by decide) (mem_allSlots k)).2 h

end Sys2Proof.Machine
end

section
/-! A change of a phase's health handed on (R35), the neutral windows (R31), and the loss of a phase without crossings
(R34). -/

namespace Sys2Proof.Machine

open Sys2Proof

variable {s t : State} {p : Phase} {old : Health}

/-! ### Rescue passes and the status PHASE_RESTORED (R35, R64, R81) -/

/-- A record displaced raises nothing. -/
theorem State.makeRoom_evu (s : State) : s.makeRoom.evu = s.evu := by
  unfold State.makeRoom
  split
  · split
    · rw [State.endQueued_eq _ _ rfl]
    · rfl
  · rfl

theorem Pass.place_evu (a : Pass) (n : ConnId) (x y : Phase) (l : Int) : (a.place n x y l).state.evu = a.state.evu := by
  unfold Pass.place
  split
  · rfl
  · simp [State.makeRoom_evu]

theorem Pass.examine_evu (a : Pass) (n : ConnId) : (a.examine n).state.evu = a.state.evu := by
  unfold Pass.examine
  split
  · rfl
  · split
    · rfl
    · dsimp only
      split
      · rfl
      · exact a.place_evu _ _ _ _

theorem Pass.foldl_examine_evu (l : List ConnId) (a : Pass) : (l.foldl Pass.examine a).state.evu = a.state.evu := by
  induction l generalizing a with
  | nil => rfl
  | cons n l ih => exact (ih _).trans (a.examine_evu n)

/-- A rescue pass raises at most RESCUE_STARTED. -/
theorem State.rescuePass_restored (s : State) (cause : RescueCause) :
    (s.rescuePass cause).evu.statuses.getLsbD 3 = s.evu.statuses.getLsbD 3 := by
  unfold State.rescuePass
  dsimp only
  split
  · simp [Pass.foldl_examine_evu]
  · simp [Pass.foldl_examine_evu, EventKind.mask, EventKind.bit]

/-! ### What is told before the slots are (R35, log 22) -/

/-- A state in which a phase has left a health: leaving HEALTHY disturbs the epoch (R41). -/
def State.leaving (s : State) (old : Health) : State :=
  { s with fmu := { s.fmu with disturbed := s.fmu.disturbed || decide (old = .healthy) } }

theorem State.leaving_eq (s : State) (old : Health) : (if old = .healthy then s.disturb else s) = s.leaving old := by
  unfold State.leaving
  split
  · simp [*, State.disturb]
  · simp [*]

/-- The planner told of a loss, or the phase's entry into HEALTHY noted. -/
def State.told (s : State) (p : Phase) : State :=
  match s.health p with
  | .lost => if (s.chan p).started then s.reportLoss else s
  | .healthy => s.enteredHealthy p
  | .degraded | .recovering => s

theorem State.reportLoss_health (s : State) (q : Phase) : s.reportLoss.health q = s.health q := by
  simp [State.health, State.chan]

theorem State.healthChanged_of_same (h : s.health p = old) : s.healthChanged p old = s := if_pos h

theorem State.healthChanged_of_changed (h : s.health p ≠ old) :
    s.healthChanged p old = ((s.leaving old).told p).realign.recheckSlots := by
  have health : (s.leaving old).health p = s.health p := rfl
  unfold State.healthChanged
  rw [if_neg h]
  dsimp only
  rw [State.leaving_eq]
  unfold State.told
  rw [health]
  cases now : s.health p
  case lost =>
    by_cases started : ((s.leaving old).chan p).started = true
    · have lost : (s.leaving old).reportLoss.health p = .lost := by rw [State.reportLoss_health, health, now]
      simp [started, lost]
    · simp [health, now, started]
  all_goals simp [health, now]

/-! ### The reference and the neutral windows (R31, R110) -/

theorem State.realign_eq (s : State) : ∃ n, s.realign = { s with
    sbc := { s.sbc with alignment := firstNotLost s.fmu.chan }, fmu := { s.fmu with neutral := n } } := by
  by_cases same : firstNotLost s.fmu.chan = s.sbc.alignment
  · exact ⟨s.fmu.neutral, by rw [State.realign, if_pos same, same]⟩
  · exact ⟨_, if_neg same⟩

theorem State.closeNeutralWindow_eq (s : State) (p : Phase) (c : Option OpenCycle) :
    ∃ n, s.closeNeutralWindow p c = s.setNeutral n := by
  unfold State.closeNeutralWindow
  split
  · split
    · exact ⟨_, rfl⟩
    · exact ⟨s.fmu.neutral, rfl⟩
  · exact ⟨s.fmu.neutral, rfl⟩

theorem State.openNeutralWindow_eq (s : State) (p : Phase) (place : Nat) :
    ∃ n, s.openNeutralWindow p place = s.setNeutral n := by
  unfold State.openNeutralWindow
  split
  · exact ⟨_, rfl⟩
  · exact ⟨s.fmu.neutral, rfl⟩

/-! ### A change handed on (R35) -/

/-- What a state t is that a change of the health of p, from an old one, has left of a state s that shows the change. -/
structure State.HandedOn (p : Phase) (old : Health) (s t : State) : Prop where
  chan : ∀ q, t.chan q = if q = p then
    { s.chan p with started := (s.chan p).started || decide (s.health p = .healthy) } else s.chan q
  disturbed : t.fmu.disturbed = (s.fmu.disturbed || decide (old = .healthy))
  restored : t.evu.statuses.getLsbD 3
    = (s.evu.statuses.getLsbD 3 || (decide (s.health p = .healthy) && (s.chan p).started))
  loss : s.health p = .lost → s.lossReported t p
  noLoss : s.health p ≠ .lost → t.bpl = s.bpl ∧ t.mvq.queue = s.mvq.queue ∧ t.mvq.seqCounter = s.mvq.seqCounter
  aligned : t.aligned
  now : t.now = s.now
  boundary : t.sbc.boundaryDue = s.sbc.boundaryDue ∧ t.sbc.boundaryAt = s.sbc.boundaryAt
    ∧ t.sbc.framePeriod = s.sbc.framePeriod
  slots : ∀ k sl, s.slot k = some sl → t.rechecked sl (t.slot k)
  free : ∀ k, s.slot k = none → t.slot k = none

/-- A channel whose phase enters HEALTHY counts as started from then on. -/
theorem State.told_chan (s : State) (p q : Phase) :
    (s.told p).chan q = if q = p then
      { s.chan p with started := (s.chan p).started || decide (s.health p = .healthy) } else s.chan q := by
  have same (u : State) (fmu : u.fmu = s.fmu)
      (idle : ((s.chan p).started || decide (s.health p = .healthy)) = (s.chan p).started) :
      u.chan q = if q = p then
        { s.chan p with started := (s.chan p).started || decide (s.health p = .healthy) } else s.chan q := by
    rw [State.chan, fmu, idle]
    split
    · next own => rw [own]; rfl
    · rfl
  unfold State.told
  split
  · next now =>
    split
    · exact same _ (by simp) (by simp [now])
    · exact same _ rfl (by simp [now])
  · next now =>
    unfold State.enteredHealthy
    split
    · next started => exact same _ rfl (by simp [started])
    · by_cases own : q = p
      · simp [own, now]
      · simp [own, s.chan_setChan_ne _ own]
  all_goals
    next now => exact same _ rfl (by simp [now])

theorem State.told_frame (s : State) (p : Phase) :
    (s.told p).now = s.now ∧ (s.told p).txe = s.txe ∧ (s.told p).sbc = s.sbc
      ∧ (s.told p).fmu.disturbed = s.fmu.disturbed := by
  unfold State.told
  split
  · split <;> simp
  · unfold State.enteredHealthy
    split <;> simp
  all_goals exact ⟨rfl, rfl, rfl, rfl⟩

theorem State.told_restored (s : State) (p : Phase) :
    (s.told p).evu.statuses.getLsbD 3
      = (s.evu.statuses.getLsbD 3 || (decide (s.health p = .healthy) && (s.chan p).started)) := by
  have reported : s.reportLoss.evu.statuses.getLsbD 3 = s.evu.statuses.getLsbD 3 := by
    unfold State.reportLoss
    split
    · exact s.rescuePass_restored .loss
    · rfl
  unfold State.told
  split
  · next now =>
    split
    · rw [reported]
      simp [now]
    · simp [now]
  · next now =>
    unfold State.enteredHealthy
    split
    · next started => simp [now, started, EventKind.mask, EventKind.bit]
    · next started => simp [now, started]
  all_goals
    next now => simp [now]

theorem State.told_noLoss (h : s.health p ≠ .lost) : (s.told p).bpl = s.bpl ∧ (s.told p).mvq = s.mvq := by
  unfold State.told
  split
  · next now => exact absurd now h
  · simp
  all_goals exact ⟨rfl, rfl⟩

/-- The planner's part of a loss: the pass on the state as it stands, or nothing (R59). -/
theorem State.told_loss (h : s.health p = .lost) :
    s.told p = if s.modeName = .auto ∧ s.params.rescue = true ∧ (s.chan p).started = true then s.rescuePass .loss
      else s := by
  simp only [State.told, h, State.reportLoss, State.rescueAllowed_iff]
  split
  · next started => simp [started]
  · next idle => simp [idle]

/-- A loss reported in a state that samples have brought from s is reported in s. -/
theorem State.lossReported_of_sampled {x : Nat} {f : Fmu} (started : (f.chan.get p).started = (s.chan p).started)
    (averages : f.averages = s.fmu.averages) (h : State.lossReported { s with now := x, fmu := f } t p) :
    s.lossReported t p := by
  have started' : (State.chan { s with now := x, fmu := f } p).started = (s.chan p).started := started
  unfold State.lossReported at h ⊢
  rw [started'] at h
  by_cases pass : s.modeName = .auto ∧ s.params.rescue = true ∧ (s.chan p).started = true
  · rw [if_pos pass]
    rw [if_pos (by exact pass)] at h
    obtain ⟨u, hu, chan, same, rest⟩ := h
    exact ⟨u, hu, chan, same.trans averages, rest⟩
  · rw [if_neg pass]
    rw [if_neg (by exact pass)] at h
    exact h

/-- The planner's part of a loss is all that the state keeps of it beside the slots, their endings and the alignment. -/
theorem State.lossReported_of_told (h : s.health p = .lost) (chan : t.fmu.chan = (s.told p).fmu.chan)
    (bpl : t.bpl = (s.told p).bpl) (queue : t.mvq.queue = (s.told p).mvq.queue)
    (seq : t.mvq.seqCounter = (s.told p).mvq.seqCounter) : s.lossReported t p := by
  rw [State.told_loss h] at chan bpl queue seq
  unfold State.lossReported
  split
  · next pass =>
    rw [if_pos pass] at chan bpl queue seq
    exact ⟨s, rfl, by simp [chan], rfl, bpl, queue, seq⟩
  · next none =>
    rw [if_neg none] at bpl queue seq
    exact ⟨bpl, queue, seq⟩

theorem State.healthChanged_handedOn (h : s.health p ≠ old) : State.HandedOn p old s (s.healthChanged p old) := by
  obtain ⟨now, txe, sbc, disturbed⟩ := (s.leaving old).told_frame p
  obtain ⟨n, realigned⟩ := ((s.leaving old).told p).realign_eq
  rw [State.healthChanged_of_changed h]
  obtain ⟨v, hv⟩ : ∃ v, ((s.leaving old).told p).realign = v := ⟨_, rfl⟩
  rw [hv] at realigned ⊢
  have turned := v.recheckSlots_turned
  have slot (k : SlotId) : v.slot k = s.slot k := by
    rw [realigned]
    exact congrArg (fun x : Txe => x.slots[k]) txe
  have rechecked (k : SlotId) (sl : Slot) : s.slot k = some sl → v.recheckSlots.rechecked sl (v.recheckSlots.slot k) :=
    fun occupied => State.recheckSlots_rechecked ((slot k).trans occupied)
  have free (k : SlotId) : s.slot k = none → v.recheckSlots.slot k = none :=
    fun free => State.recheckSlots_free ((slot k).trans free)
  obtain ⟨t, ht⟩ : ∃ t, v.recheckSlots = t := ⟨_, rfl⟩
  rw [ht] at turned rechecked free ⊢
  subst realigned
  have queue : t.mvq.queue = ((s.leaving old).told p).mvq.queue := by rw [turned.mvq]
  have seq : t.mvq.seqCounter = ((s.leaving old).told p).mvq.seqCounter := by rw [turned.mvq]
  exact
    { chan := fun q => (congrArg (fun f : Fmu => f.chan.get q) turned.fmu).trans ((s.leaving old).told_chan p q)
      disturbed := (congrArg Fmu.disturbed turned.fmu).trans disturbed
      restored := turned.restored.trans ((s.leaving old).told_restored p)
      loss := fun lost => State.lossReported_of_sampled (x := s.now) (f := (s.leaving old).fmu) rfl rfl <|
        State.lossReported_of_told (s := s.leaving old) lost (congrArg Fmu.chan turned.fmu :) turned.bpl queue seq
      noLoss := fun live => by
        obtain ⟨bpl, mvq⟩ := State.told_noLoss (s := s.leaving old) live
        exact ⟨turned.bpl.trans bpl, queue.trans (congrArg Mvq.queue mvq), seq.trans (congrArg Mvq.seqCounter mvq)⟩
      aligned := by rw [State.aligned, turned.sbc, turned.fmu]
      now := turned.now.trans now
      boundary := by
        rw [turned.sbc]
        exact ⟨(congrArg Sbc.boundaryDue sbc :), (congrArg Sbc.boundaryAt sbc :), (congrArg Sbc.framePeriod sbc :)⟩
      slots := rechecked
      free := free }
end Sys2Proof.Machine
end

section
/-! The neutral windows (R31) and the loss of a phase without crossings (R34). -/

namespace Sys2Proof.Machine

open Sys2Proof

variable {s : State} {p : Phase} {samples : List Int}

/-! ### The end of a neutral window (R31) -/

theorem exec_neutralWindowEnd_of_length (h : s.windowLength = some samples.length) :
    exec (.neutralWindowEnd samples) s = .next (s.takeWindow.neutralWindow (neutralRms samples)).settle := if_pos h

theorem exec_neutralWindowEnd_of_other (h : s.windowLength ≠ some samples.length) :
    exec (.neutralWindowEnd samples) s = .next s.settle := if_neg h

theorem State.windowLength_of_ready (h : s.fmu.neutral.windowReady = true) :
    s.windowLength = some s.fmu.neutral.windowCount := if_pos h

/-- With all phases LOST a window holds 128 samples. -/
theorem State.windowLength_of_all_lost (waits : s.fmu.neutral.windowReady = false) (lost : ∀ p, s.health p = .lost) :
    s.windowLength = some 128 := by
  have none_left : firstNotLost s.fmu.chan = none := by
    refine List.find?_eq_none.mpr fun p _ => ?_
    simp [show (s.fmu.chan.get p).health = .lost from lost p]
  simp [State.windowLength, waits, none_left]

theorem State.takeWindow_of_ready (h : s.fmu.neutral.windowReady = true) :
    s.takeWindow = s.setNeutral { s.fmu.neutral with windowReady := false } := if_pos h

theorem State.takeWindow_of_own_clock {start : Nat} (waits : s.fmu.neutral.windowReady = false)
    (since : s.fmu.neutral.windowStart = some start) :
    s.takeWindow = (s.atInstant (start + s.period)).setNeutral
      { s.fmu.neutral with windowStart := some (start + s.period) } := by
  simp [State.takeWindow, waits, since]

theorem State.neutralWindow_neutral (s : State) (rms : Nat) :
    (s.neutralWindow rms).fmu.neutral = neutralStep s.params.neutralLimit s.fmu.neutral rms := by
  unfold State.neutralWindow
  dsimp only
  split
  · simp [State.setNeutral]
  · rfl

theorem neutralStep_keeps (limit : Nat) (n : Neutral) (rms : Nat) :
    (neutralStep limit n rms).latest = some rms ∧ (neutralStep limit n rms).windowReady = n.windowReady := by
  unfold neutralStep
  dsimp only
  repeat' split
  all_goals exact ⟨rfl, rfl⟩

/-- With the condition clear, windows above the limit are counted, and the fiftieth sets it. -/
theorem neutralStep_of_clear {limit rms : Nat} {n : Neutral} (clear : n.overcurrent = false) :
    neutralStep limit n rms =
      let run := if limit < rms then n.overRun + 1 else 0
      if 50 ≤ run then { n with latest := some rms, overcurrent := true, overRun := 0, underRun := 0 }
      else { n with latest := some rms, overRun := run } :=
  if_neg (by simp [clear])

/-- With the condition set, windows below the clear level are counted, and the fiftieth clears it. -/
theorem neutralStep_of_set {limit rms : Nat} {n : Neutral} (set : n.overcurrent = true) :
    neutralStep limit n rms =
      let run := if rms < limit * 9 / 10 then n.underRun + 1 else 0
      if 50 ≤ run then { n with latest := some rms, overcurrent := false, overRun := 0, underRun := 0 }
      else { n with latest := some rms, underRun := run } :=
  if_pos set

/-! ### No crossing for two periods (R34) -/

theorem lossOfCrossings_of_live {ch : PhaseChannel} (live : ch.health ≠ .lost) :
    lossOfCrossings ch = { ch with
      noCrossing := true, cycle := none, health := .lost, lossRun := 0, outRun := 0, inRun := 0 } := if_neg live

theorem lossOfCrossings_of_lost {ch : PhaseChannel} (lost : ch.health = .lost) :
    lossOfCrossings ch = { ch with noCrossing := true, cycle := none } := if_pos lost

/-- A state in which a phase has gone two nominal periods without a crossing. -/
def State.crossingsLost (s : State) (p : Phase) : State :=
  (s.atInstant ((s.chan p).lastCrossing + 2 * s.period)).setChan p (lossOfCrossings (s.chan p))

theorem exec_noCrossingLoss (h : (s.chan p).noCrossing = false) :
    exec (.noCrossingLoss p) s = .next ((s.crossingsLost p).healthChanged p (s.chan p).health).settle :=
  if_neg (by simp [h])

theorem State.crossingsLost_chan (s : State) (p : Phase) : (s.crossingsLost p).chan p = lossOfCrossings (s.chan p) :=
  State.chan_setChan_same _ _ _

theorem State.crossingsLost_chan_ne {q : Phase} (h : q ≠ p) : (s.crossingsLost p).chan q = s.chan q :=
  State.chan_setChan_ne _ _ h

/-- The clock is at the end of the two periods, and the planner's part is on the state that shows the loss. -/
theorem State.crossingsLost_handedOn (live : (s.chan p).health ≠ .lost) :
    let t := (s.crossingsLost p).healthChanged p (s.chan p).health
    State.HandedOn p (s.chan p).health (s.crossingsLost p) t ∧ s.lossReported t p := by
  have chan := s.crossingsLost_chan p
  rw [lossOfCrossings_of_live live] at chan
  have lost : (s.crossingsLost p).health p = .lost := by rw [State.health, chan]
  have handed := State.healthChanged_handedOn (s := s.crossingsLost p) (p := p) (old := (s.chan p).health)
    (by rw [lost]; exact live.symm)
  refine ⟨handed, State.lossReported_of_sampled (x := (s.crossingsLost p).now) (f := (s.crossingsLost p).fmu) ?_ rfl
    (handed.loss lost)⟩
  exact (congrArg PhaseChannel.started chan :)

end Sys2Proof.Machine

open Sys2Proof Sys2Proof.Machine

/-- Settles O56: the loss through what a handed-on change leaves, the windows through the condition's two tables. -/
theorem lossAndNeutralEvents : Obligations.LossAndNeutralEvents := by
  refine ⟨fun s p crossing => ?_, fun s samples ready length => ?_, fun s samples start waits lost since => ⟨?_, ?_⟩,
    fun s samples ready length => ?_, fun s p c x reference since => ⟨?_, rfl⟩⟩
  · refine ⟨_, exec_noCrossingLoss crossing, ?_⟩
    by_cases lost : (s.chan p).health = .lost
    · have chan := s.crossingsLost_chan p
      rw [lossOfCrossings_of_lost lost] at chan
      have health : (s.crossingsLost p).health p = .lost := by rw [State.health, chan]; exact lost
      rw [State.healthChanged_of_same (health.trans lost.symm)]
      refine ⟨health, ?_, ?_, rfl, fun live => absurd lost live, fun _ => ⟨?_, rfl, rfl, rfl, rfl, rfl⟩, fun q ne => ?_,
        fun healthy => ?_⟩
      · exact congrArg PhaseChannel.noCrossing chan
      · exact congrArg PhaseChannel.cycle chan
      · rw [State.settle_fmu, State.crossingsLost, lossOfCrossings_of_lost lost]
        rfl
      · exact congrArg PhaseChannel.health (State.crossingsLost_chan_ne ne)
      · exact absurd (healthy.symm.trans lost) (by decide)
    · obtain ⟨handed, loss⟩ := State.crossingsLost_handedOn lost
      have own := (handed.chan p).trans (if_pos rfl)
      rw [s.crossingsLost_chan p, lossOfCrossings_of_live lost] at own
      refine ⟨?_, ?_, ?_, handed.now, fun _ => ⟨?_, ?_, ?_, handed.aligned, loss, handed.slots, handed.free⟩,
        fun was => absurd was lost, fun q ne => ?_, fun healthy => ?_⟩
      · exact congrArg PhaseChannel.health own
      · exact congrArg PhaseChannel.noCrossing own
      · exact congrArg PhaseChannel.cycle own
      · exact congrArg PhaseChannel.lossRun own
      · exact congrArg PhaseChannel.outRun own
      · exact congrArg PhaseChannel.inRun own
      · have other := ((handed.chan q).trans (if_neg ne)).trans (State.crossingsLost_chan_ne ne)
        exact congrArg PhaseChannel.health other
      · have was : (s.chan p).health = .healthy := healthy
        exact handed.disturbed.trans (by simp [was])
  · have window : s.windowLength = some samples.length := by rw [State.windowLength_of_ready ready, length]
    obtain ⟨n, hn⟩ : ∃ n, { s.fmu.neutral with windowReady := false } = n := ⟨_, rfl⟩
    have neutral : (s.takeWindow.neutralWindow (neutralRms samples)).settle.fmu.neutral
        = neutralStep s.params.neutralLimit n (neutralRms samples) := by
      rw [State.settle_fmu, State.neutralWindow_neutral, State.takeWindow_of_ready ready, hn]
      rfl
    obtain ⟨latest, taken⟩ := neutralStep_keeps s.params.neutralLimit n (neutralRms samples)
    refine ⟨_, exec_neutralWindowEnd_of_length window, ?_⟩
    rw [neutral]
    refine ⟨latest, taken.trans (by rw [← hn]), fun clear => ?_, fun set => ?_⟩
    · rw [neutralStep_of_clear (by rw [← hn]; exact clear), ← hn]
      refine ⟨fun below => ?_, fun above early => ?_, fun above last => ?_⟩
      · simp [Nat.not_lt.mpr below, clear]
      · simp [above, Nat.not_le.mpr early, clear]
      · simp [above, last]
    · rw [neutralStep_of_set (by rw [← hn]; exact set), ← hn]
      refine ⟨fun above => ?_, fun below early => ?_, fun below last => ?_⟩
      · simp [Nat.not_lt.mpr above, set]
      · simp [below, Nat.not_le.mpr early, set]
      · simp [below, last]
  · intro length
    rw [exec_neutralWindowEnd_of_length (by rw [State.windowLength_of_all_lost waits lost, length]),
      State.takeWindow_of_own_clock waits since]
  · intro length
    exact exec_neutralWindowEnd_of_other fun h =>
      length (Option.some.inj (h.symm.trans (State.windowLength_of_all_lost waits lost)))
  · exact exec_neutralWindowEnd_of_other fun h =>
      length (Option.some.inj (h.symm.trans (State.windowLength_of_ready ready)))
  · simp [State.closeNeutralWindow, reference, since]
end

section
/-! An accepted positive-going crossing (R27 to R30, R33, R35, R109). -/

namespace Sys2Proof.Machine

open Sys2Proof

variable {s : State} {p : Phase} {v i : Int}

/-! ### What an evaluation reads and writes (R33) -/

/-- A channel with the health and the three runs of another. -/
def PhaseChannel.judgedAs (ch d : PhaseChannel) : PhaseChannel :=
  { ch with health := d.health, lossRun := d.lossRun, outRun := d.outRun, inRun := d.inRun }

/-- An evaluation reads and writes the health and the runs alone. -/
theorem evaluate_judgedAs (p : Params) (ch d : PhaseChannel) (rms : Nat) :
    evaluate p (ch.judgedAs d) rms = ch.judgedAs (evaluate p d rms) := by
  have runs : bandRuns p (ch.judgedAs d) rms = ch.judgedAs (bandRuns p d rms) := by
    unfold bandRuns
    split <;> rfl
  have entered (d : PhaseChannel) (h : Health) : enterHealth (ch.judgedAs d) h = ch.judgedAs (enterHealth d h) := by
    by_cases same : d.health = h
    · exact (if_pos same).trans (congrArg ch.judgedAs (if_pos same).symm)
    · unfold enterHealth
      rw [if_neg same, if_neg (by exact same)]
      cases h <;> rfl
  rw [evaluate_eq, runs]
  exact entered _ _

/-! ### A health change or none (R35) -/

/-- What handing on leaves of the channels and of the flags, whether the health has changed from the old one or not. -/
theorem State.healthChanged_spec (s : State) (p : Phase) (old : Health) :
    let t := s.healthChanged p old
    let restored := old ≠ .healthy ∧ s.health p = .healthy
    (∀ q, t.chan q = if q = p then { s.chan p with started := (s.chan p).started || decide restored } else s.chan q)
      ∧ (t.fmu.disturbed = true ↔ s.fmu.disturbed = true ∨ (old = .healthy ∧ s.health p ≠ .healthy))
      ∧ (t.evu.statuses.getLsbD 3 = true ↔
        s.evu.statuses.getLsbD 3 = true ∨ (restored ∧ (s.chan p).started = true))
      ∧ (old = .lost ∨ s.health p ≠ .lost →
        t.bpl = s.bpl ∧ t.mvq.queue = s.mvq.queue ∧ t.mvq.seqCounter = s.mvq.seqCounter)
      ∧ t.now = s.now ∧ t.sbc.boundaryDue = s.sbc.boundaryDue ∧ t.sbc.boundaryAt = s.sbc.boundaryAt
      ∧ t.sbc.framePeriod = s.sbc.framePeriod := by
  by_cases same : s.health p = old
  · have never : ¬ (old ≠ .healthy ∧ s.health p = .healthy) := fun h => h.1 (same.symm.trans h.2)
    have stays : ¬ (old = .healthy ∧ s.health p ≠ .healthy) := fun h => h.2 (same.trans h.1)
    rw [State.healthChanged_of_same same]
    refine ⟨fun q => ?_, by simp [stays], by simp [never], fun _ => ⟨rfl, rfl, rfl⟩, rfl, rfl, rfl, rfl⟩
    rw [decide_eq_false never, Bool.or_false]
    split
    · next own => rw [own]
    · rfl
  · have handed := State.healthChanged_handedOn same
    have restored : (old ≠ .healthy ∧ s.health p = .healthy) ↔ s.health p = .healthy :=
      ⟨And.right, fun h => ⟨fun e => same (h.trans e.symm), h⟩⟩
    have left : (old = .healthy ∧ s.health p ≠ .healthy) ↔ old = .healthy :=
      ⟨And.left, fun h => ⟨h, fun e => same (e.trans h.symm)⟩⟩
    refine ⟨fun q => ?_, ?_, ?_, fun quiet => handed.noLoss ?_, handed.now, handed.boundary⟩
    · simp only [restored, handed.chan]
    · simp [left, handed.disturbed]
    · rw [handed.restored, restored]
      simp
    · exact fun lost => quiet.elim (fun was => same (lost.trans was.symm)) fun live => live lost

/-! ### The crossing (R27, R28, R29) -/

theorem completedCycle_eq_some {period place : Nat} {cycle : Option OpenCycle} {c : OpenCycle}
    (h : completedCycle period cycle place = some c) : cycle = some c ∧ period ≤ 2 * (place - c.start) := by
  unfold completedCycle at h
  split at h
  · split at h
    · next long => exact Option.some.inj h ▸ ⟨rfl, long⟩
    · cases h
  · cases h

theorem completedCycle_of_long {period place : Nat} {c : OpenCycle} (h : period ≤ 2 * (place - c.start)) :
    completedCycle period (some c) place = some c := if_pos h

/-- A state whose clock stands at the next sample of p, with another channel of p and another neutral record. -/
def State.crossed (s : State) (p : Phase) (ch : PhaseChannel) (n : Neutral) : State :=
  { s with
    now := max s.now ((s.chan p).sampledAt + (s.chan p).interval)
    fmu := { s.fmu with chan := s.fmu.chan.set p ch, neutral := n } }

/-- A state in which a crossing of p has been reported (R109). -/
def State.reported (s : State) (p : Phase) (n : Neutral) : State :=
  { s with
    fmu := { s.fmu with neutral := n }
    sbc := { s.sbc with
      boundaryDue :=
        s.sbc.boundaryDue || decide (s.sbc.alignment = some p ∧ s.sbc.framePeriod ≤ 2 * (s.now - s.sbc.boundaryAt)) } }

theorem State.report_eq (s : State) (p : Phase) (place : Nat) :
    ∃ n, (s.openNeutralWindow p place).reportCrossing p = s.reported p n := by
  obtain ⟨n, hn⟩ := s.openNeutralWindow_eq p place
  refine ⟨n, ?_⟩
  rw [hn, State.reportCrossing, State.reported]
  split
  · next due => rw [decide_eq_true (by exact due), Bool.or_true]; rfl
  · next early => rw [decide_eq_false (by exact early), Bool.or_false]; rfl

/-- A channel at a crossing, the next cycle opened at its place with its sums. -/
def PhaseChannel.opened (ch : PhaseChannel) (place : Nat) (sums : Sums) (interval : Nat) (fallback : Bool) :
    PhaseChannel :=
  { ch with
    interval := interval, fallback := fallback, cycle := some { start := place, sums := sums }, lastCrossing := place
    noCrossing := false }

/-- A channel with a positive sign accepted at a sample (R28). -/
def PhaseChannel.acceptedPositive (ch : PhaseChannel) : PhaseChannel :=
  { ch.sampledSign true with sign := some true, run := 0, runSums := noSums }

/-- A channel at its positive-going crossing (R27, R28): the next cycle opened at the first sample of the run. -/
def PhaseChannel.crossedAt (ch : PhaseChannel) (v i : Int) (interval : Nat) (fallback : Bool) : PhaseChannel :=
  ch.acceptedPositive.opened ch.runPlace (addSums ch.runSums (sumsOf v i)) interval fallback

/-- A channel with the values of a completed cycle, accumulated (R30, R40). -/
def PhaseChannel.withValues (ch : PhaseChannel) (x : CycleValues) : PhaseChannel :=
  { ch with latest := some x, accSum := ch.accSum + x.power, accCount := ch.accCount + 1 }

theorem PerPhase.set_set {α : Type} (t : PerPhase α) (p : Phase) (x y : α) : (t.set p x).set p y = t.set p y := by
  cases p <;> rfl

/-- A crossing of a channel ch, up to the evaluation of the cycle that it completes, if any. -/
theorem State.positiveCrossing_eq (s : State) (p : Phase) (ch : PhaseChannel) (place : Nat) (sums : Sums) :
    ∃ n, ((s.atSample p).setChan p ch).positiveCrossing p place sums =
      ((((completedCycle s.period ch.cycle place).elim id fun c u => u.completeCycle p c.sums)
        (s.crossed p (ch.opened place sums (intervalAfter s.period ch.cycle place)
          (completedCycle s.period ch.cycle place).isNone) n)).openNeutralWindow p place).reportCrossing p := by
  obtain ⟨n, closed⟩ :=
    ((s.atSample p).setChan p ch).closeNeutralWindow_eq p (completedCycle s.period ch.cycle place)
  refine ⟨n, ?_⟩
  have crossed (x : PhaseChannel) : (((s.atSample p).setChan p ch).setNeutral n).setChan p x = s.crossed p x n := by
    simp only [State.setChan, State.setNeutral, State.atSample, State.atInstant, PerPhase.set_set, State.crossed]
  have period : ((s.atSample p).setChan p ch).period = s.period := rfl
  have period' : (((s.atSample p).setChan p ch).setNeutral n).period = s.period := rfl
  simp only [State.positiveCrossing, State.chan_setChan_same, period, closed, period', crossed]
  cases completedCycle s.period ch.cycle place <;> rfl

/-- The cycle completed at a crossing forms its values, is evaluated, and the change is handed on (R29, R30, R33). -/
theorem State.completeCycle_crossed {ch : PhaseChannel} (same : ch = ch.judgedAs (s.chan p)) (n : Neutral) (x : Sums) :
    (s.crossed p ch n).completeCycle p x =
      (s.crossed p ((ch.withValues (cycleValues x)).judgedAs
        (evaluate s.params (s.chan p) (cycleValues x).rmsV)) n).healthChanged p (s.chan p).health := by
  have own : (s.crossed p ch n).chan p = ch := PerPhase.get_set_same _ _ _
  have write (y : PhaseChannel) : (s.crossed p ch n).setChan p y = s.crossed p y n := by
    simp only [State.setChan, State.crossed, PerPhase.set_set]
  have values : ch.withValues (cycleValues x) = (ch.withValues (cycleValues x)).judgedAs (s.chan p) :=
    congrArg (·.withValues (cycleValues x)) same
  have health : ch.health = (s.chan p).health := (congrArg PhaseChannel.health same :)
  have formed : (s.crossed p ch n).completeCycle p x =
      ((s.crossed p ch n).setChan p
        (evaluate s.params (ch.withValues (cycleValues x)) (cycleValues x).rmsV)).healthChanged p ch.health := by
    unfold State.completeCycle
    rw [own]
    rfl
  rw [formed, write, ← evaluate_judgedAs, ← values, health]

section Crossing

variable (accepted : (s.chan p).sign = some false) (fourth : (s.chan p).run = 3) (positive : 0 < v)
include accepted fourth positive

/-- The fourth sample of a positive-going crossing hands the crossing on, placed at the first of the four (R28). -/
theorem State.takeSample_positive :
    s.takeSample p v i = ((s.atSample p).setChan p (s.chan p).acceptedPositive).positiveCrossing p
        (s.chan p).runPlace (addSums (s.chan p).runSums (sumsOf v i)) := by
  have sign : decide (0 < v) = true := decide_eq_true positive
  rw [State.takeSample_fourth accepted (by simp [sign]) fourth, sign]
  exact if_pos positive

/-- A crossing that completes no cycle: the channel samples at the nominal period, the crossing is reported. -/
theorem State.takeSample_discards (short : completedCycle s.period (s.chan p).cycle (s.chan p).runPlace = none) :
    ∃ n m, s.takeSample p v i =
      (s.crossed p ((s.chan p).crossedAt v i (s.period / 128) true) n).reported p m := by
  obtain ⟨n, hn⟩ := s.positiveCrossing_eq p (s.chan p).acceptedPositive (s.chan p).runPlace
    (addSums (s.chan p).runSums (sumsOf v i))
  have short' : completedCycle s.period (s.chan p).acceptedPositive.cycle (s.chan p).runPlace = none := short
  obtain ⟨m, hm⟩ := State.report_eq (s.crossed p ((s.chan p).crossedAt v i (s.period / 128) true) n) p
    (s.chan p).runPlace
  refine ⟨n, m, ?_⟩
  rw [← hm, State.takeSample_positive accepted fourth positive, hn]
  simp only [intervalAfter, short']
  rfl

/-- A crossing that completes a cycle: its values formed and evaluated, the change handed on, the crossing reported. -/
theorem State.takeSample_completes {c : OpenCycle}
    (done : completedCycle s.period (s.chan p).cycle (s.chan p).runPlace = some c) :
    ∃ n m, s.takeSample p v i = ((s.crossed p
      ((((s.chan p).crossedAt v i (((s.chan p).runPlace - c.start) / 128) false).withValues
        (cycleValues c.sums)).judgedAs (evaluate s.params (s.chan p) (cycleValues c.sums).rmsV))
      n).healthChanged p (s.chan p).health).reported p m := by
  obtain ⟨n, hn⟩ := s.positiveCrossing_eq p (s.chan p).acceptedPositive (s.chan p).runPlace
    (addSums (s.chan p).runSums (sumsOf v i))
  have done' : completedCycle s.period (s.chan p).acceptedPositive.cycle (s.chan p).runPlace = some c := done
  obtain ⟨m, hm⟩ := State.report_eq ((s.crossed p
    ((s.chan p).crossedAt v i (((s.chan p).runPlace - c.start) / 128) false) n).completeCycle p c.sums) p
    (s.chan p).runPlace
  refine ⟨n, m, ?_⟩
  rw [← State.completeCycle_crossed rfl, ← hm, State.takeSample_positive accepted fourth positive, hn]
  simp only [intervalAfter, done']
  rfl

end Crossing

theorem State.crossed_chan (s : State) (p : Phase) (ch : PhaseChannel) (n : Neutral) : (s.crossed p ch n).chan p = ch :=
  PerPhase.get_set_same _ _ _

theorem State.crossed_chan_ne {q : Phase} (h : q ≠ p) (ch : PhaseChannel) (n : Neutral) :
    (s.crossed p ch n).chan q = s.chan q := PerPhase.get_set_ne _ _ h

/-- The boundary that a reported crossing makes due (R109). -/
theorem State.reported_boundaryDue (s : State) (p : Phase) (n : Neutral) :
    (s.reported p n).sbc.boundaryDue = true ↔ s.sbc.boundaryDue = true
      ∨ (s.sbc.alignment = some p ∧ s.sbc.framePeriod ≤ 2 * (s.now - s.sbc.boundaryAt)) := by
  simp [State.reported]

end Sys2Proof.Machine

open Sys2Proof Sys2Proof.Machine

/-- Settles O54: whether the crossing completes a cycle, and then what a change of health, or none, hands on. -/
theorem crossingAccepted : Obligations.CrossingAccepted := by
  intro s p v i accepted fourth positive
  refine ⟨_, exec_acceptedCrossing s p v i, ?_⟩
  cases done : completedCycle s.period (s.chan p).cycle (s.chan p).runPlace with
  | none =>
    obtain ⟨n, m, taken⟩ := State.takeSample_discards accepted fourth positive done
    have chan := s.crossed_chan p ((s.chan p).crossedAt v i (s.period / 128) true) n
    rw [taken]
    refine ⟨(congrArg PhaseChannel.sign chan :), (congrArg PhaseChannel.run chan :),
      (congrArg PhaseChannel.noCrossing chan :), (congrArg PhaseChannel.lastCrossing chan :),
      (congrArg PhaseChannel.cycle chan :), fun c cycle long => ?_, fun _ => ⟨(congrArg PhaseChannel.interval chan :),
        (congrArg PhaseChannel.fallback chan :), (congrArg PhaseChannel.latest chan :),
        (congrArg PhaseChannel.accSum chan :), (congrArg PhaseChannel.accCount chan :),
        (congrArg PhaseChannel.health chan :), rfl, rfl, rfl, rfl⟩,
      fun q ne => State.crossed_chan_ne ne _ _, State.reported_boundaryDue _ p m, rfl⟩
    rw [cycle, completedCycle_of_long long] at done
    cases done
  | some c =>
    obtain ⟨n, m, taken⟩ := State.takeSample_completes accepted fourth positive done
    obtain ⟨cycle, long⟩ := completedCycle_eq_some done
    obtain ⟨new, hnew⟩ : ∃ new, evaluate s.params (s.chan p) (cycleValues c.sums).rmsV = new := ⟨_, rfl⟩
    obtain ⟨ch, hch⟩ : ∃ ch, (((s.chan p).crossedAt v i (((s.chan p).runPlace - c.start) / 128) false).withValues
      (cycleValues c.sums)).judgedAs new = ch := ⟨_, rfl⟩
    obtain ⟨t, ht⟩ : ∃ t, (s.crossed p ch n).healthChanged p (s.chan p).health = t := ⟨_, rfl⟩
    rw [hnew, hch, ht] at taken
    have own := s.crossed_chan p ch n
    have health : (s.crossed p ch n).health p = new.health := by rw [State.health, own, ← hch]; rfl
    have spec := (s.crossed p ch n).healthChanged_spec p (s.chan p).health
    have handed (changed : new.health ≠ (s.chan p).health) : State.HandedOn p (s.chan p).health (s.crossed p ch n) t :=
      ht ▸ State.healthChanged_handedOn (health ▸ changed)
    rw [ht, health, own] at spec
    obtain ⟨chan, disturbed, restored, quiet, now, due, at_, period⟩ := spec
    have mine := (chan p).trans (if_pos rfl)
    have wasStarted : ch.started = (s.chan p).started := by rw [← hch]; rfl
    rw [wasStarted] at mine restored
    rw [← hch] at mine
    rw [taken]
    refine ⟨(congrArg PhaseChannel.sign mine :), (congrArg PhaseChannel.run mine :),
      (congrArg PhaseChannel.noCrossing mine :), (congrArg PhaseChannel.lastCrossing mine :),
      (congrArg PhaseChannel.cycle mine :), fun c' cycle' _ => ?_, fun short => ?_, fun q ne => ?_, ?_, now⟩
    · obtain rfl : c = c' := Option.some.inj (cycle.symm.trans cycle')
      refine ⟨(congrArg PhaseChannel.interval mine :), (congrArg PhaseChannel.fallback mine :),
        (congrArg PhaseChannel.latest mine :), (congrArg PhaseChannel.accSum mine :),
        (congrArg PhaseChannel.accCount mine :), ?_⟩
      dsimp only
      rw [hnew]
      refine ⟨(congrArg PhaseChannel.health mine :), (congrArg PhaseChannel.lossRun mine :),
        (congrArg PhaseChannel.outRun mine :), (congrArg PhaseChannel.inRun mine :), ?_, disturbed, ?_,
        fun live lost => ?_, quiet, fun changed => ?_, fun same => ?_⟩
      · have started : ((t.reported p m).settle.chan p).started = _ := congrArg PhaseChannel.started mine
        rw [started]
        simp
      · rw [State.settle_edge _ (by decide) (by decide)]
        exact restored
      · exact State.lossReported_of_sampled (f := (s.crossed p ch n).fmu)
          (by rw [← wasStarted]; exact congrArg PhaseChannel.started own) rfl
          ((handed (lost ▸ live.symm)).loss (health.trans lost))
      · exact ⟨(handed changed.symm).aligned, (handed changed.symm).slots, (handed changed.symm).free⟩
      · rw [← ht, State.healthChanged_of_same (health.trans same.symm)]
        exact ⟨rfl, rfl, rfl⟩
    · exact absurd (short c cycle) (Nat.not_lt.mpr long)
    · exact ((chan q).trans (if_neg ne)).trans (State.crossed_chan_ne ne _ _)
    · refine (t.reported_boundaryDue p m).trans ?_
      rw [due, at_, period]
      rfl
end

section
/-! SET_TIME (R42): the running epoch ended disturbed, the written time begun. -/

namespace Sys2Proof.Machine

open Sys2Proof

variable {s : State}

/-! ### The end of an epoch (R39 to R41) -/

theorem State.endEpoch_eq (s : State) :
    s.endEpoch = s.epochClosed.signalEnd s.tbs.epoch s.fmu.disturbed (Config.expiryPlace s.free) := by
  have closed : { s.closeAverages.closeLoads.advanceEpoch with free := s.free + 1 } = s.epochClosed := by
    simp only [State.closeAverages, State.clearAccumulators, State.closeLoads, State.advanceEpoch, State.epochClosed]
  simp only [State.endEpoch, closed]

/-- An end of the epoch counts no move, and a record with no waiting load starts with none. -/
theorem State.endEpoch_conn (s : State) (n : ConnId) :
    (s.endEpoch.conn n).accCount = (closeLoad (s.conn n)).accCount
      ∧ (s.endEpoch.conn n).movesToday = (s.conn n).movesToday := by
  have links : LinksOnly s.epochClosed s.endEpoch := s.endEpoch_eq ▸ (LinksOnly.refl _).signalEnd
  have conn := links.conn n
  rw [State.epochClosed_conn] at conn
  have moves : (closeLoad (s.conn n)).movesToday = (s.conn n).movesToday := by
    unfold closeLoad
    split <;> rfl
  exact ⟨(congrArg Conn.accCount conn :), (congrArg Conn.movesToday conn).trans moves⟩

theorem closeLoad_accCount {c : Conn} (h : c.nextCount = 0) : (closeLoad c).accCount = 0 := by
  unfold closeLoad
  split
  · exact h
  · rfl

/-! ### The planner's outcome for a disturbed epoch (R46) -/

theorem State.rescuePass_plan (s : State) (cause : RescueCause) : (s.rescuePass cause).bpl.plan = s.bpl.plan := by
  unfold State.rescuePass
  dsimp only
  split <;> simp

theorem State.epochRescue_plan (s : State) : s.epochRescue.bpl.plan = s.bpl.plan := by
  unfold State.epochRescue
  split
  · exact s.rescuePass_plan _
  · rfl

/-- A disturbed epoch in AUTO is planned as DISTURBED, and outside AUTO as NOT_AUTO. -/
theorem State.plannerRun_disturbed (s : State) (e : Word) :
    s.plannerRun e true =
      s.setPlan (planStatus e (if s.modeName = .auto then .disturbed else .notAuto) none none []) := by
  unfold State.plannerRun
  split
  · rfl
  · next mode => rw [if_pos (not_not.mp mode)]

/-- The signal of a disturbed epoch leaves that outcome, wherever the expiry falls. -/
theorem State.signalEnd_disturbed (s : State) (e : Word) (x : ExpiryPlace) :
    (s.signalEnd e true x).bpl.plan.map (·.outcome) = some (if s.modeName = .auto then .disturbed else .notAuto) := by
  have mode : (s.expireQueued e).modeName = s.modeName := by simp [State.modeName]
  cases x <;>
    simp [State.signalEnd, State.epochRescue_plan, State.plannerRun_disturbed, mode, State.setPlan, planStatus]

/-! ### The request (R42) -/

theorem argTime_bytes {tod : Word} (day : Half) (h : tod.toNat ≤ 86399) :
    argTime (be32 tod ++ be16 day) = some (tod.toNat, day) := by
  simp [argTime, be32, be16, word_be32, half_be16, h]

/-- SET_TIME at a free port in control, with no end owed: the epoch of the asking state, disturbed, is ended. -/
theorem exec_setTime {lk : Link} {tag : Byte} {tod : Word} {day : Half} (free : s.portFree lk)
    (auth : s.mdc.authority = lk) (owed : s.tbs.endDue = false) (within : tod.toNat ≤ 86399) :
    exec (.setTime lk tag (be32 tod ++ be16 day)) s =
      let ended := (s.asking lk 0x31 tag).disturb.endEpoch
      .next ((State.disturb { ended with tbs := { ended.tbs with
        timeOfDay := tod.toNat, day := day, tickAt := s.now } }).setReply lk [0x00]).settle := by
  have asked : (s.asking lk 0x31 tag).takeOwedEnd = s.asking lk 0x31 tag :=
    State.takeOwedEnd_of_none (s := s.asking lk 0x31 tag) owed
  have body : doSetTime lk (be32 tod ++ be16 day) (s.asking lk 0x31 tag)
      = okWith [] ((s.asking lk 0x31 tag).setTime tod.toNat day) := by
    rw [doSetTime, argTime_bytes day within, controlled_inControl _ _ _ _ auth]
  refine settled_congr ((takeRequest_of_free s lk 0x31 tag _ free).trans ?_)
  have now : (s.asking lk 0x31 tag).disturb.endEpoch.now = s.now := by simp
  rw [body, okWith]
  dsimp only
  rw [State.setTime, asked]
  simp only [now]
  rfl

end Sys2Proof.Machine

open Sys2Proof Sys2Proof.Machine

/-- Settles O36: the disturbed end of the epoch, its signal and its records, and the written time beside them. -/
theorem setTimeTaken : Obligations.SetTimeTaken := by
  intro s lk tag tod day free auth owed within
  obtain ⟨e, he⟩ : ∃ e, (s.asking lk 0x31 tag).disturb.endEpoch = e := ⟨_, rfl⟩
  have ended := (State.endEpoch_eq _).symm.trans he
  have tbs : e.tbs = (s.asking lk 0x31 tag).disturb.epochClosed.tbs := by simp [← ended]
  have fmu : e.fmu = (s.asking lk 0x31 tag).disturb.epochClosed.fmu := by simp [← ended]
  have ports : e.ports = (s.asking lk 0x31 tag).ports := by simp [← he]
  have plan : e.bpl.plan.map (·.outcome) = some (if s.modeName = .auto then .disturbed else .notAuto) := by
    rw [← ended]
    exact State.signalEnd_disturbed _ _ _
  refine ⟨_, exec_setTime free auth owed within, ?_⟩
  simp only [he]
  refine ⟨?_, ?_, rfl, ?_, fun mode => ?_, fun mode => ?_, fun n => ⟨fun waiting => ?_, ?_⟩⟩
  · have port : e.port lk = (s.port lk).asked 0x31 tag := by
      rw [State.port, ports]
      exact State.port_setPort_same _ _ _
    refine (congrArg Port.answer (State.port_setPort_same _ lk _)).trans ?_
    exact (congrArg (fun q : Port => (q.answered [0x00]).answer) port :)
  · rw [tbs]
    rfl
  · exact (congrArg (fun f : Fmu => f.averages.map (·.epoch)) fmu :)
  · exact plan.trans (by rw [if_pos mode])
  · exact plan.trans (by rw [if_neg mode])
  · have count := (State.endEpoch_conn (s.asking lk 0x31 tag).disturb n).1
    rw [he] at count
    exact count.trans (closeLoad_accCount waiting)
  · have moves := (State.endEpoch_conn (s.asking lk 0x31 tag).disturb n).2
    rw [he] at moves
    exact moves
end

section
/-! What a write of a parameter stores, and what it keeps (R27, R31, R38, R111, R150, R183, R184). -/

namespace Sys2Proof.Machine

open Sys2Proof

variable {s t : State} {p : Param} {v : Int} {i : InputLine}

/-! ### The value stored (R183) -/

theorem cast_clampValue (lo hi : Nat) (v : Int) : (clampValue lo hi v : Int) = max (lo : Int) (min (hi : Int) v) := by
  simp only [clampValue, clampNat]
  omega

/-- A yes/no value is stored as its code, or refused. -/
theorem yesNo_stored {f : Bool → State} {stored : State → Int} (code : ∀ x, stored (f x) = codeOf x) (v : Int) :
    (∃ t, (yesNoValue? v).map f = some t ∧ stored t = v) ∨ (v ≠ 0 ∧ v ≠ 1 ∧ (yesNoValue? v).map f = none) := by
  by_cases no : v = 0
  · exact .inl ⟨f false, by simp [yesNoValue?, no], (code false).trans no.symm⟩
  by_cases yes : v = 1
  · exact .inl ⟨f true, by simp [yesNoValue?, yes], (code true).trans yes.symm⟩
  · exact .inr ⟨no, yes, by simp [yesNoValue?, no, yes]⟩

theorem cast_toNat_ofInt (w : Nat) (v : Int) : ((BitVec.ofInt w v).toNat : Int) = v % 2 ^ w := by
  rw [BitVec.toNat_ofInt, Int.toNat_of_nonneg (Int.emod_nonneg _ (by positivity))]
  norm_cast

/-- Rounding down an ascending set: the last member that a value reaches. -/
theorem roundDown_spec {lowest : Nat} {members : List Nat} (ascending : members.Pairwise (· ≤ ·)) (v : Int) :
    ((roundDown lowest members v : Int) ≤ v ∨ roundDown lowest members v = lowest)
      ∧ ∀ j ∈ members, (j : Int) ≤ v → j ≤ roundDown lowest members v := by
  unfold roundDown
  have reached (l : List Nat) (a : Nat) :
      let r := l.foldl (fun (a m : Nat) => if (m : Int) ≤ v then m else a) a
      r = a ∨ (r ∈ l ∧ (r : Int) ≤ v) := by
    induction l generalizing a with
    | nil => exact .inl rfl
    | cons m l ih =>
      rcases ih (if (m : Int) ≤ v then m else a) with same | ⟨mem, le⟩
      · rw [List.foldl_cons, same]
        split
        · next le => exact .inr ⟨List.mem_cons_self, le⟩
        · exact .inl rfl
      · exact .inr ⟨List.mem_cons_of_mem _ mem, le⟩
  refine ⟨(reached members lowest).symm.imp_left And.right, fun j mem le => ?_⟩
  induction members generalizing lowest with
  | nil => cases mem
  | cons m l ih =>
    obtain ⟨above, ascending⟩ := List.pairwise_cons.mp ascending
    rw [List.foldl_cons]
    rcases List.mem_cons.mp mem with rfl | mem
    · rw [if_pos le]
      rcases reached l j with same | ⟨mem, -⟩
      · exact same.ge
      · exact above _ mem
    · exact ih ascending mem

/-! ### Inputs (R150) -/

@[simp] theorem State.setInput_setInput (s : State) (i : InputLine) (a b : InputRec) :
    (s.setInput i a).setInput i b = s.setInput i b := by
  cases i <;> rfl

theorem State.haltEvent_input (s : State) (h : HaltSource) (i : InputLine) : (s.haltEvent h).input i = s.input i := by
  unfold State.haltEvent
  split
  · unfold State.enterHalt
    split <;> simp [State.input]
  · rfl

/-- A write of an input's type that leaves the status: any but one from EDGE to LEVEL. -/
theorem State.writeType_kept {level : Bool} (h : (s.input i).level = true ∨ level = false) :
    s.writeType i level = s.setInput i { s.input i with level := level } := by
  rcases h with h | h <;> simp [State.writeType, h]

/-- From EDGE to LEVEL the status takes the debounced level, and one that becomes set asserts the input's source. -/
theorem State.writeType_toLevel (edge : (s.input i).level = false) :
    let x := s.setInput i { s.input i with level := true, status := (s.input i).debounced }
    (haltSourceOf i = none → s.writeType i true = x)
      ∧ ∀ h, haltSourceOf i = some h → s.writeType i true =
        if (s.input i).debounced = true ∧ (s.input i).status = false then x.haltEvent h else x := by
  have turned : s.writeType i true
      = (s.setInput i { s.input i with level := true }).setStatus i (s.input i).debounced := by
    simp [State.writeType, edge]
  constructor
  · intro none
    simp [turned, State.setStatus, none]
  · intro h source
    simp [turned, State.setStatus, source]

theorem State.writeType_input (s : State) (i j : InputLine) (level : Bool) :
    ((s.writeType i level).input j).polarityHigh = (s.input j).polarityHigh
      ∧ ((s.writeType i level).input j).debounce = (s.input j).debounce
      ∧ ((s.writeType i level).input j).level = if j = i then level else (s.input j).level := by
  have written (r : InputRec) (hp : r.polarityHigh = (s.input i).polarityHigh) (hd : r.debounce = (s.input i).debounce)
      (hl : r.level = level) :
      ((s.setInput i r).input j).polarityHigh = (s.input j).polarityHigh
        ∧ ((s.setInput i r).input j).debounce = (s.input j).debounce
        ∧ ((s.setInput i r).input j).level = if j = i then level else (s.input j).level := by
    by_cases own : j = i
    · subst own
      simp [hp, hd, hl]
    · simp [s.input_setInput_ne r own, own]
  by_cases kept : (s.input i).level = true ∨ level = false
  · rw [State.writeType_kept kept]
    exact written _ rfl rfl rfl
  · rw [not_or, Bool.not_eq_true, Bool.not_eq_false] at kept
    obtain ⟨edge, rfl⟩ := kept
    obtain ⟨none, some⟩ := State.writeType_toLevel edge
    cases source : haltSourceOf i with
    | none => exact none source ▸ written _ rfl rfl rfl
    | some h =>
      rw [some h source]
      split
      · rw [State.haltEvent_input]
        exact written _ rfl rfl rfl
      · exact written _ rfl rfl rfl

theorem State.writeType_rest (s : State) (i : InputLine) (level : Bool) :
    (s.writeType i level).params = s.params ∧ (s.writeType i level).tbs = s.tbs := by
  unfold State.writeType
  dsimp only
  split <;> simp

theorem State.writeType_level (s : State) (i : InputLine) (level : Bool) :
    ((s.writeType i level).input i).level = level := by
  obtain ⟨-, -, type⟩ := s.writeType_input i i level
  exact type.trans (if_pos rfl)

theorem State.writeType_stored (s : State) (i : InputLine) (level : Bool) :
    (s.writeType i level).stored (.inputType i) = codeOf level :=
  congrArg codeOf (s.writeType_level i level)

/-! ### What a write keeps (R183) -/

/-- A write of an input's type is one, whatever the value: LEVEL for the key and the supply warning (R150). -/
theorem State.writeParam_inputType (h : s.writeParam (.inputType i) v = some t) : ∃ level, t = s.writeType i level := by
  cases i
  case keyLocal | supplyWarn => exact ⟨true, (Option.some.inj h).symm⟩
  all_goals
    obtain ⟨level, -, rfl⟩ := Option.map_eq_some_iff.mp h
    exact ⟨level, rfl⟩

/-- The stored values are those of the parameters, the pending length and the inputs. -/
theorem State.stored_setInput {r : InputRec} {q : Param}
    (polarity : q = .polarity i → r.polarityHigh = (s.input i).polarityHigh)
    (type : q = .inputType i → r.level = (s.input i).level)
    (debounce : q = .debounce i → r.debounce = (s.input i).debounce) : (s.setInput i r).stored q = s.stored q := by
  have read {α : Type} (f : InputRec → α) (j : InputLine) (h : j = i → f r = f (s.input i)) :
      f ((s.setInput i r).input j) = f (s.input j) := by
    by_cases own : j = i
    · subst own
      rw [State.input_setInput_same, h rfl]
    · rw [s.input_setInput_ne r own]
  cases q
  case polarity j => exact congrArg codeOf (read _ j fun own => polarity (own ▸ rfl))
  case inputType j => exact congrArg codeOf (read _ j fun own => type (own ▸ rfl))
  case debounce j => exact congrArg Nat.cast (read _ j fun own => debounce (own ▸ rfl))
  all_goals rfl

theorem State.writeParam_other {q : Param} (h : s.writeParam p v = some t) (other : q ≠ p) :
    t.stored q = s.stored q := by
  cases p
  case inputType i =>
    obtain ⟨level, rfl⟩ := State.writeParam_inputType h
    obtain ⟨params, tbs⟩ := s.writeType_rest i level
    have input (j : InputLine) := s.writeType_input i j level
    cases q
    case inputType j =>
      obtain ⟨-, -, type⟩ := input j
      have ne : j ≠ i := fun e => other (e ▸ rfl)
      exact congrArg codeOf (type.trans (if_neg ne))
    case polarity j =>
      obtain ⟨polarity, -, -⟩ := input j
      exact congrArg codeOf polarity
    case debounce j =>
      obtain ⟨-, debounce, -⟩ := input j
      exact congrArg Nat.cast debounce
    all_goals simp only [State.stored, params, tbs]
  case polarity i =>
    obtain ⟨x, -, rfl⟩ := Option.map_eq_some_iff.mp h
    exact State.stored_setInput (fun e => absurd e other) (fun _ => rfl) fun _ => rfl
  case debounce i =>
    obtain rfl := Option.some.inj h
    exact State.stored_setInput (fun _ => rfl) (fun _ => rfl) fun e => absurd e other
  case nominal | chatterHold | rescue =>
    obtain ⟨x, -, rfl⟩ := Option.map_eq_some_iff.mp h
    cases q
    any_goals rfl
    exact absurd rfl other
  all_goals
    obtain rfl := Option.some.inj h
    cases q
    any_goals rfl
    exact absurd rfl other

/-- The parameters that are nothing but parameters. -/
theorem State.writeParam_params (h : s.writeParam p v = some t)
    (plain : p ∈ [.vLow, .vHigh, .vLoss, .restoreTime, .chatterLimit, .chatterHold, .wtrig, .wmin, .plim, .kmax,
      .restPeriod, .rescue, .readyLevel, .chargeTimeout, .haltMask, .alertMask, .lampMask]) :
    t = { s with params := t.params } := by
  cases p
  case chatterHold | rescue =>
    obtain ⟨x, -, rfl⟩ := Option.map_eq_some_iff.mp h
    rfl
  case nominal | epochLength | neutralLimit | polarity | inputType | debounce => simp at plain
  all_goals
    obtain rfl := Option.some.inj h
    rfl

end Sys2Proof.Machine

open Sys2Proof Sys2Proof.Machine

/-- Settles O27: what is stored, parameter by parameter, then what each kind of write keeps. -/
theorem parametersStoreTheTable : Obligations.ParametersStoreTheTable := by
  refine ⟨fun s v => ⟨?_, ?_, ?_, ?_, ?_, ?_, fun i => ?_, fun i => ?_, ?_, ?_⟩,
    fun s t p v h => ⟨fun q other => State.writeParam_other h other, State.writeParam_params h, ?_, ?_, ?_, ?_, ?_, ?_⟩⟩
  · simp only [List.forall_mem_cons, List.not_mem_nil, false_implies, implies_true, and_true]
    refine ⟨?_, ?_, ?_, ?_, ?_, ?_, ?_, ?_, ?_, ?_, ?_, ?_, ?_⟩ <;> exact ⟨_, rfl, cast_clampValue _ _ v⟩
  · simp only [List.forall_mem_cons, List.not_mem_nil, false_implies, implies_true, and_true]
    exact ⟨yesNo_stored (fun _ => rfl) v, yesNo_stored (fun _ => rfl) v⟩
  · have written (x : Nominal) (q : Phase) : (s.writeNominal x).chan q =
        if (s.chan q).fallback then { s.chan q with interval := x.period / 128 } else s.chan q := PerPhase.get_map _ _ q
    by_cases slow : v = 50
    · exact .inl ⟨s.writeNominal .hz50, by simp [State.writeParam, nominalOf?, slow], slow.symm, rfl, written .hz50⟩
    by_cases fast : v = 60
    · exact .inl ⟨s.writeNominal .hz60, by simp [State.writeParam, nominalOf?, fast], fast.symm, rfl, written .hz60⟩
    · exact .inr ⟨slow, fast, by simp [State.writeParam, nominalOf?, slow, fast]⟩
  · exact ⟨_, rfl, cast_toNat_ofInt 8 v⟩
  · simp only [List.forall_mem_cons, List.not_mem_nil, false_implies, implies_true, and_true]
    exact ⟨⟨_, rfl, cast_toNat_ofInt 16 v⟩, ⟨_, rfl, cast_toNat_ofInt 16 v⟩⟩
  · obtain ⟨low, greatest⟩ := roundDown_spec (lowest := 10) (members := epochLengths) (by decide) v
    exact ⟨_, _, rfl, rfl, roundDown_mem (by decide) v, low, greatest⟩
  · obtain ⟨low, greatest⟩ := roundDown_spec (lowest := 0) (members := debounceTimes) (by decide) v
    exact ⟨_, _, rfl, congrArg (fun r : InputRec => (r.debounce : Int)) (s.input_setInput_same i _),
      roundDown_mem (by decide) v, low, greatest⟩
  · exact yesNo_stored (fun x => congrArg (fun r : InputRec => codeOf r.polarityHigh) (s.input_setInput_same i _)) v
  · simp only [List.forall_mem_cons, List.not_mem_nil, false_implies, implies_true, and_true]
    exact ⟨⟨_, rfl, s.writeType_stored .keyLocal true⟩, ⟨_, rfl, s.writeType_stored .supplyWarn true⟩⟩
  · simp only [sourceInputs, List.forall_mem_cons, List.not_mem_nil, false_implies, implies_true, and_true]
    have each (i : InputLine) :=
      yesNo_stored (f := s.writeType i) (stored := (State.stored · (.inputType i))) (s.writeType_stored i) v
    exact ⟨each _, each _, each _, each _, each _⟩
  · rintro rfl
    obtain rfl := Option.some.inj h
    rfl
  · rintro rfl
    obtain ⟨x, -, rfl⟩ := Option.map_eq_some_iff.mp h
    rfl
  · rintro rfl
    obtain rfl := Option.some.inj h
    rfl
  · rintro i rfl
    obtain ⟨x, -, rfl⟩ := Option.map_eq_some_iff.mp h
    simp
  · rintro i rfl
    obtain rfl := Option.some.inj h
    simp
  · rintro i rfl
    obtain ⟨level, rfl⟩ := State.writeParam_inputType h
    rw [State.writeType_level]
    refine ⟨State.writeType_kept, fun edge toLevel => ?_⟩
    subst toLevel
    obtain ⟨noSource, source⟩ := State.writeType_toLevel edge
    refine ⟨fun quiet => ?_, fun x hx => ⟨fun unmasked => ?_, fun debounced status => ?_⟩⟩
    · cases hs : haltSourceOf i with
      | none => exact noSource hs
      | some x =>
        rw [source x hs, if_neg]
        rintro ⟨debounced, status⟩
        rcases quiet with q | q | q
        · simp [q] at debounced
        · simp [q] at status
        · simp [q] at hs
    · rw [source x hx]
      split
      · exact if_neg (by rw [Bool.not_eq_true]; exact unmasked)
      · rfl
    · rw [source x hx, if_pos ⟨debounced, status⟩]
end

section
/-! The balance of the phases and the choice of one move (R48 to R53): what a move does to the deviations, when a pair
qualifies, and which of the qualifying pairs is chosen. -/

namespace Sys2Proof.Machine

open Sys2Proof

/-! ### Deviations (R48, R49, R51) -/

section Move

variable (w : PerPhase Int) {x y : Phase} (l : Int)

@[simp] theorem shifted_target (move : x ≠ y) : (shifted w x y l).get y = w.get y + l := by
  rw [shifted, PerPhase.get_set_same, PerPhase.get_set_ne _ _ move.symm]

@[simp] theorem shifted_source (move : x ≠ y) : (shifted w x y l).get x = w.get x - l := by
  rw [shifted, PerPhase.get_set_ne _ _ move, PerPhase.get_set_same]

theorem shifted_other {z : Phase} (hx : z ≠ x) (hy : z ≠ y) : (shifted w x y l).get z = w.get z := by
  rw [shifted, PerPhase.get_set_ne _ _ hy, PerPhase.get_set_ne _ _ hx]

theorem powerSum_set (p : Phase) (v : Int) : powerSum (w.set p v) = powerSum w - w.get p + v := by
  cases p <;> simp only [powerSum, PerPhase.set, PerPhase.get] <;> omega

/-- A move leaves the sum of the phase powers as it was. -/
theorem powerSum_shifted (move : x ≠ y) : powerSum (shifted w x y l) = powerSum w := by
  rw [shifted, powerSum_set, powerSum_set, PerPhase.get_set_ne _ _ move.symm]
  omega

theorem deviation_source (move : x ≠ y) : deviation (shifted w x y l) x = deviation w x - 3 * l := by
  rw [deviation, deviation, powerSum_shifted w l move, shifted_source w l move]
  omega

theorem deviation_target (move : x ≠ y) : deviation (shifted w x y l) y = deviation w y + 3 * l := by
  rw [deviation, deviation, powerSum_shifted w l move, shifted_target w l move]
  omega

theorem deviation_other (move : x ≠ y) {z : Phase} (hx : z ≠ x) (hy : z ≠ y) :
    deviation (shifted w x y l) z = deviation w z := by
  rw [deviation, deviation, powerSum_shifted w l move, shifted_other w l hx hy]

theorem abs_deviation_le_u3 (p : Phase) : |deviation w p| ≤ u3 w := by
  cases p <;> simp [u3]

/-- No deviation moves by more than three times the load, so no gain is larger. -/
theorem gainOf_le (move : x ≠ y) : gainOf w x y l ≤ 3 * |l| := by
  have near (p : Phase) : |deviation w p| ≤ u3 (shifted w x y l) + 3 * |l| := by
    have bound := abs_deviation_le_u3 (shifted w x y l) p
    by_cases hx : p = x
    · subst hx
      rw [deviation_source w l move] at bound
      grind
    by_cases hy : p = y
    · subst hy
      rw [deviation_target w l move] at bound
      grind
    · rw [deviation_other w l move hx hy] at bound
      have := abs_nonneg l
      omega
  have u3_le : u3 w ≤ u3 (shifted w x y l) + 3 * |l| := max_le (max_le (near .A) (near .B)) (near .C)
  rw [gainOf]
  omega

end Move

/-! ### Candidates (R50 to R52) -/

variable {s : State} {e : Word} {w : PerPhase Int} {done : List ConnId} {k : ConnId} {y : Phase}

/-- The conditions of R50 on a connection, but the phase limit and the batch so far: on what phase it is seen, and with
what load. -/
structure State.Movable (s : State) (e : Word) (k : ConnId) (x y : Phase) (l : Int) : Prop where
  phase : (s.conn k).phase = .on x
  load : (s.conn k).epochLoad = some l
  present : (s.conn k).present = true
  link : (s.conn k).link = .online
  pin : (s.conn k).pin = false
  hold : (s.conn k).hold = none
  dark : (s.conn k).dark = false
  recordLink : (s.conn k).recordLink = none
  moves : (s.conn k).movesToday < (s.conn k).allowance
  rested : rested (s.conn k) e s.params.restPeriod = true
  other : y ≠ x
  healthy : s.health y = .healthy

theorem State.candidate_eq_some {x : Phase} {l : Int} : s.candidate e w done k y = some (x, l) ↔
    s.Movable e k x y l ∧ |w.get y + l| ≤ (s.params.plim : Int) ∧ k ∉ done := by
  unfold State.candidate
  dsimp only
  constructor
  · intro h
    split at h
    · next hp hl =>
      obtain ⟨⟨present, link, pin, hold, dark, free, moves, rest, other, healthy, limit, fresh⟩, eq⟩ :=
        Option.ite_none_right_eq_some.mp h
      obtain ⟨rfl, rfl⟩ := Prod.mk.inj (Option.some.inj eq)
      exact ⟨⟨hp, hl, present, link, pin, Option.isNone_iff_eq_none.mp hold, dark, Option.isNone_iff_eq_none.mp free,
        moves, rest, other, healthy⟩, limit, by simpa using fresh⟩
    · simp at h
  · rintro ⟨⟨hp, hl, present, link, pin, hold, dark, free, moves, rest, other, healthy⟩, limit, fresh⟩
    rw [hp, hl]
    simp [*]

theorem State.qualifying_eq_some {c : Choice} : s.qualifying e w done k y = some c ↔
    s.candidate e w done k y = some (c.entry.source, c.load) ∧ c.entry.conn = k ∧ c.entry.target = y
      ∧ c.entry.gain = gainOf w c.entry.source y c.load ∧ 0 < c.entry.gain
      ∧ 3 * (s.params.wmin : Int) ≤ c.entry.gain := by
  obtain ⟨⟨k', x', y', g⟩, l'⟩ := c
  unfold State.qualifying
  cases s.candidate e w done k y with
  | none => simp
  | some p =>
    obtain ⟨x, l⟩ := p
    dsimp only
    rw [Option.ite_none_right_eq_some]
    constructor
    · rintro ⟨⟨pos, least⟩, eq⟩
      cases eq
      exact ⟨rfl, rfl, rfl, rfl, pos, least⟩
    · rintro ⟨eq, rfl, rfl, rfl, pos, least⟩
      cases eq
      exact ⟨⟨pos, least⟩, rfl⟩

theorem mem_allConns (k : ConnId) : k ∈ allConns := List.mem_finRange k

theorem State.mem_qualifiers {c : Choice} :
    c ∈ s.qualifiers e w done ↔ s.qualifying e w done c.entry.conn c.entry.target = some c := by
  simp only [State.qualifiers, List.mem_flatMap, List.mem_filterMap, mem_allConns, mem_phases, true_and]
  constructor
  · rintro ⟨k, y, h⟩
    obtain ⟨-, rfl, rfl, -⟩ := State.qualifying_eq_some.mp h
    exact h
  · exact fun h => ⟨_, _, h⟩

/-! ### The first of the least (R53, R63) -/

/-- A search through a list for the first member of the least key. -/
structure FirstLeast {α : Type} (key : α → Int) (f : List α → Option α) : Prop where
  nil : f [] = none
  last : ∀ {x l}, f l = none → f (x :: l) = some x
  cons : ∀ {x l z}, f l = some z → f (x :: l) = if key z < key x then some z else some x

namespace FirstLeast

variable {α : Type} {key : α → Int} {f : List α → Option α} (search : FirstLeast key f)

include search

theorem eq_none {l : List α} : f l = none ↔ l = [] := by
  cases l with
  | nil => simp [search.nil]
  | cons x l =>
    cases rest : f l with
    | none => simp [search.last rest]
    | some z =>
      rw [search.cons rest]
      split <;> simp

/-- What is found has the least key, and in a list ordered by r it stands before every other member of that key. -/
theorem spec {r : α → α → Prop} {l : List α} (sorted : l.Pairwise r) {x : α} (found : f l = some x) :
    x ∈ l ∧ ∀ y ∈ l, key x < key y ∨ (key x = key y ∧ (x = y ∨ r x y)) := by
  induction l generalizing x with
  | nil => simp [search.nil] at found
  | cons a l ih =>
    obtain ⟨first, sorted⟩ := List.pairwise_cons.mp sorted
    cases rest : f l with
    | none =>
      obtain rfl := Option.some.inj ((search.last rest).symm.trans found)
      simp [search.eq_none.mp rest]
    | some z =>
      obtain ⟨mem, least⟩ := ih sorted rest
      rw [search.cons rest] at found
      split at found
      · next less =>
        obtain rfl := Option.some.inj found
        exact ⟨List.mem_cons_of_mem _ mem, List.forall_mem_cons.mpr ⟨.inl less, least⟩⟩
      · next geq =>
        obtain rfl := Option.some.inj found
        refine ⟨List.mem_cons_self, List.forall_mem_cons.mpr ⟨.inr ⟨rfl, .inl rfl⟩, fun y hy => ?_⟩⟩
        have le : key z ≤ key y := (least y hy).elim le_of_lt fun h => h.1.le
        rcases lt_or_eq_of_le ((not_lt.mp geq).trans le) with less | same
        · exact .inl less
        · exact .inr ⟨same, .inr (first y hy)⟩

end FirstLeast

/-! ### The choice (R53) -/

theorem bestChoice_firstLeast : FirstLeast (fun c : Choice => -c.entry.gain) bestChoice where
  nil := rfl
  last rest := by rw [bestChoice, rest]
  cons rest := by simp only [bestChoice, rest, neg_lt_neg_iff]

/-- The order of R53 among pairs of one gain: ascending connection, then target A, B, C. -/
def Choice.before (c d : Choice) : Prop :=
  c.entry.conn < d.entry.conn ∨ (c.entry.conn = d.entry.conn ∧ Phase.code c.entry.target < Phase.code d.entry.target)

theorem phases_ordered : phases.Pairwise fun x y => Phase.code x < Phase.code y := by decide

theorem State.qualifiers_ordered : (s.qualifiers e w done).Pairwise Choice.before := by
  refine List.pairwise_flatMap.mpr ⟨fun k _ => List.pairwise_filterMap.mpr ?_, (List.pairwise_lt_finRange 96).imp ?_⟩
  · refine phases_ordered.imp fun {y z} less c hc d hd => ?_
    obtain ⟨-, rfl, rfl, -⟩ := State.qualifying_eq_some.mp hc
    obtain ⟨-, same, rfl, -⟩ := State.qualifying_eq_some.mp hd
    exact .inr ⟨same.symm, less⟩
  · intro k m less c hc d hd
    obtain ⟨y, -, hc⟩ := List.mem_filterMap.mp hc
    obtain ⟨z, -, hd⟩ := List.mem_filterMap.mp hd
    obtain ⟨-, rfl, -⟩ := State.qualifying_eq_some.mp hc
    obtain ⟨-, rfl, -⟩ := State.qualifying_eq_some.mp hd
    exact .inl less

/-- The choice is of the largest gain, and of the pairs of that gain it stands first in the order of R53. -/
theorem State.bestChoice_spec {c : Choice} (best : bestChoice (s.qualifiers e w done) = some c) :
    c ∈ s.qualifiers e w done ∧ ∀ d ∈ s.qualifiers e w done,
      d.entry.gain < c.entry.gain ∨ (d.entry.gain = c.entry.gain ∧ (c = d ∨ c.before d)) := by
  obtain ⟨mem, least⟩ := bestChoice_firstLeast.spec State.qualifiers_ordered best
  refine ⟨mem, fun d hd => ?_⟩
  have largest := least d hd
  rwa [neg_lt_neg_iff, neg_inj, eq_comm (a := c.entry.gain)] at largest

end Sys2Proof.Machine

open Sys2Proof Sys2Proof.Machine

/-- Settles O58: the deviations phase by phase, then the first of the largest gain in a list ordered as R53 orders it. -/
theorem movesChosenByGain : Obligations.MovesChosenByGain := by
  refine ⟨fun w x y l move => ⟨deviation_source w l move, deviation_target w l move,
    fun z hx hy => deviation_other w l move hx hy, ?_, gainOf_le w l move⟩,
    fun s e w done => ⟨fun nonempty gone => nonempty (bestChoice_firstLeast.eq_none.mp gone), fun c best => ?_⟩⟩
  · simp only [deviation, powerSum, PerPhase.get]
    omega
  · obtain ⟨mem, largest⟩ := State.bestChoice_spec best
    refine ⟨mem, fun d hd => (largest d hd).imp_right (And.imp_right fun tie => ?_)⟩
    rcases tie with rfl | less | ⟨same, less⟩
    · exact .inr ⟨rfl, le_rfl⟩
    · exact .inl less
    · exact .inr ⟨same, less.le⟩
end

section
/-! A planner run (R46, R54 to R57): its batch as a chain of best choices, and the ways a run can end. -/

namespace Sys2Proof.Machine

open Sys2Proof

variable {s : State} {e : Word} {d : Bool} {w start : PerPhase Int}

/-! ### The batch (R54) -/

/-- The working powers that the entries of a batch leave (R49, R54). -/
def State.powersAfter (s : State) (start : PerPhase Int) (l : List PlanEntry) : PerPhase Int :=
  l.foldl (fun w y => shifted w y.source y.target ((s.conn y.conn).epochLoad.getD 0)) start

/-- A batch: each entry is the best choice on the powers that the entries before it leave (R53, R54). -/
inductive State.BestSteps (s : State) (e : Word) (start : PerPhase Int) : List PlanEntry → Prop
  | nil : State.BestSteps s e start []
  | step {done : List PlanEntry} {c : Choice} (steps : State.BestSteps s e start done)
      (best : bestChoice (s.qualifiers e (s.powersAfter start done) (done.map (·.conn))) = some c) :
      State.BestSteps s e start (done ++ [c.entry])

/-- A chosen entry is a qualifying candidate. -/
theorem State.movable_of_best {done : List ConnId} {c : Choice} (best : bestChoice (s.qualifiers e w done) = some c) :
    s.Movable e c.entry.conn c.entry.source c.entry.target c.load ∧ c.entry.conn ∉ done
      ∧ c.entry.gain = gainOf w c.entry.source c.entry.target c.load
      ∧ 0 < c.entry.gain ∧ 3 * (s.params.wmin : Int) ≤ c.entry.gain := by
  obtain ⟨candidate, -, -, gain, pos, least⟩ :=
    State.qualifying_eq_some.mp (State.mem_qualifiers.mp (State.bestChoice_spec best).1)
  obtain ⟨movable, -, fresh⟩ := State.candidate_eq_some.mp candidate
  exact ⟨movable, fresh, gain, pos, least⟩

/-- The powers after one more entry, whose load is its connection's epoch load. -/
theorem State.powersAfter_step {done : List PlanEntry} {c : Choice}
    (load : (s.conn c.entry.conn).epochLoad = some c.load) : s.powersAfter start (done ++ [c.entry])
      = shifted (s.powersAfter start done) c.entry.source c.entry.target c.load := by
  simp [State.powersAfter, load]

theorem State.batch_spec (n : Nat) {done : List PlanEntry} (steps : s.BestSteps e start done) :
    let b := s.batch e n (s.powersAfter start done) done
    s.BestSteps e start b.1 ∧ b.2 = s.powersAfter start b.1 ∧ b.1.length ≤ done.length + n := by
  induction n generalizing done with
  | zero => exact ⟨steps, rfl, le_rfl⟩
  | succ n ih =>
    simp only [State.batch]
    split
    · exact ⟨steps, rfl, Nat.le_add_right _ _⟩
    · next c best =>
      rw [← State.powersAfter_step (State.movable_of_best best).1.load]
      obtain ⟨steps', powers, length⟩ := ih (steps.step best)
      rw [List.length_append, List.length_singleton] at length
      exact ⟨steps', powers, by omega⟩

namespace State.BestSteps

variable {l : List PlanEntry} (steps : s.BestSteps e start l)

include steps

/-- Every entry was the best choice when its turn came. -/
theorem entry_best {pre post : List PlanEntry} {x : PlanEntry} (split : l = pre ++ x :: post) :
    ∃ c, bestChoice (s.qualifiers e (s.powersAfter start pre) (pre.map (·.conn))) = some c ∧ c.entry = x := by
  induction steps generalizing post with
  | nil => simp at split
  | @step done c _ best ih =>
    rcases List.eq_nil_or_concat post with rfl | ⟨post, z, rfl⟩
    · obtain ⟨rfl, entry⟩ := List.concat_inj.mp (by simpa using split : done.concat c.entry = pre.concat x)
      exact ⟨c, best, entry⟩
    · refine ih (post := post) ?_
      have : done.concat c.entry = (pre ++ x :: post).concat z := by simpa using split
      exact (List.concat_inj.mp this).1

/-- So every entry moves a candidate, with a gain above both limits of R52. -/
theorem entry_movable {x : PlanEntry} (hx : x ∈ l) :
    (∃ load, s.Movable e x.conn x.source x.target load) ∧ 0 < x.gain ∧ 3 * (s.params.wmin : Int) ≤ x.gain := by
  obtain ⟨pre, post, split⟩ := List.append_of_mem hx
  obtain ⟨c, best, rfl⟩ := steps.entry_best split
  obtain ⟨movable, -, -, pos, least⟩ := State.movable_of_best best
  exact ⟨⟨_, movable⟩, pos, least⟩

theorem conns_differ : l.Pairwise fun a b => a.conn ≠ b.conn := by
  induction steps with
  | nil => exact .nil
  | step _ best ih =>
    refine List.pairwise_append.mpr ⟨ih, List.pairwise_singleton _ _, fun a ha b hb same => ?_⟩
    obtain rfl := List.mem_singleton.mp hb
    exact (State.movable_of_best best).2.1 (List.mem_map.mpr ⟨a, ha, same⟩)

/-- The gains of a batch add up to what it takes off U3. -/
theorem gains_sum : (l.map (·.gain)).sum = u3 start - u3 (s.powersAfter start l) := by
  induction steps with
  | nil => simp [State.powersAfter]
  | step _ best ih =>
    obtain ⟨movable, -, gain, -⟩ := State.movable_of_best best
    rw [State.powersAfter_step movable.load, List.map_append, List.sum_append, ih, List.map_singleton,
      List.sum_singleton, gain, gainOf]
    omega

end State.BestSteps

/-! ### The checks of a run (R46) -/

theorem State.allAverages_eq_some {a b c : Int} (ha : s.average .A = some a) (hb : s.average .B = some b)
    (hc : s.average .C = some c) : s.allAverages = some ⟨a, b, c⟩ := by
  rw [State.allAverages, ha, hb, hc]

theorem State.allAverages_eq_none (missing : s.average .A = none ∨ s.average .B = none ∨ s.average .C = none) :
    s.allAverages = none := by
  unfold State.allAverages
  split
  · simp_all
  · rfl

theorem State.mem_records {r : MoveRec} :
    r ∈ s.records ↔ r ∈ s.mvq.queue ∨ ∃ k sl, s.slot k = some sl ∧ sl.record = r := by
  simp [State.records, State.slotRecords, mem_allSlots]

theorem State.plannerOutstanding_iff : s.plannerOutstanding = true ↔ ∃ r ∈ s.records, r.origin = .planner := by
  simp only [State.plannerOutstanding, Bool.or_eq_true, List.any_eq_true, MoveRec.isPlanner, beq_iff_eq,
    State.mem_records, mem_allSlots, true_and]
  constructor
  · rintro (⟨r, hr, planner⟩ | ⟨k, planner⟩)
    · exact ⟨r, .inl hr, planner⟩
    · split at planner
      · next sl slot => exact ⟨_, .inr ⟨k, sl, slot, rfl⟩, by simpa using planner⟩
      · simp at planner
  · rintro ⟨r, hr | ⟨k, sl, slot, rfl⟩, planner⟩
    · exact .inl ⟨r, hr, planner⟩
    · exact .inr ⟨k, by simpa [slot] using planner⟩

theorem State.queueFull_iff : s.queueFull = true ↔ 16 ≤ s.mvq.queue.length := by
  exact decide_eq_true_iff

/-- A run meets the first four checks of R46, with these averages. -/
structure State.ReadyToPlan (s : State) (d : Bool) (w : PerPhase Int) : Prop where
  mode : s.modeName = .auto
  undisturbed : d = false
  averages : s.allAverages = some w
  noneOutstanding : s.plannerOutstanding = false
  place : s.queueFull = false

theorem State.plannerRun_of_averages (mode : s.modeName = .auto) (undisturbed : d = false)
    (averages : s.allAverages = some w) : s.plannerRun e d =
      if s.plannerOutstanding then s.setPlan (planStatus e .pending none none [])
      else if s.queueFull then s.setPlan (planStatus e .queueFull none none [])
      else s.planOn e w := by
  simp only [State.plannerRun, mode, undisturbed, averages, ne_eq, not_true_eq_false, if_false]

theorem State.plannerRun_of_missing (mode : s.modeName = .auto) (missing : s.allAverages = none) :
    s.plannerRun e d = s.setPlan (planStatus e .disturbed none none []) := by
  simp only [State.plannerRun, mode, missing, ne_eq, not_true_eq_false, if_false]

theorem State.plannerRun_of_ready (ready : s.ReadyToPlan d w) : s.plannerRun e d = s.planOn e w := by
  obtain ⟨mode, undisturbed, averages, noneOutstanding, place⟩ := ready
  rw [State.plannerRun_of_averages mode undisturbed averages, noneOutstanding, place]
  rfl

/-! ### How a run ends (R54 to R57) -/

/-- The moves a run chooses on its starting powers (R54). -/
def State.planEntries (s : State) (w : PerPhase Int) : List PlanEntry := (s.batch s.tbs.epoch s.stepLimit w []).1

theorem State.planEntries_spec (s : State) (w : PerPhase Int) : s.BestSteps s.tbs.epoch w (s.planEntries w)
    ∧ (s.batch s.tbs.epoch s.stepLimit w []).2 = s.powersAfter w (s.planEntries w)
    ∧ (s.planEntries w).length ≤ s.params.kmax := by
  obtain ⟨steps, powers, length⟩ := State.batch_spec (s := s) (start := w) s.stepLimit (.nil (e := s.tbs.epoch))
  exact ⟨steps, powers, (length.trans (Nat.zero_add _).le).trans (min_le_left _ _)⟩

/-- What a PLANNED run leaves: its records handed over, its status written, PLAN_MADE raised (R55 to R57). -/
def State.planMade (s : State) (e : Word) (w : PerPhase Int) : State :=
  ((s.acceptBatch (s.planEntries w)).setPlan (planStatus e .planned (some (u3 w))
    (some (u3 (s.powersAfter w (s.planEntries w)))) (s.planEntries w))).raise .planMade

/-- Past check 5 the batch alone decides between NO_CANDIDATE and PLANNED (R55). -/
theorem State.planOn_of_unbalanced (uneven : ¬ u3 w ≤ 3 * (s.params.wtrig : Int)) : s.planOn e w =
    if s.planEntries w = [] then s.setPlan (planStatus e .noCandidate (some (u3 w)) none []) else s.planMade e w := by
  simp only [State.planOn, if_neg uneven, List.isEmpty_iff, State.planMade, ← (s.planEntries_spec w).2.1]
  rfl

/-- A run writes a status without entries and does nothing else, or it has passed every check and made a plan. -/
theorem State.plannerRun_cases (s : State) (e : Word) (d : Bool) :
    (∃ o before, o ≠ .planned ∧ s.plannerRun e d = s.setPlan (planStatus e o before none []))
      ∨ ∃ w, s.ReadyToPlan d w ∧ s.planEntries w ≠ [] ∧ s.plannerRun e d = s.planMade e w := by
  by_cases ready : ∃ w, s.ReadyToPlan d w
  · obtain ⟨w, ready⟩ := ready
    rw [State.plannerRun_of_ready ready]
    by_cases balanced : u3 w ≤ 3 * (s.params.wtrig : Int)
    · exact .inl ⟨.balanced, _, by decide, if_pos balanced⟩
    rw [State.planOn_of_unbalanced balanced]
    split
    · exact .inl ⟨.noCandidate, _, by decide, rfl⟩
    · next chosen => exact .inr ⟨w, ready, chosen, rfl⟩
  left
  by_cases mode : s.modeName = .auto
  · cases d with
    | true => exact ⟨.disturbed, none, by decide, by rw [State.plannerRun_disturbed, if_pos mode]⟩
    | false =>
      cases averages : s.allAverages with
      | none => exact ⟨.disturbed, none, by decide, State.plannerRun_of_missing mode averages⟩
      | some w =>
        rw [State.plannerRun_of_averages mode rfl averages]
        split
        · exact ⟨.pending, none, by decide, rfl⟩
        · next outstanding =>
          split
          · exact ⟨.queueFull, none, by decide, rfl⟩
          · next full => exact absurd ⟨w, mode, rfl, averages, by simpa using outstanding, by simpa using full⟩ ready
  · exact ⟨.notAuto, none, by decide, if_pos mode⟩

theorem State.planMade_plan : (s.planMade e w).bpl.plan = some (planStatus e .planned (some (u3 w))
    (some (u3 (s.powersAfter w (s.planEntries w)))) (s.planEntries w)) := rfl

end Sys2Proof.Machine

open Sys2Proof Sys2Proof.Machine

/-- Settles O59: the status from the two ways a run can end and the chain of best choices, then the checks in order. -/
theorem plannedRunLowersImbalance : Obligations.PlannedRunLowersImbalance := by
  refine ⟨fun s e d => ?_, fun s e d => ⟨fun mode => if_pos mode, fun mode => ⟨fun fails => ?_,
    fun a b c undisturbed ha hb hc => ⟨fun outstanding => ?_, fun noPlanner => ⟨fun full => ?_, fun place => ?_⟩⟩⟩⟩⟩
  · rcases s.plannerRun_cases e d with ⟨o, before, other, run⟩ | ⟨w, -, chosen, run⟩
    · rw [run]
      exact ⟨_, rfl, rfl, iff_of_false other (· rfl), Nat.zero_le _, .nil, fun planned => absurd planned other⟩
    · obtain ⟨steps, -, length⟩ := s.planEntries_spec w
      have sum := steps.gains_sum
      have pos : 0 < ((s.planEntries w).map (·.gain)).sum := by
        refine List.sum_pos _ (fun g hg => ?_) (by simpa using chosen)
        obtain ⟨x, hx, rfl⟩ := List.mem_map.mp hg
        exact (steps.entry_movable hx).2.1
      refine ⟨_, run ▸ State.planMade_plan, rfl, iff_of_true rfl chosen, length, steps.conns_differ, fun _ =>
        ⟨_, _, rfl, rfl, by omega, sum.symm, fun x hx => ?_⟩⟩
      obtain ⟨-, gain, least⟩ := steps.entry_movable hx
      exact ⟨least, gain⟩
  · cases d with
    | true => exact (s.plannerRun_disturbed e).trans (by rw [if_pos mode]; rfl)
    | false => exact State.plannerRun_of_missing mode (State.allAverages_eq_none (fails.resolve_left (by decide)))
  all_goals have run := State.plannerRun_of_averages (e := e) mode undisturbed (State.allAverages_eq_some ha hb hc)
  · exact run.trans (if_pos (State.plannerOutstanding_iff.mpr outstanding))
  all_goals
    have free : ¬ s.plannerOutstanding = true := by
      intro outstanding
      obtain ⟨r, hr, planner⟩ := State.plannerOutstanding_iff.mp outstanding
      exact noPlanner r hr planner
    rw [if_neg free] at run
  · exact run.trans (if_pos (State.queueFull_iff.mpr full))
  · rw [if_neg (fun h => absurd (State.queueFull_iff.mp h) (not_le.mpr place))] at run
    rw [run]
    refine ⟨fun balanced => if_pos balanced, fun uneven => ?_⟩
    rw [State.planOn_of_unbalanced (not_le.mpr uneven)]
    split
    · exact .inl rfl
    · exact .inr ⟨_, State.planMade_plan, rfl, rfl⟩
end

section
/-! What a planner run and a rescue pass hand to the Move Queue (R55, R61 to R65): what an acceptance and a displacement
write, the records of a batch, and what stays true of a pass from one connection to the next. -/

namespace Sys2Proof.Machine

open Sys2Proof

variable {s t : State}

/-! ### Acceptance and displacement (R68 to R73) -/

/-- The record an acceptance makes (R68, R69, R72). -/
def State.acceptedRec (s : State) (n : ConnId) (x y : Phase) (o : Origin) : MoveRec :=
  { seq := s.mvq.seqCounter, conn := n, source := x, target := y, origin := o, load := (s.conn n).epochLoad,
    acceptedEpoch := s.tbs.epoch, cancel := false, breaks := 0, makes := 0, returns := 0, breakTime := none,
    order := s.mvq.acceptCount }

theorem State.accept_mvq (s : State) (n : ConnId) (x y : Phase) (o : Origin) : (s.accept n x y o).mvq = { s.mvq with
    queue := insertRec (s.acceptedRec n x y o) s.mvq.queue
    seqCounter := s.mvq.seqCounter + 1
    acceptCount := s.mvq.acceptCount + 1 } := rfl

theorem State.accept_conn (s : State) (n m : ConnId) (x y : Phase) (o : Origin) : (s.accept n x y o).conn m =
    if m = n then { s.conn n with recordLink := some s.mvq.seqCounter } else s.conn m :=
  s.conn_setConn n m _

theorem insertRec_perm (r : MoveRec) (q : List MoveRec) : (insertRec r q).Perm (r :: q) := by
  induction q with
  | nil => rfl
  | cons x q ih =>
    rw [insertRec]
    split
    · rfl
    · exact (ih.cons x).trans (.swap r x q)

theorem State.mem_accept {n : ConnId} {x y : Phase} {o : Origin} {r : MoveRec} :
    r ∈ (s.accept n x y o).mvq.queue ↔ r = s.acceptedRec n x y o ∨ r ∈ s.mvq.queue := by
  rw [State.accept_mvq, (insertRec_perm _ _).mem_iff, List.mem_cons]

/-- Making room changes nothing, or ends a queued PLANNER record as DISPLACED (R72). -/
theorem State.makeRoom_cases (s : State) : s.makeRoom = s
    ∨ ∃ d ∈ s.mvq.queue, d.origin = .planner ∧ s.makeRoom = s.endQueued d .displaced := by
  unfold State.makeRoom
  split
  · split
    · next d youngest =>
      have planner := List.find?_some youngest
      exact .inr ⟨d, List.mem_reverse.mp (List.mem_of_find?_eq_some youngest), by simpa [MoveRec.isPlanner] using planner,
        rfl⟩
    · exact .inl rfl
  · exact .inl rfl

/-- What a displaced record leaves of the Move Queue, and of the connections. -/
theorem State.endQueued_displaced (s : State) (d : MoveRec) :
    let t := s.endQueued d .displaced
    t.mvq.queue = s.mvq.queue.filter (fun x => x.order != d.order) ∧ t.mvq.seqCounter = s.mvq.seqCounter
      ∧ t.mvq.acceptCount = s.mvq.acceptCount
      ∧ ∀ n, t.conn n = if d.conn = n then (s.conn n).unlinked else s.conn n := by
  rw [State.endQueued_eq s d rfl]
  refine ⟨rfl, rfl, rfl, fun n => ?_⟩
  exact (getElem_unlinkConns [d] s.conns n).trans (by simp [State.conn])

/-- Where only record links differ, a record is the other one with its own link. -/
theorem LinksOnly.conn_eq (h : LinksOnly s t) (n : ConnId) :
    t.conn n = { s.conn n with recordLink := (t.conn n).recordLink } :=
  congrArg (fun c : Conn => { c with recordLink := (t.conn n).recordLink }) (h.conn n)

/-! ### The records of a batch (R55) -/

/-- A record handed over for a plan's entry. -/
def State.AcceptedFor (s : State) (x : PlanEntry) (r : MoveRec) : Prop :=
  r.conn = x.conn ∧ r.source = x.source ∧ r.target = x.target ∧ r.origin = .planner
    ∧ r.load = (s.conn x.conn).epochLoad ∧ r.acceptedEpoch = s.tbs.epoch

theorem State.mem_acceptBatch {l : List PlanEntry} (links : LinksOnly s t) (epoch : t.tbs = s.tbs) {r : MoveRec}
    (hr : r ∈ (t.acceptBatch l).mvq.queue) : r ∈ t.mvq.queue ∨ ∃ x ∈ l, s.AcceptedFor x r := by
  induction l generalizing t with
  | nil => exact .inl hr
  | cons x l ih =>
    rcases ih links.accept (by simpa using epoch) hr with hr | ⟨y, hy, accepted⟩
    · rcases State.mem_accept.mp hr with rfl | hr
      · exact .inr ⟨x, List.mem_cons_self, rfl, rfl, rfl, rfl, (congrArg Conn.epochLoad (links.conn x.conn) :),
          congrArg Tbs.epoch epoch⟩
      · exact .inl hr
    · exact .inr ⟨y, List.mem_cons_of_mem _ hy, accepted⟩

theorem rested_lastMove {c : Conn} {e : Word} {rest : Nat} (h : rested c e rest = true) {m : Word}
    (last : c.lastMove = some m) : rest ≤ (e - m).toNat := by
  simpa [rested, last] using h

/-! ### Rescue candidates and targets (R61 to R63) -/

/-- The conditions of R61 on a connection, but the record link. -/
structure State.Rescuable (s : State) (n : ConnId) (x : Phase) : Prop where
  phase : (s.conn n).phase = .on x
  present : (s.conn n).present = true
  link : (s.conn n).link = .online
  lost : s.health x = .lost
  pin : (s.conn n).pin = false
  hold : (s.conn n).hold = none
  moves : (s.conn n).movesToday < 15

theorem State.rescueCandidate_eq_some {n : ConnId} {x : Phase} :
    s.rescueCandidate n = some x ↔ s.Rescuable n x ∧ (s.conn n).recordLink = none := by
  unfold State.rescueCandidate
  dsimp only
  constructor
  · intro h
    split at h
    · next hp =>
      obtain ⟨⟨present, link, lost, pin, hold, free, moves⟩, eq⟩ := Option.ite_none_right_eq_some.mp h
      obtain rfl := Option.some.inj eq
      exact ⟨⟨hp, present, link, lost, pin, Option.isNone_iff_eq_none.mp hold, moves⟩, Option.isNone_iff_eq_none.mp free⟩
    all_goals simp at h
  · rintro ⟨⟨hp, present, link, lost, pin, hold, moves⟩, free⟩
    rw [hp]
    simp [*]

theorem mem_rescueTargets {w : PerPhase Int} {x y : Phase} {l : Int} : y ∈ s.rescueTargets w x l ↔
    y ≠ x ∧ s.health y = .healthy ∧ |w.get y + l| ≤ (s.params.plim : Int) := by
  simp [State.rescueTargets, mem_phases]

theorem lowestPower_firstLeast (w : PerPhase Int) : FirstLeast w.get (lowestPower w) where
  nil := rfl
  last rest := by rw [lowestPower, rest]
  cons rest := by simp only [lowestPower, rest]

theorem State.rescueTargets_ordered (s : State) (w : PerPhase Int) (x : Phase) (l : Int) :
    (s.rescueTargets w x l).Pairwise fun y z => Phase.code y < Phase.code z :=
  phases_ordered.filter _

/-- The target of a pass fits, is of the lowest power, and of the phases of that power that fit it comes first (R63). -/
theorem State.lowestPower_spec {w : PerPhase Int} {x y : Phase} {l : Int}
    (lowest : lowestPower w (s.rescueTargets w x l) = some y) : y ∈ s.rescueTargets w x l
      ∧ ∀ z ∈ s.rescueTargets w x l, w.get y < w.get z ∨ (w.get y = w.get z ∧ Phase.code y ≤ Phase.code z) := by
  obtain ⟨mem, least⟩ := (lowestPower_firstLeast w).spec (s.rescueTargets_ordered w x l) lowest
  exact ⟨mem, fun z hz => (least z hz).imp_right (And.imp_right fun tie => tie.elim (fun same => same ▸ le_rfl) le_of_lt)⟩

/-! ### One connection of a pass (R61 to R64) -/

/-- A connection is passed over, which counts nothing accepted, or it is a candidate with a target and its record is
accepted. -/
theorem Pass.examine_cases (a : Pass) (n : ConnId) :
    ((a.examine n).state = a.state ∧ (a.examine n).powers = a.powers ∧ (a.examine n).accepted = a.accepted)
      ∨ ∃ x y, a.state.rescueCandidate n = some x
        ∧ lowestPower a.powers (a.state.rescueTargets a.powers x (rescueLoad (a.state.conn n))) = some y
        ∧ (a.examine n).state = a.state.makeRoom.accept n x y .rescue
        ∧ (a.examine n).powers = a.powers.set y (a.powers.get y + rescueLoad (a.state.conn n))
        ∧ (a.examine n).accepted = a.accepted + 1 := by
  unfold Pass.examine
  split
  · exact .inl ⟨rfl, rfl, rfl⟩
  · next x candidate =>
    split
    · exact .inl ⟨rfl, rfl, rfl⟩
    · dsimp only
      split
      · exact .inl ⟨rfl, rfl, rfl⟩
      · next y target =>
        unfold Pass.place
        split
        · exact .inl ⟨rfl, rfl, rfl⟩
        · exact .inr ⟨x, y, candidate, target, rfl, rfl, rfl⟩

/-- What holds from one connection of a pass to the next holds at its end. -/
theorem Pass.foldl_examine {p : Pass → Prop} (step : ∀ a n, p a → p (a.examine n)) (l : List ConnId) {a : Pass}
    (h : p a) : p (l.foldl Pass.examine a) := by
  induction l generalizing a with
  | nil => exact h
  | cons n l ih => exact ih (step a n h)

/-! ### The records a pass hands over (R61, R64, log 15) -/

/-- A queued PLANNER record of a connection, which a pass may displace. -/
def State.Displaceable (s : State) (n : ConnId) : Prop := ∃ x ∈ s.mvq.queue, x.origin = .planner ∧ x.conn = n

/-- A record a pass made from the state s may hand over. -/
structure State.RescueRecord (s : State) (r : MoveRec) : Prop where
  origin : r.origin = .rescue
  candidate : s.Rescuable r.conn r.source
  target : s.health r.target = .healthy
  load : r.load = (s.conn r.conn).epochLoad
  epoch : r.acceptedEpoch = s.tbs.epoch
  free : (s.conn r.conn).recordLink = none ∨ s.Displaceable r.conn

/-- A pass from s has come to the state t, with so many records accepted. -/
structure State.Rescuing (s t : State) (accepted : Nat) : Prop where
  links : LinksOnly s t
  fmu : t.fmu = s.fmu
  params : t.params = s.params
  tbs : t.tbs = s.tbs
  bpl : t.bpl = s.bpl
  planners : ∀ r ∈ t.mvq.queue, r.origin = .planner → r ∈ s.mvq.queue
  freed : ∀ n, (t.conn n).recordLink = none → (s.conn n).recordLink = none ∨ s.Displaceable n
  handed : ∀ r ∈ t.mvq.queue, r ∉ s.mvq.queue → s.RescueRecord r
  counted : t.mvq.seqCounter = s.mvq.seqCounter + BitVec.ofNat 16 accepted

namespace State.Rescuing

variable {accepted : Nat}

theorem start (s : State) : s.Rescuing s 0 where
  links := .refl s
  fmu := rfl
  params := rfl
  tbs := rfl
  bpl := rfl
  planners _ hr _ := hr
  freed _ free := .inl free
  handed _ hr other := absurd hr other
  counted := by simp

theorem health (h : s.Rescuing t accepted) (p : Phase) : t.health p = s.health p := by
  rw [State.health, State.chan, h.fmu]
  rfl

theorem targets (h : s.Rescuing t accepted) (w : PerPhase Int) (x : Phase) (l : Int) :
    t.rescueTargets w x l = s.rescueTargets w x l := by
  simp only [State.rescueTargets, h.health, h.params]

theorem load (h : s.Rescuing t accepted) (n : ConnId) : rescueLoad (t.conn n) = rescueLoad (s.conn n) := by
  rw [h.links.conn_eq n]
  rfl

theorem rescuable (h : s.Rescuing t accepted) {n : ConnId} {x : Phase} (hx : t.Rescuable n x) : s.Rescuable n x := by
  obtain ⟨phase, present, link, lost, pin, hold, moves⟩ := hx
  rw [h.links.conn_eq n] at phase present link pin hold moves
  exact ⟨phase, present, link, h.health x ▸ lost, pin, hold, moves⟩

theorem displace (h : s.Rescuing t accepted) {d : MoveRec} (hd : d ∈ t.mvq.queue) (planner : d.origin = .planner) :
    s.Rescuing (t.endQueued d .displaced) accepted := by
  obtain ⟨queue, seq, -, conn⟩ := t.endQueued_displaced d
  have stays {r : MoveRec} (hr : r ∈ (t.endQueued d .displaced).mvq.queue) : r ∈ t.mvq.queue :=
    List.mem_of_mem_filter (queue ▸ hr)
  refine ⟨h.links.endQueued, by simp [h.fmu], by simp [h.params], by simp [h.tbs], by simp [h.bpl],
    fun r hr => h.planners r (stays hr), fun n free => ?_, fun r hr => h.handed r (stays hr), seq ▸ h.counted⟩
  rw [conn] at free
  split at free
  · next own => exact .inr ⟨d, h.planners d hd planner, planner, own⟩
  · exact h.freed n free

theorem makeRoom (h : s.Rescuing t accepted) : s.Rescuing t.makeRoom accepted := by
  rcases t.makeRoom_cases with same | ⟨d, hd, planner, displaced⟩
  · rw [same]
    exact h
  · rw [displaced]
    exact h.displace hd planner

theorem accept (h : s.Rescuing t accepted) {n : ConnId} {x y : Phase} (candidate : s.Rescuable n x)
    (free : (s.conn n).recordLink = none ∨ s.Displaceable n) (target : s.health y = .healthy) :
    s.Rescuing (t.accept n x y .rescue) (accepted + 1) := by
  refine ⟨h.links.accept, by simp [h.fmu], by simp [h.params], by simp [h.tbs], by simp [h.bpl],
    fun r hr planner => ?_, fun m none => ?_, fun r hr other => ?_, ?_⟩
  · rcases State.mem_accept.mp hr with rfl | hr
    · simp [State.acceptedRec] at planner
    · exact h.planners r hr planner
  · rw [State.accept_conn] at none
    split at none
    · simp at none
    · exact h.freed m none
  · rcases State.mem_accept.mp hr with rfl | hr
    · exact ⟨rfl, candidate, target, (congrArg Conn.epochLoad (h.links.conn n) :), congrArg Tbs.epoch h.tbs, free⟩
    · exact h.handed r hr other
  · rw [State.accept_mvq, h.counted, BitVec.ofNat_add]
    exact BitVec.add_assoc ..

theorem examine {a : Pass} (h : s.Rescuing a.state a.accepted) (n : ConnId) :
    s.Rescuing (a.examine n).state (a.examine n).accepted := by
  rcases a.examine_cases n with ⟨state, -, accepted⟩ | ⟨x, y, candidate, target, state, -, accepted⟩
  · rw [state, accepted]
    exact h
  · rw [state, accepted]
    obtain ⟨rescuable, free⟩ := State.rescueCandidate_eq_some.mp candidate
    have fits := mem_rescueTargets.mp (State.lowestPower_spec target).1
    exact h.makeRoom.accept (h.rescuable rescuable) (h.freed n free) (h.health y ▸ fits.2.1)

end State.Rescuing

/-! ### The powers a pass goes by (R62, R63) -/

/-- The records of a queue that a pass from s accepted, before a place in the acceptance order, for a phase. -/
def State.acceptedFor (s : State) (q : List MoveRec) (upTo : Nat) (z : Phase) : List MoveRec :=
  q.filter fun x => decide (s.mvq.acceptCount ≤ x.order ∧ x.order < upTo ∧ x.target = z)

/-- The working power of a phase once those records are accepted. -/
def State.rescuePower (s : State) (q : List MoveRec) (upTo : Nat) (z : Phase) : Int :=
  (s.average z).getD 0 + ((s.acceptedFor q upTo z).map fun x => rescueLoad (s.conn x.conn)).sum

def State.rescuePowers (s : State) (q : List MoveRec) (upTo : Nat) : PerPhase Int :=
  ⟨s.rescuePower q upTo .A, s.rescuePower q upTo .B, s.rescuePower q upTo .C⟩

theorem State.rescuePowers_get (q : List MoveRec) (upTo : Nat) (z : Phase) :
    (s.rescuePowers q upTo).get z = s.rescuePower q upTo z := by
  cases z <;> rfl

theorem PerPhase.ext_get {α : Type} {t u : PerPhase α} (h : ∀ p, t.get p = u.get p) : t = u := by
  obtain ⟨a, b, c⟩ := t
  obtain ⟨a', b', c'⟩ := u
  obtain rfl : a = a' := h .A
  obtain rfl : b = b' := h .B
  obtain rfl : c = c' := h .C
  rfl

/-- A record that was queued before the pass counts for no working power, so its ending changes none. -/
theorem State.rescuePowers_without {old : Nat} (before : old < s.mvq.acceptCount) (q : List MoveRec) (upTo : Nat) :
    s.rescuePowers (q.filter fun x => x.order != old) upTo = s.rescuePowers q upTo := by
  have same (z : Phase) : s.acceptedFor (q.filter fun x => x.order != old) upTo z = s.acceptedFor q upTo z := by
    rw [State.acceptedFor, List.filter_filter]
    refine List.filter_congr fun x _ => ?_
    rw [Bool.and_eq_left_iff_imp, decide_eq_true_iff, bne_iff_ne]
    omega
  simp only [State.rescuePowers, State.rescuePower, same]

theorem State.rescuePower_insertRec (r : MoveRec) (q : List MoveRec) (upTo : Nat) (z : Phase) :
    s.rescuePower (insertRec r q) upTo z = s.rescuePower q upTo z
      + if s.mvq.acceptCount ≤ r.order ∧ r.order < upTo ∧ r.target = z then rescueLoad (s.conn r.conn) else 0 := by
  have sum := (((insertRec_perm r q).filter
    fun x => decide (s.mvq.acceptCount ≤ x.order ∧ x.order < upTo ∧ x.target = z)).map
      fun x => rescueLoad (s.conn x.conn)).sum_eq
  rw [State.rescuePower, State.acceptedFor, sum, List.filter_cons]
  split
  · next counts =>
    rw [if_pos (of_decide_eq_true counts), List.map_cons, List.sum_cons, State.rescuePower, State.acceptedFor]
    omega
  · next counts =>
    rw [if_neg fun h => counts (decide_eq_true h), add_zero]
    rfl

/-- A record counts for nothing before its own place in the order. -/
theorem State.rescuePowers_insertRec_before {r : MoveRec} {upTo : Nat} (h : upTo ≤ r.order) (q : List MoveRec) :
    s.rescuePowers (insertRec r q) upTo = s.rescuePowers q upTo :=
  PerPhase.ext_get fun z => by
    rw [State.rescuePowers_get, State.rescuePowers_get, State.rescuePower_insertRec, if_neg (by omega), add_zero]

/-- Past it, its load stands on its target. -/
theorem State.rescuePowers_insertRec_past {r : MoveRec} {q : List MoveRec} (new : s.mvq.acceptCount ≤ r.order)
    (last : ∀ x ∈ q, x.order < r.order) : s.rescuePowers (insertRec r q) (r.order + 1) =
      (s.rescuePowers q r.order).set r.target
        ((s.rescuePowers q r.order).get r.target + rescueLoad (s.conn r.conn)) := by
  have upTo (z : Phase) : s.rescuePower q (r.order + 1) z = s.rescuePower q r.order z := by
    have same : s.acceptedFor q (r.order + 1) z = s.acceptedFor q r.order z := List.filter_congr fun x hx => by
      have earlier : x.order < r.order + 1 ↔ x.order < r.order := iff_of_true (Nat.lt_succ_of_lt (last x hx)) (last x hx)
      simp only [earlier]
    rw [State.rescuePower, State.rescuePower, same]
  refine PerPhase.ext_get fun z => ?_
  rw [State.rescuePowers_get, State.rescuePower_insertRec, upTo]
  by_cases own : z = r.target
  · subst own
    rw [if_pos ⟨new, by omega, rfl⟩, PerPhase.get_set_same, State.rescuePowers_get]
  · rw [if_neg fun h => own h.2.2.symm, PerPhase.get_set_ne _ _ own, State.rescuePowers_get, add_zero]

/-- The target of a record is the phase R63 gives, on the powers that the records accepted before it leave. -/
def State.LowestTarget (s : State) (q : List MoveRec) (r : MoveRec) : Prop :=
  lowestPower (s.rescuePowers q r.order)
    (s.rescueTargets (s.rescuePowers q r.order) r.source (rescueLoad (s.conn r.conn))) = some r.target

/-- The queue of a pass from s that has come to t, with its working powers: the orders grow, and every record the pass
has accepted went to the phase of the lowest power. -/
structure State.Placing (s t : State) (w : PerPhase Int) : Prop where
  later : s.mvq.acceptCount ≤ t.mvq.acceptCount
  below : ∀ r ∈ t.mvq.queue, r.order < t.mvq.acceptCount
  powers : w = s.rescuePowers t.mvq.queue t.mvq.acceptCount
  lowest : ∀ r ∈ t.mvq.queue, s.mvq.acceptCount ≤ r.order → s.LowestTarget t.mvq.queue r

namespace State.Placing

variable {w : PerPhase Int}

theorem start (below : ∀ r ∈ s.mvq.queue, r.order < s.mvq.acceptCount) : s.Placing s s.passPowers where
  later := le_rfl
  below := below
  powers := by
    have empty (z : Phase) : s.acceptedFor s.mvq.queue s.mvq.acceptCount z = [] :=
      List.filter_eq_nil_iff.mpr fun r _ h => by
        have := of_decide_eq_true h
        omega
    simp only [State.passPowers, State.rescuePowers, State.rescuePower, empty, List.map_nil, List.sum_nil, add_zero]
  lowest r hr new := absurd (below r hr) (not_lt.mpr new)

theorem displace (h : s.Placing t w) {d : MoveRec} (old : d.order < s.mvq.acceptCount) :
    s.Placing (t.endQueued d .displaced) w := by
  obtain ⟨queue, -, count, -⟩ := t.endQueued_displaced d
  have same := State.rescuePowers_without (s := s) old t.mvq.queue
  refine ⟨count ▸ h.later, ?_, ?_, ?_⟩
  · rw [queue, count]
    exact fun r hr => h.below r (List.mem_of_mem_filter hr)
  · rw [queue, count, same]
    exact h.powers
  · rw [queue]
    intro r hr new
    rw [State.LowestTarget, same]
    exact h.lowest r (List.mem_of_mem_filter hr) new

theorem makeRoom (h : s.Placing t w)
    (planners : ∀ r ∈ t.mvq.queue, r.origin = .planner → r.order < s.mvq.acceptCount) : s.Placing t.makeRoom w := by
  rcases t.makeRoom_cases with same | ⟨d, hd, planner, displaced⟩
  · rw [same]
    exact h
  · rw [displaced]
    exact h.displace (planners d hd planner)

theorem accept (h : s.Placing t w) {n : ConnId} {x y : Phase}
    (target : lowestPower w (s.rescueTargets w x (rescueLoad (s.conn n))) = some y) :
    s.Placing (t.accept n x y .rescue) (w.set y (w.get y + rescueLoad (s.conn n))) := by
  obtain ⟨r, hr⟩ : ∃ r, t.acceptedRec n x y .rescue = r := ⟨_, rfl⟩
  have order : r.order = t.mvq.acceptCount := hr ▸ rfl
  have past := State.rescuePowers_insertRec_past (s := s) (q := t.mvq.queue) (order ▸ h.later)
    fun z hz => order ▸ h.below z hz
  have before {upTo : Nat} (le : upTo ≤ r.order) := State.rescuePowers_insertRec_before (s := s) le t.mvq.queue
  refine ⟨Nat.le_succ_of_le h.later, fun z hz => ?_, ?_, fun z hz new => ?_⟩
  · rcases State.mem_accept.mp hz with rfl | hz
    · exact Nat.lt_succ_self _
    · exact Nat.lt_succ_of_lt (h.below z hz)
  · rw [State.accept_mvq, hr, ← order, past, order, ← h.powers, ← hr]
    rfl
  · rw [State.accept_mvq, hr]
    rw [State.mem_accept, hr] at hz
    rcases hz with rfl | hz
    · rw [State.LowestTarget, before le_rfl, order, ← h.powers, ← hr]
      exact target
    · rw [State.LowestTarget, before (order ▸ (h.below z hz).le)]
      exact h.lowest z hz new

theorem examine {a : Pass} (below : ∀ r ∈ s.mvq.queue, r.order < s.mvq.acceptCount)
    (h : s.Placing a.state a.powers) (pass : s.Rescuing a.state a.accepted) (n : ConnId) :
    s.Placing (a.examine n).state (a.examine n).powers := by
  rcases a.examine_cases n with ⟨state, powers, -⟩ | ⟨x, y, -, target, state, powers, -⟩
  · rw [state, powers]
    exact h
  · rw [pass.targets, pass.load] at target
    rw [state, powers, pass.load]
    exact (h.makeRoom fun r hr planner => below r (pass.planners r hr planner)).accept target

end State.Placing

/-! ### A pass, whole (R64, R65) -/

/-- The pass from s when every connection has been examined; irreducible, so that no check by `rfl` runs it. -/
@[irreducible] def State.passOf (s : State) : Pass := allConns.foldl Pass.examine
  { state := s, powers := s.passPowers, accepted := 0, displaced := 0, deferred := 0, unplaced := 0, stopped := false }

theorem State.passOf_rescuing (s : State) : s.Rescuing s.passOf.state s.passOf.accepted := by
  unfold State.passOf
  exact Pass.foldl_examine (p := fun a => s.Rescuing a.state a.accepted) (fun _ n h => h.examine n) _ (.start s)

theorem State.passOf_placing (below : ∀ r ∈ s.mvq.queue, r.order < s.mvq.acceptCount) :
    s.Placing s.passOf.state s.passOf.powers := by
  unfold State.passOf
  exact (Pass.foldl_examine (p := fun a => s.Rescuing a.state a.accepted ∧ s.Placing a.state a.powers)
    (fun _ n h => ⟨h.1.examine n, h.2.examine below h.1 n⟩) _ ⟨.start s, .start below⟩).2

/-- The status record a pass writes (R65). -/
def State.passStatus (s : State) (cause : RescueCause) : RescueStatus :=
  { cause := cause, epoch := s.tbs.epoch, lost := s.lostSet, accepted := s.passOf.accepted,
    displaced := s.passOf.displaced, deferred := s.passOf.deferred, unplaced := s.passOf.unplaced }

theorem State.rescuePass_eq (s : State) (cause : RescueCause) : s.rescuePass cause =
    if s.passOf.accepted = 0 then
      { s.passOf.state with bpl := { s.passOf.state.bpl with rescue := some (s.passStatus cause) } }
    else
      State.raise { s.passOf.state with bpl := { s.passOf.state.bpl with rescue := some (s.passStatus cause) } }
        .rescueStarted := by
  unfold State.rescuePass State.passStatus State.passOf
  rfl

theorem State.rescuePass_mvq (s : State) (cause : RescueCause) : (s.rescuePass cause).mvq = s.passOf.state.mvq := by
  rw [State.rescuePass_eq]
  split <;> rfl

theorem State.rescuePass_rescue (s : State) (cause : RescueCause) :
    (s.rescuePass cause).bpl.rescue = some (s.passStatus cause) := by
  rw [State.rescuePass_eq]
  split <;> rfl

/-- A pass that has accepted a record raises RESCUE_STARTED (R65). -/
theorem State.rescuePass_raises (s : State) (cause : RescueCause) (accepted : 0 < s.passOf.accepted) :
    (s.rescuePass cause).evu.statuses.getLsbD 11 = true := by
  rw [State.rescuePass_eq, if_neg (Nat.ne_of_gt accepted)]
  simp [State.raise, EventKind.mask, EventKind.bit]

theorem State.lostSet_get (p : Phase) : s.lostSet.get p = (s.health p == .lost) := by
  cases p <;> rfl

end Sys2Proof.Machine

open Sys2Proof Sys2Proof.Machine

/-- Settles O60: a run's records from its plan, the plan from the chain of best choices, and a pass's records and targets
from what stays true of it from one connection to the next. -/
theorem recordsOnlyFromCandidates : Obligations.RecordsOnlyFromCandidates := by
  refine ⟨fun s e d r hr new => ?_, fun s e d start p pre post x averages plan split => ?_,
    fun s e w done k y c qualifies => ?_, fun s w x l => ?_, fun s cause => ⟨fun r hr new => ?_, fun linked r hr new => ?_,
      _, s.rescuePass_rescue cause, rfl, rfl, fun x => State.lostSet_get x, ?_, s.rescuePass_raises cause⟩⟩
  · rcases s.plannerRun_cases e d with ⟨o, before, -, run⟩ | ⟨w, ready, -, run⟩
    · rw [run] at hr
      exact absurd hr new
    · rw [run] at hr ⊢
      have place : ¬ 16 ≤ s.mvq.queue.length := State.queueFull_iff.not.mp (by simp [ready.place])
      obtain ⟨x, hx, conn, source, target, origin, load, epoch⟩ :=
        (State.mem_acceptBatch (.refl s) rfl hr).resolve_left new
      obtain ⟨⟨l, movable⟩, -⟩ := (s.planEntries_spec w).1.entry_movable hx
      rw [conn, source, target]
      exact ⟨ready.mode, ready.undisturbed, ready.noneOutstanding, not_le.mp place, origin, movable.present, movable.link,
        movable.phase, movable.other, movable.healthy, movable.pin, movable.hold, movable.dark, movable.moves, load, epoch,
        by simp [load, movable.load], movable.recordLink, fun m => rested_lastMove movable.rested, _,
        State.planMade_plan, x, hx, rfl, rfl, rfl⟩
  · rcases s.plannerRun_cases e d with ⟨o, before, -, run⟩ | ⟨w, ready, -, run⟩
    · obtain rfl := Option.some.inj (plan.symm.trans (congrArg (·.bpl.plan) run))
      simp [planStatus] at split
    · obtain rfl := Option.some.inj (plan.symm.trans ((congrArg (·.bpl.plan) run).trans State.planMade_plan))
      obtain rfl := Option.some.inj (averages.symm.trans ready.averages)
      obtain ⟨c, best, rfl⟩ := (s.planEntries_spec start).1.entry_best split
      exact congrArg (Option.map (·.entry)) best
  · obtain ⟨candidate, conn, target, gain, pos, least⟩ := State.qualifying_eq_some.mp qualifies
    obtain ⟨movable, limit, fresh⟩ := State.candidate_eq_some.mp candidate
    exact ⟨conn, target, fresh, movable.load, limit, gain, pos, least⟩
  · refine ⟨?_, fun y lowest => ?_⟩
    · simp only [(lowestPower_firstLeast w).eq_none, List.eq_nil_iff_forall_not_mem, mem_rescueTargets]
    · obtain ⟨mem, least⟩ := State.lowestPower_spec lowest
      exact ⟨mem_rescueTargets.mp mem, fun z fits => least z (mem_rescueTargets.mpr fits)⟩
  · rw [State.rescuePass_mvq] at hr
    obtain ⟨origin, candidate, target, load, epoch, free⟩ := s.passOf_rescuing.handed r hr new
    exact ⟨origin, candidate.present, candidate.link, candidate.phase, candidate.lost, target, candidate.pin,
      candidate.hold, candidate.moves, load, epoch, free⟩
  · obtain ⟨-, -, -, below⟩ := linked
    rw [State.rescuePass_mvq] at hr ⊢
    exact (State.passOf_placing fun r hr => below r (List.mem_append_left _ hr)).lowest r hr new
  · rw [State.rescuePass_mvq]
    exact s.passOf_rescuing.counted
end

section
/-! The move records of the part, where they stand and how they are linked (R69, R70): one property of a state that
every operation keeps. -/

namespace Sys2Proof.Machine

open Sys2Proof

variable {s t : State} {ordered : Bool}

/-! ### Records that stand apart, linked from their connections -/

/-- Two records of different connections, accepted at different moments (R69, R70). -/
def MoveRec.Apart (x y : MoveRec) : Prop := x.conn ≠ y.conn ∧ x.order ≠ y.order

theorem MoveRec.Apart.symm {x y : MoveRec} (h : x.Apart y) : y.Apart x := ⟨h.1.symm, h.2.symm⟩

/-- One record at two moments: its attempts, its break time and its cancel flag may differ. -/
structure MoveRec.SameMove (x y : MoveRec) : Prop where
  seq : y.seq = x.seq
  conn : y.conn = x.conn
  order : y.order = x.order

theorem MoveRec.SameMove.refl (x : MoveRec) : x.SameMove x := ⟨rfl, rfl, rfl⟩

theorem MoveRec.Apart.same {x y x' y' : MoveRec} (h : x.Apart y) (hx : x.SameMove x') (hy : y.SameMove y') :
    x'.Apart y' := by
  unfold MoveRec.Apart
  rw [hx.conn, hx.order, hy.conn, hy.order]
  exact h

/-- A record is linked from its connection, and was accepted before the counter came to where it is. -/
structure State.Holds (s : State) (r : MoveRec) : Prop where
  link : (s.conn r.conn).recordLink = some r.seq
  counted : r.order < s.mvq.acceptCount

/-- The records of the queue and of the slots are held and stand apart; where it is asked for, the queue is in its order
(R70). -/
structure State.Filed (ordered : Bool) (s : State) : Prop where
  queued : ∀ r ∈ s.mvq.queue, s.Holds r
  slotted : ∀ k sl, s.slot k = some sl → s.Holds sl.record
  queueApart : s.mvq.queue.Pairwise MoveRec.Apart
  slotsApart : ∀ j k x y, j ≠ k → s.slot j = some x → s.slot k = some y → x.record.Apart y.record
  across : ∀ r ∈ s.mvq.queue, ∀ k sl, s.slot k = some sl → r.Apart sl.record
  sorted : ordered = true → s.mvq.queue.Pairwise fun x y => standsBefore x y = true

/-- Filed, and where order is asked for, with at most 16 records queued (R70). -/
structure State.MovesKept (ordered : Bool) (s : State) : Prop extends s.Filed ordered where
  short : ordered = true → s.mvq.queue.length ≤ 16

/-- A relation that is symmetric holds of the records in slots, pair by pair, if it holds of any two slots. -/
theorem State.slotRecords_pairwise {R : MoveRec → MoveRec → Prop} (symm : ∀ x y, R x y → R y x) :
    s.slotRecords.Pairwise R ↔ ∀ j k x y, j ≠ k → s.slot j = some x → s.slot k = some y → R x.record y.record := by
  rw [State.slotRecords, List.pairwise_filterMap]
  have each : (∀ j k : SlotId, j ≠ k → ∀ x, (s.slot j).map (·.record) = some x →
      ∀ y, (s.slot k).map (·.record) = some y → R x y)
      ↔ ∀ j k x y, j ≠ k → s.slot j = some x → s.slot k = some y → R x.record y.record := by
    simp only [Option.map_eq_some_iff, forall_exists_index, and_imp]
    exact ⟨fun h j k x y ne hx hy => h j k ne _ x hx rfl _ y hy rfl,
      fun h j k ne _ x hx ex _ y hy ey => ex ▸ ey ▸ h j k x y ne hx hy⟩
  rw [← each]
  constructor
  · intro pairs j k ne
    have : Std.Symm fun j k : SlotId => ∀ x, (s.slot j).map (·.record) = some x →
        ∀ y, (s.slot k).map (·.record) = some y → R x y := ⟨fun _ _ h x hx y hy => symm _ _ (h y hy x hx)⟩
    exact pairs.forall (mem_allSlots j) (mem_allSlots k) ne
  · exact fun h => (show allSlots.Pairwise (· ≠ ·) by decide).imp fun ne => h _ _ ne

/-- The law of R69 is that the records are filed. -/
theorem State.linked_iff : s.linked ↔ s.Filed false := by
  have both : s.linked ↔ (∀ r ∈ s.records, s.Holds r) ∧ s.records.Pairwise MoveRec.Apart := by
    unfold State.linked
    constructor
    · rintro ⟨links, conns, orders, below⟩
      exact ⟨fun r hr => ⟨links r hr, below r hr⟩, conns.and orders⟩
    · rintro ⟨held, apart⟩
      exact ⟨fun r hr => (held r hr).link, apart.imp And.left, apart.imp And.right, fun r hr => (held r hr).counted⟩
  have slots := s.slotRecords_pairwise (R := MoveRec.Apart) fun _ _ => MoveRec.Apart.symm
  rw [both, State.records, List.pairwise_append, slots]
  simp only [List.mem_append, State.slotRecords, List.mem_filterMap, mem_allSlots, true_and, Option.map_eq_some_iff]
  constructor
  · rintro ⟨held, queueApart, slotsApart, across⟩
    exact ⟨fun r hr => held r (.inl hr), fun k sl h => held _ (.inr ⟨k, sl, h, rfl⟩), queueApart, slotsApart,
      fun r hr k sl h => across r hr _ ⟨k, sl, h, rfl⟩, nofun⟩
  · rintro ⟨queued, slotted, queueApart, slotsApart, across, -⟩
    refine ⟨?_, queueApart, slotsApart, ?_⟩
    · rintro r (hr | ⟨k, sl, h, rfl⟩)
      · exact queued r hr
      · exact slotted k sl h
    · rintro r hr _ ⟨k, sl, h, rfl⟩
      exact across r hr k sl h

/-- Without order asked for, the law of R69 alone. -/
theorem State.movesKept_false : s.MovesKept false ↔ s.linked := by
  rw [State.linked_iff]
  exact ⟨fun h => h.toFiled, fun h => ⟨h, nofun⟩⟩

/-- With order asked for, the law of R70 beside it. -/
theorem State.movesKept_true : s.MovesKept true ↔ s.linked ∧ s.queueOrdered := by
  rw [State.linked_iff]
  constructor
  · rintro ⟨⟨queued, slotted, queueApart, slotsApart, across, sorted⟩, short⟩
    exact ⟨⟨queued, slotted, queueApart, slotsApart, across, nofun⟩, short rfl, sorted rfl⟩
  · rintro ⟨⟨queued, slotted, queueApart, slotsApart, across, -⟩, short, sorted⟩
    exact ⟨⟨queued, slotted, queueApart, slotsApart, across, fun _ => sorted⟩, fun _ => short⟩

/-- With nothing queued and every slot free there is nothing to ask. -/
theorem State.MovesKept.of_empty (queue : s.mvq.queue = []) (slots : ∀ k, s.slot k = none) : s.MovesKept ordered where
  queued r hr := by simp [queue] at hr
  slotted k sl h := by simp [slots k] at h
  queueApart := by simp [queue]
  slotsApart j k x y _ h := by simp [slots j] at h
  across r hr := by simp [queue] at hr
  sorted _ := by simp [queue]
  short _ := by simp [queue]

/-! ### No record more -/

/-- A state t holds no record that s does not hold in the same place, and each is linked as it was. -/
structure State.NoMore (s t : State) : Prop where
  queue : t.mvq.queue.Sublist s.mvq.queue
  slots : ∀ k y, t.slot k = some y → ∃ x, s.slot k = some x ∧ x.record.SameMove y.record
  count : s.mvq.acceptCount ≤ t.mvq.acceptCount
  queueLinks : ∀ r ∈ t.mvq.queue, (t.conn r.conn).recordLink = (s.conn r.conn).recordLink
  slotLinks : ∀ k y, t.slot k = some y → (t.conn y.record.conn).recordLink = (s.conn y.record.conn).recordLink

theorem State.Filed.noMore (h : s.Filed ordered) (g : s.NoMore t) : t.Filed ordered where
  queued r hr := by
    have held := h.queued r (g.queue.subset hr)
    exact ⟨(g.queueLinks r hr).trans held.link, held.counted.trans_le g.count⟩
  slotted k y hy := by
    obtain ⟨x, hx, same⟩ := g.slots k y hy
    have held := h.slotted k x hx
    refine ⟨(g.slotLinks k y hy).trans ?_, same.order ▸ held.counted.trans_le g.count⟩
    rw [same.conn, same.seq, held.link]
  queueApart := h.queueApart.sublist g.queue
  slotsApart j k x y ne hx hy := by
    obtain ⟨x', hx', sameX⟩ := g.slots j x hx
    obtain ⟨y', hy', sameY⟩ := g.slots k y hy
    exact (h.slotsApart j k x' y' ne hx' hy').same sameX sameY
  across r hr k y hy := by
    obtain ⟨x, hx, same⟩ := g.slots k y hy
    exact (h.across r (g.queue.subset hr) k x hx).same (.refl r) same
  sorted ho := (h.sorted ho).sublist g.queue

theorem State.MovesKept.noMore (h : s.MovesKept ordered) (g : s.NoMore t) : t.MovesKept ordered :=
  ⟨h.toFiled.noMore g, fun ho => g.queue.length_le.trans (h.short ho)⟩

/-- A state t has the same records in the same places as s, linked as they were. -/
structure State.SameMoves (s t : State) : Prop where
  mvq : t.mvq = s.mvq
  txe : t.txe = s.txe
  links : ∀ n, (t.conn n).recordLink = (s.conn n).recordLink

theorem State.SameMoves.noMore (g : s.SameMoves t) : s.NoMore t where
  queue := by rw [g.mvq]
  slots k y hy := ⟨y, by rw [← hy, State.slot, State.slot, g.txe], .refl _⟩
  count := by rw [g.mvq]
  queueLinks _ _ := g.links _
  slotLinks _ _ _ := g.links _

theorem State.MovesKept.same (h : s.MovesKept ordered) (g : s.SameMoves t) : t.MovesKept ordered := h.noMore g.noMore

/-- What leaves the Move Queue, the slots and the records as they are leaves their moves as they are. -/
theorem State.SameMoves.of_eq (mvq : t.mvq = s.mvq) (txe : t.txe = s.txe) (conns : t.conns = s.conns) :
    s.SameMoves t :=
  ⟨mvq, txe, fun n => by rw [State.conn, State.conn, conns]⟩

/-- A write to one record that leaves its link. -/
theorem State.SameMoves.setConn (g : s.SameMoves t) {n : ConnId} {c : Conn}
    (hc : c.recordLink = (t.conn n).recordLink) : s.SameMoves (t.setConn n c) :=
  ⟨g.mvq, g.txe, fun m => by
    rw [State.conn_setConn]
    split
    · next e => rw [hc, ← e, g.links]
    · exact g.links m⟩

theorem State.SameMoves.refl (s : State) : s.SameMoves s := ⟨rfl, rfl, fun _ => rfl⟩

theorem State.SameMoves.trans {u : State} (g : s.SameMoves t) (h : t.SameMoves u) : s.SameMoves u :=
  ⟨h.mvq.trans g.mvq, h.txe.trans g.txe, fun n => (h.links n).trans (g.links n)⟩

/-- A write to every record that leaves the links. -/
theorem State.SameMoves.mapAll (mvq : t.mvq = s.mvq) (txe : t.txe = s.txe) {f : Conn → Conn}
    (conns : t.conns = Machine.mapAll f s.conns) (hf : ∀ c, (f c).recordLink = c.recordLink) : s.SameMoves t :=
  ⟨mvq, txe, fun n => by
    have mapped : t.conn n = f (s.conn n) := by rw [State.conn, conns]; exact getElem_mapAll f s.conns n n.isLt
    rw [mapped, hf]⟩

/-! ### A record ends or comes back (R77, R81) -/

/-- A record in a slot that ends: no other one is of its connection. -/
theorem State.Filed.endRecord_noMore (h : s.Filed ordered) {k : SlotId} {res : Result} :
    s.NoMore (s.endRecord k res) := by
  cases slot : s.slot k with
  | none => simpa [State.endRecord, slot] using (State.SameMoves.refl s).noMore
  | some sl =>
    have queue : (s.endRecord k res).mvq.queue = s.mvq.queue := by rw [State.endRecord_eq slot]
    have count : (s.endRecord k res).mvq.acceptCount = s.mvq.acceptCount := by rw [State.endRecord_eq slot]
    have others (j : SlotId) (y : Slot) (hy : (s.endRecord k res).slot j = some y) : j ≠ k ∧ s.slot j = some y := by
      rw [State.endRecord_slot slot] at hy
      split at hy
      · simp at hy
      · exact ⟨‹_›, hy⟩
    have links {r : MoveRec} (apart : r.conn ≠ sl.record.conn) :
        ((s.endRecord k res).conn r.conn).recordLink = (s.conn r.conn).recordLink := by
      rw [State.endRecord_conn slot, if_neg apart]
    refine ⟨by rw [queue], fun j y hy => ⟨y, (others j y hy).2, .refl _⟩, count.ge, fun r hr => ?_, fun j y hy => ?_⟩
    · exact links (h.across r (queue ▸ hr) k sl slot).1
    · obtain ⟨ne, hy⟩ := others j y hy
      exact links (h.slotsApart j k y sl ne hy slot).1

theorem State.endQueued_mvq (s : State) (r : MoveRec) (res : Result) :
    (s.endQueued r res).mvq.queue = s.mvq.queue.filter (fun x => x.order != r.order)
      ∧ (s.endQueued r res).mvq.acceptCount = s.mvq.acceptCount
      ∧ (s.endQueued r res).mvq.seqCounter = s.mvq.seqCounter := by
  rw [State.endQueued, State.finishRecord_eq]
  exact ⟨rfl, rfl, rfl⟩

theorem State.endQueued_conn (s : State) (r : MoveRec) (res : Result) (n : ConnId) :
    (s.endQueued r res).conn n = if n = r.conn then (s.conn n).unlinked else s.conn n := by
  rw [State.endQueued, State.finishRecord_eq]
  refine (State.conn_setConn _ _ _ _).trans ?_
  split
  · next e => rw [e]; rfl
  · rfl

/-- A queued record that ends: no other one is of its connection. -/
theorem State.Filed.endQueued_noMore (h : s.Filed ordered) {r : MoveRec} (hr : r ∈ s.mvq.queue) {res : Result} :
    s.NoMore (s.endQueued r res) := by
  obtain ⟨queue, count, -⟩ := s.endQueued_mvq r res
  have slots (k : SlotId) : (s.endQueued r res).slot k = s.slot k := by simp [State.slot]
  have links {x : MoveRec} (apart : x.conn ≠ r.conn) :
      ((s.endQueued r res).conn x.conn).recordLink = (s.conn x.conn).recordLink := by
    rw [State.endQueued_conn, if_neg apart]
  refine ⟨queue ▸ List.filter_sublist, fun k y hy => ⟨y, slots k ▸ hy, .refl _⟩, count.ge, fun x hx => ?_,
    fun k y hy => links (h.across r hr k y (slots k ▸ hy)).symm.1⟩
  rw [queue] at hx
  obtain ⟨hx, other⟩ := List.mem_filter.mp hx
  have : Std.Symm MoveRec.Apart := ⟨fun _ _ => MoveRec.Apart.symm⟩
  exact links (h.queueApart.forall hx hr fun e => by simp [e] at other).1

/-- A record that ends leaves the queue shorter. -/
theorem State.endQueued_shorter {r : MoveRec} (hr : r ∈ s.mvq.queue) {res : Result} :
    (s.endQueued r res).mvq.queue.length < s.mvq.queue.length := by
  rw [(s.endQueued_mvq r res).1, List.length_filter_lt_length_iff_exists]
  exact ⟨r, hr, by simp⟩

/-- A record is placed where the order of the queue puts it (R70). -/
theorem insertRec_sorted {r : MoveRec} {q : List MoveRec} (sorted : q.Pairwise fun x y => standsBefore x y = true)
    (orders : ∀ x ∈ q, r.order ≠ x.order) : (insertRec r q).Pairwise fun x y => standsBefore x y = true := by
  have trans {x y z : MoveRec} (hxy : standsBefore x y = true) (hyz : standsBefore y z = true) :
      standsBefore x z = true := by
    simp only [standsBefore, Bool.or_eq_true, decide_eq_true_eq, Bool.and_eq_true, beq_iff_eq] at *
    omega
  have total {x y : MoveRec} (ne : x.order ≠ y.order) (no : ¬ standsBefore x y = true) : standsBefore y x = true := by
    simp only [standsBefore, Bool.or_eq_true, decide_eq_true_eq, Bool.and_eq_true, beq_iff_eq] at *
    omega
  induction q with
  | nil => exact List.pairwise_singleton _ _
  | cons x q ih =>
    obtain ⟨first, rest⟩ := List.pairwise_cons.mp sorted
    rw [insertRec]
    split
    · next before =>
      refine List.pairwise_cons.mpr ⟨fun y hy => ?_, sorted⟩
      rcases List.mem_cons.mp hy with rfl | hy
      · exact before
      · exact trans before (first y hy)
    · next after =>
      refine List.pairwise_cons.mpr ⟨fun y hy => ?_, ih rest fun y hy => orders y (List.mem_cons_of_mem _ hy)⟩
      rcases List.mem_cons.mp ((insertRec_perm r q).mem_iff.mp hy) with rfl | hy
      · exact total (orders x List.mem_cons_self) after
      · exact first y hy

/-- The state of a slot's record back in the queue (R77). -/
theorem State.returnToQueue_eq {k : SlotId} {sl : Slot} (slot : s.slot k = some sl) : s.returnToQueue k =
    (s.freeSlotOf k).setQueue (insertRec
      { sl.record with cancel := false, breaks := 0, makes := 0, returns := 0, breakTime := none } s.mvq.queue) := by
  simp only [State.returnToQueue, slot]

/-- A record that comes back is the one that stood in the slot. -/
theorem State.Filed.returnToQueue (h : s.Filed ordered) {k : SlotId} : (s.returnToQueue k).Filed ordered := by
  cases slot : s.slot k with
  | none => simpa [State.returnToQueue, slot] using h
  | some sl =>
    obtain ⟨r, hr⟩ : ∃ r : MoveRec,
      { sl.record with cancel := false, breaks := 0, makes := 0, returns := 0, breakTime := none } = r := ⟨_, rfl⟩
    have same : sl.record.SameMove r := hr ▸ ⟨rfl, rfl, rfl⟩
    obtain ⟨u, hu⟩ : ∃ u, s.returnToQueue k = u := ⟨_, rfl⟩
    have eq := hu.symm.trans (State.returnToQueue_eq slot)
    rw [hr] at eq
    have queue : u.mvq.queue = insertRec r s.mvq.queue := by rw [eq]; rfl
    have mem (x : MoveRec) : x ∈ u.mvq.queue ↔ x = r ∨ x ∈ s.mvq.queue := by
      rw [queue, (insertRec_perm _ _).mem_iff, List.mem_cons]
    have slots (j : SlotId) : u.slot j = if j = k then none else s.slot j := by
      rw [eq]; exact s.slot_setSlot k j none
    have others (j : SlotId) (y : Slot) (hy : u.slot j = some y) : j ≠ k ∧ s.slot j = some y := by
      rw [slots] at hy
      split at hy
      · simp at hy
      · exact ⟨‹_›, hy⟩
    have holds {x : MoveRec} (held : s.Holds x) : u.Holds x := by
      rw [eq]; exact ⟨held.link, held.counted⟩
    have own : s.Holds r := by
      have held := h.slotted k sl slot
      exact ⟨by rw [same.conn, same.seq, held.link], same.order ▸ held.counted⟩
    have apart (x : MoveRec) (hx : x ∈ s.mvq.queue) : r.Apart x :=
      (h.across x hx k sl slot).symm.same same (.refl x)
    rw [hu]
    refine ⟨fun x hx => ?_, fun j y hy => holds (h.slotted j y (others j y hy).2), ?_, fun i j x y ne hx hy => ?_,
      fun x hx j y hy => ?_, fun ho => queue ▸ insertRec_sorted (h.sorted ho) fun x hx => (apart x hx).2⟩
    · rcases (mem x).mp hx with rfl | hx
      · exact holds own
      · exact holds (h.queued x hx)
    · rw [queue, (insertRec_perm _ _).pairwise_iff fun h => h.symm]
      exact List.pairwise_cons.mpr ⟨apart, h.queueApart⟩
    · exact h.slotsApart i j x y ne (others i x hx).2 (others j y hy).2
    · obtain ⟨ne, hy⟩ := others j y hy
      rcases (mem x).mp hx with rfl | hx
      · exact (h.slotsApart k j sl y ne.symm slot hy).same same (.refl _)
      · exact h.across x hx j y hy

/-- While the queue holds too many, the last record ends (R77). -/
theorem State.Filed.trimQueue (fuel : Nat) (h : s.Filed ordered) (enough : s.mvq.queue.length ≤ 16 + fuel) :
    (State.trimQueue fuel s).MovesKept ordered := by
  induction fuel generalizing s with
  | zero => exact ⟨h, fun _ => enough⟩
  | succ fuel ih =>
    unfold State.trimQueue
    split
    · next few => exact ⟨h, fun _ => few⟩
    · next many =>
      split
      · next r last =>
        have hr := List.mem_of_getLast? last
        have shorter := State.endQueued_shorter hr (res := .displaced)
        exact ih (h.noMore (h.endQueued_noMore hr)) (by omega)
      · next empty =>
        rw [List.getLast?_eq_none_iff.mp empty] at many
        exact absurd (Nat.zero_le _) many

end Sys2Proof.Machine
end

section
/-! The move records, operation by operation: what the Connection Table writes leaves them, the queue's own operations
keep them filed (R68 to R80). -/

namespace Sys2Proof.Machine

open Sys2Proof

variable {s t : State} {ordered : Bool}

/-! ### The Connection Table -/

namespace State.SameMoves

theorem raise (g : s.SameMoves t) {e : EventKind} : s.SameMoves (t.raise e) := g.trans (.of_eq rfl rfl rfl)
theorem disturb (g : s.SameMoves t) : s.SameMoves t.disturb := g.trans (.of_eq rfl rfl rfl)

theorem setChatterHold (g : s.SameMoves t) {n : ConnId} : s.SameMoves (t.setChatterHold n) :=
  (g.setConn (c := { t.conn n with hold := some .chatter }) rfl).raise

theorem chatterAfterReply (g : s.SameMoves t) {n : ConnId} : s.SameMoves (t.chatterAfterReply n) := by
  unfold State.chatterAfterReply
  split
  · split
    · exact g.setConn rfl
    · exact g.setChatterHold
  · exact g

theorem uncommanded (g : s.SameMoves t) {n : ConnId} {d : Nat} : s.SameMoves (t.uncommanded n d) := by
  have counted := g.setConn (n := n) (c := { t.conn n with uncommanded := min 15 ((t.conn n).uncommanded + d) }) rfl
  exact counted.raise.disturb.chatterAfterReply

theorem applyReply (g : s.SameMoves t) {n : ConnId} {r : StatusReport} : s.SameMoves (t.applyReply n r) := by
  have recorded :
      s.SameMoves (t.setConn n (countLoad t.tbs.endDue r.load (recordReply (t.conn n) (t.stageOf n) r))) := by
    refine g.setConn ?_
    unfold countLoad
    split <;> rfl
  unfold State.applyReply
  dsimp only
  split
  · split
    · exact recorded
    · exact recorded.uncommanded
  · exact g

theorem ctbOutcome (g : s.SameMoves t) {n : ConnId} {b i : Confirmed} {o : ActOutcome} :
    s.SameMoves (t.ctbOutcome n b i o) := by
  have replied (a : Bool) : (actuationReplied (t.conn n) b i a).recordLink = (t.conn n).recordLink := by
    unfold actuationReplied
    split
    · cases a <;> rfl
    · rfl
  cases o with
  | accept => exact g.setConn (replied true)
  | reject _ => exact g.setConn (replied false)
  | missed => exact g.setConn rfl

theorem pollMissed (g : s.SameMoves t) {n : ConnId} : s.SameMoves (t.pollMissed n) := by
  unfold State.pollMissed
  dsimp only
  split
  · split
    · have offline := g.setConn (n := n)
        (c := { t.conn n with missedRun := min 3 ((t.conn n).missedRun + 1), link := .offline }) rfl
      exact offline.trans (.of_eq rfl rfl rfl)
    · exact g.setConn rfl
  · exact g

theorem closeLoads (s : State) : s.SameMoves s.closeLoads :=
  .mapAll rfl rfl rfl fun c => by unfold closeLoad; split <;> rfl

theorem rollDay (s : State) : s.SameMoves s.rollDay := .mapAll rfl rfl rfl fun _ => rfl

end State.SameMoves

/-- CONFIG_CONN leaves the record link (R4). -/
theorem configured_recordLink (c : Conn) (present : Bool) (timing : Fin 4) :
    (configured c present timing).recordLink = c.recordLink := by
  unfold configured
  split <;> rfl

theorem State.freeSlot_isNone {k : SlotId} (free : s.freeSlot = some k) : (s.slot k).isNone = true :=
  List.find?_some (p := fun k => (s.slot k).isNone) free

/-! ### Folds and endings -/

namespace State.MovesKept

/-- A fold keeps what each of its steps keeps. -/
theorem foldl {α : Type} {f : State → α → State} (hf : ∀ u a, u.MovesKept ordered → (f u a).MovesKept ordered)
    (h : s.MovesKept ordered) (l : List α) : (l.foldl f s).MovesKept ordered := by
  induction l generalizing s with
  | nil => exact h
  | cons a l ih => exact ih (hf _ _ h)

/-- A change of neither the Move Queue, nor the slots, nor the records. -/
theorem of_eq (h : s.MovesKept ordered) (mvq : t.mvq = s.mvq) (txe : t.txe = s.txe) (conns : t.conns = s.conns) :
    t.MovesKept ordered :=
  h.same (.of_eq mvq txe conns)

theorem setConn (h : s.MovesKept ordered) {n : ConnId} {c : Conn} (hc : c.recordLink = (s.conn n).recordLink) :
    (s.setConn n c).MovesKept ordered :=
  h.same ((SameMoves.refl s).setConn hc)

theorem endQueued (h : s.MovesKept ordered) {r : MoveRec} (hr : r ∈ s.mvq.queue) {res : Result} :
    (s.endQueued r res).MovesKept ordered :=
  h.noMore (h.endQueued_noMore hr)

theorem endRecord (h : s.MovesKept ordered) {k : SlotId} {res : Result} : (s.endRecord k res).MovesKept ordered :=
  h.noMore h.endRecord_noMore

/-- Records that end leave the others linked, for no two are of one connection. -/
theorem unlinked (h : s.MovesKept ordered) {gone : List MoveRec} (hgone : gone ⊆ s.mvq.queue)
    (conns : t.conns = unlinkConns s.conns gone) (txe : t.txe = s.txe) (count : t.mvq.acceptCount = s.mvq.acceptCount)
    (queue : t.mvq.queue.Sublist s.mvq.queue) (stays : ∀ r ∈ t.mvq.queue, r ∉ gone) : t.MovesKept ordered := by
  have slots (k : SlotId) : t.slot k = s.slot k := by rw [State.slot, State.slot, txe]
  have links {n : ConnId} (other : ∀ r ∈ gone, r.conn ≠ n) : (t.conn n).recordLink = (s.conn n).recordLink := by
    rw [State.conn, conns, getElem_unlinkConns, if_neg fun ⟨r, hr, own⟩ => other r hr own]
    rfl
  refine h.noMore ⟨queue, fun k y hy => ⟨y, slots k ▸ hy, .refl _⟩, count.ge, fun r hr => links fun x hx => ?_,
    fun k y hy => links fun x hx => (h.across x (hgone hx) k y (slots k ▸ hy)).1⟩
  have : Std.Symm MoveRec.Apart := ⟨fun _ _ => MoveRec.Apart.symm⟩
  exact (h.queueApart.forall (hgone hx) (queue.subset hr) fun e => stays r hr (e ▸ hx)).1

theorem endAllQueued (h : s.MovesKept ordered) {res : Result} (quiet : res.failed = false) :
    (s.endAllQueued res).MovesKept ordered := by
  rw [State.endAllQueued_eq s quiet]
  exact h.unlinked (List.Subset.refl _) rfl rfl rfl (List.nil_sublist _) nofun

theorem expireQueued (h : s.MovesKept ordered) {e : Word} : (s.expireQueued e).MovesKept ordered := by
  rw [State.expireQueued_eq s e (h.queueApart.imp And.right)]
  refine h.unlinked (List.filter_subset_self _) rfl rfl rfl List.filter_sublist fun r stays goes => ?_
  have stays := (List.mem_filter.mp stays).2
  simp [(List.mem_filter.mp goes).2] at stays

/-! ### Records that come back (R77, R105) -/

theorem handBack (h : s.MovesKept ordered) {k : SlotId} : (s.handBack k).MovesKept ordered :=
  h.returnToQueue.trimQueue _ (Nat.le_add_left _ _)

theorem handBackAll (h : s.MovesKept ordered) : s.handBackAll.MovesKept ordered := by
  refine Filed.trimQueue _ ?_ (Nat.le_add_left _ _)
  generalize allSlots = ks
  have filed := h.toFiled
  clear h
  induction ks generalizing s with
  | nil => exact filed
  | cons k ks ih =>
    refine ih ?_
    dsimp only
    split
    · exact filed.returnToQueue
    · exact filed

/-! ### Acceptance (R68, R69, R72) -/

/-- A record for a connection that has none, where there is room. -/
theorem accept (h : s.MovesKept ordered) {n : ConnId} (free : (s.conn n).recordLink = none)
    (room : ordered = true → s.mvq.queue.length < 16) {x y : Phase} {o : Origin} :
    (s.accept n x y o).MovesKept ordered := by
  obtain ⟨r, hr⟩ : ∃ r, s.acceptedRec n x y o = r := ⟨_, rfl⟩
  have conn : r.conn = n := hr ▸ rfl
  have order : r.order = s.mvq.acceptCount := hr ▸ rfl
  have queue : (s.accept n x y o).mvq.queue = insertRec r s.mvq.queue := hr ▸ rfl
  have mem {z : MoveRec} : z ∈ (s.accept n x y o).mvq.queue ↔ z = r ∨ z ∈ s.mvq.queue := hr ▸ State.mem_accept
  have apart {z : MoveRec} (held : s.Holds z) : r.Apart z := by
    refine ⟨fun same => ?_, order ▸ held.counted.ne'⟩
    have link := held.link
    rw [← same, conn, free] at link
    cases link
  have holds {z : MoveRec} (held : s.Holds z) : (s.accept n x y o).Holds z := by
    refine ⟨?_, Nat.lt_succ_of_lt held.counted⟩
    rw [State.accept_conn, if_neg (conn ▸ (apart held).symm.1)]
    exact held.link
  have own : (s.accept n x y o).Holds r := by
    refine ⟨?_, order ▸ Nat.lt_succ_self _⟩
    rw [State.accept_conn, if_pos conn, ← hr]
    rfl
  refine ⟨⟨fun z hz => ?_, fun k sl slot => holds (h.slotted k sl slot), ?_, h.slotsApart, fun z hz k sl slot => ?_,
    fun ho => queue ▸ insertRec_sorted (h.sorted ho) fun z hz => (apart (h.queued z hz)).2⟩, fun ho => ?_⟩
  · rcases mem.mp hz with rfl | hz
    · exact own
    · exact holds (h.queued z hz)
  · rw [queue, (insertRec_perm _ _).pairwise_iff fun h => h.symm]
    exact List.pairwise_cons.mpr ⟨fun z hz => apart (h.queued z hz), h.queueApart⟩
  · rcases mem.mp hz with rfl | hz
    · exact apart (h.slotted k sl slot)
    · exact h.across z hz k sl slot
  · rw [queue, (insertRec_perm _ _).length_eq]
    exact room ho

/-- A record is accepted into room made for it (R72, R73). -/
theorem makeRoom_accept (h : s.MovesKept ordered) {n : ConnId} (free : (s.conn n).recordLink = none)
    (place : (s.queueFull && s.youngestPlanner.isNone) = false) {x y : Phase} {o : Origin} :
    (s.makeRoom.accept n x y o).MovesKept ordered := by
  by_cases full : s.queueFull = true
  · obtain ⟨d, youngest⟩ : ∃ d, s.youngestPlanner = some d := by
      rw [full, Bool.true_and, Option.isNone_eq_false_iff] at place
      exact Option.isSome_iff_exists.mp place
    have hd : d ∈ s.mvq.queue := List.mem_reverse.mp (List.mem_of_find?_eq_some youngest)
    have made : s.makeRoom = s.endQueued d .displaced := by simp [State.makeRoom, full, youngest]
    rw [made]
    refine (h.endQueued hd).accept ?_ fun ho => (State.endQueued_shorter hd).trans_le (h.short ho)
    rw [State.endQueued_conn]
    split
    · rfl
    · exact free
  · have made : s.makeRoom = s := if_neg full
    rw [made]
    exact h.accept free fun _ => Nat.not_le.mp fun le => full (State.queueFull_iff.mpr le)

/-- A batch for connections that have no record, each of another one, where there is room for all of it (R54, R55). -/
theorem acceptBatch {l : List PlanEntry} (h : s.MovesKept ordered) (free : ∀ e ∈ l, (s.conn e.conn).recordLink = none)
    (differ : l.Pairwise fun a b => a.conn ≠ b.conn) (room : ordered = true → s.mvq.queue.length + l.length ≤ 16) :
    (s.acceptBatch l).MovesKept ordered := by
  induction l generalizing s with
  | nil => exact h
  | cons e l ih =>
    obtain ⟨others, differ⟩ := List.pairwise_cons.mp differ
    rw [List.length_cons] at room
    refine ih (h.accept (free e List.mem_cons_self) fun ho => by have := room ho; omega) (fun x hx => ?_) differ
      fun ho => ?_
    · rw [State.accept_conn, if_neg (others x hx).symm]
      exact free x (List.mem_cons_of_mem _ hx)
    · rw [State.accept_mvq, (insertRec_perm _ _).length_eq]
      have := room ho
      simp only [List.length_cons]
      omega

/-! ### Admission (R78 to R80) -/

/-- A queued record enters a free slot. -/
theorem enterSlot (h : s.MovesKept ordered) {k : SlotId} (slot : s.slot k = none) {r : MoveRec} (hr : r ∈ s.mvq.queue) :
    (s.enterSlot k r).MovesKept ordered := by
  obtain ⟨u, hu⟩ : ∃ u, s.enterSlot k r = u := ⟨_, rfl⟩
  have queue : u.mvq.queue = s.mvq.queue.filter fun x => x.order != r.order := hu ▸ rfl
  have slots (j : SlotId) : u.slot j = if j = k then some
      { record := r, stage := .waitBreak, order := s.txe.admitCount, lastAct := none, verifyDue := none, misses := 0 }
      else s.slot j := by
    rw [← hu]; exact s.slot_setSlot k j _
  have links (n : ConnId) : (u.conn n).recordLink = (s.conn n).recordLink := by
    have written : u.conn n = (s.setConn r.conn
      { s.conn r.conn with movesToday := min 15 ((s.conn r.conn).movesToday + 1) }).conn n := hu ▸ rfl
    rw [written, State.conn_setConn]
    split
    · next e => rw [e]
    · rfl
  have holds {z : MoveRec} (held : s.Holds z) : u.Holds z := ⟨(links _).trans held.link, hu ▸ held.counted⟩
  have stayed {z : MoveRec} (hz : z ∈ u.mvq.queue) : z ∈ s.mvq.queue ∧ z.Apart r := by
    rw [queue] at hz
    obtain ⟨hz, other⟩ := List.mem_filter.mp hz
    have : Std.Symm MoveRec.Apart := ⟨fun _ _ => MoveRec.Apart.symm⟩
    exact ⟨hz, h.queueApart.forall hz hr fun e => by simp [e] at other⟩
  have inSlot {j : SlotId} {y : Slot} (hy : u.slot j = some y) : j = k ∧ y.record = r ∨ j ≠ k ∧ s.slot j = some y := by
    rw [slots] at hy
    split at hy
    · next e => exact .inl ⟨e, by rw [← Option.some.inj hy]⟩
    · next ne => exact .inr ⟨ne, hy⟩
  rw [hu]
  refine ⟨⟨fun z hz => holds (h.queued z (stayed hz).1), fun j y hy => ?_, ?_, fun i j x y ne hx hy => ?_,
    fun z hz j y hy => ?_, fun ho => ?_⟩, fun ho => ?_⟩
  · rcases inSlot hy with ⟨-, own⟩ | ⟨-, hy⟩
    · exact own ▸ holds (h.queued r hr)
    · exact holds (h.slotted j y hy)
  · exact queue ▸ h.queueApart.sublist List.filter_sublist
  · rcases inSlot hx with ⟨rfl, own⟩ | ⟨-, hx⟩ <;> rcases inSlot hy with ⟨same, own'⟩ | ⟨-, hy⟩
    · exact absurd same.symm ne
    · exact own ▸ h.across r hr j y hy
    · exact own' ▸ (h.across r hr i x hx).symm
    · exact h.slotsApart i j x y ne hx hy
  · rcases inSlot hy with ⟨-, own⟩ | ⟨-, hy⟩
    · exact own ▸ (stayed hz).2
    · exact h.across z (stayed hz).1 j y hy
  · exact queue ▸ (h.sorted ho).sublist List.filter_sublist
  · exact queue ▸ (List.length_filter_le _ _).trans (h.short ho)

theorem takeAdmission (h : s.MovesKept ordered) : s.takeAdmission.MovesKept ordered := by
  refine s.takeAdmission_keeps (MovesKept ordered) (fun t k r rs ht _ free queue => ?_) h
  have hr : r ∈ t.mvq.queue := queue ▸ List.mem_cons_self
  unfold State.examineHead
  split
  · exact ht.endQueued hr
  · exact ht.enterSlot (Option.isNone_iff_eq_none.mp (State.freeSlot_isNone free)) hr

theorem enterMode (h : s.MovesKept ordered) {m : BaseMode} : (s.enterMode m).MovesKept ordered :=
  (h.of_eq (t := s.setMode (.base m)) rfl rfl rfl).takeAdmission

end State.MovesKept
end Sys2Proof.Machine
end

section
/-! The move records, operation by operation: the Transfer Engine, the Interlock Unit, the bus, the planner and the
time. -/

namespace Sys2Proof.Machine

open Sys2Proof

variable {s t : State} {ordered : Bool}

namespace State.MovesKept

/-! ### The updates of one field -/

theorem atInstant (h : s.MovesKept ordered) {i : Nat} : (s.atInstant i).MovesKept ordered := h.of_eq rfl rfl rfl
theorem raise (h : s.MovesKept ordered) {e : EventKind} : (s.raise e).MovesKept ordered := h.of_eq rfl rfl rfl
theorem disturb (h : s.MovesKept ordered) : s.disturb.MovesKept ordered := h.of_eq rfl rfl rfl
theorem setMode (h : s.MovesKept ordered) {m : Mode} : (s.setMode m).MovesKept ordered := h.of_eq rfl rfl rfl
theorem setSupply (h : s.MovesKept ordered) {x : SupplyState} : (s.setSupply x).MovesKept ordered := h.of_eq rfl rfl rfl
theorem setNeutral (h : s.MovesKept ordered) {n : Neutral} : (s.setNeutral n).MovesKept ordered := h.of_eq rfl rfl rfl
theorem settle (h : s.MovesKept ordered) : s.settle.MovesKept ordered := h.of_eq rfl rfl rfl

theorem setTxn (h : s.MovesKept ordered) {x : Option Transaction} : (s.setTxn x).MovesKept ordered :=
  h.of_eq rfl rfl rfl

theorem setPort (h : s.MovesKept ordered) {lk : Link} {x : Port} : (s.setPort lk x).MovesKept ordered :=
  h.of_eq rfl rfl rfl

theorem setInput (h : s.MovesKept ordered) {i : InputLine} {r : InputRec} : (s.setInput i r).MovesKept ordered :=
  h.of_eq rfl rfl rfl

theorem setChan (h : s.MovesKept ordered) {p : Phase} {c : PhaseChannel} : (s.setChan p c).MovesKept ordered :=
  h.of_eq rfl rfl rfl

theorem setMapFlag (h : s.MovesKept ordered) {b : Bool} :
    State.MovesKept ordered { s with ilu := { s.ilu with mapFault := b } } :=
  h.of_eq rfl rfl rfl

/-! ### The Transfer Engine -/

/-- A slot goes on with its record. -/
theorem setSlot (h : s.MovesKept ordered) {k : SlotId} {x y : Slot} (hx : s.slot k = some x)
    (same : x.record.SameMove y.record) : (s.setSlot k (some y)).MovesKept ordered := by
  refine h.noMore ⟨List.Sublist.refl _, fun j z hz => ?_, le_rfl, fun _ _ => rfl, fun _ _ _ => rfl⟩
  rw [State.slot_setSlot] at hz
  split at hz
  · next e => exact ⟨x, e ▸ hx, Option.some.inj hz ▸ same⟩
  · exact ⟨z, hz, .refl _⟩

theorem modSlot (h : s.MovesKept ordered) {k : SlotId} {f : Slot → Slot}
    (same : ∀ x : Slot, x.record.SameMove (f x).record) : (s.modSlot k f).MovesKept ordered := by
  unfold State.modSlot
  split
  · next slot => exact h.setSlot slot (same _)
  · exact h

theorem enterOrphaned (h : s.MovesKept ordered) {k : SlotId} : (s.enterOrphaned k).MovesKept ordered := by
  unfold State.enterOrphaned
  split
  · next sl slot =>
    have orphaned := h.setSlot (y := { sl with stage := .orphaned, verifyDue := some (s.sbc.frame + 1) }) slot (.refl _)
    dsimp only
    split
    · exact orphaned.endRecord
    · exact orphaned
  · exact h

theorem holdWaitReturn (h : s.MovesKept ordered) {k : SlotId} : (s.holdWaitReturn k).MovesKept ordered := by
  unfold State.holdWaitReturn
  split
  · split
    · exact h.enterOrphaned
    · exact h
  · exact h

theorem enterWaitReturn (h : s.MovesKept ordered) {k : SlotId} : (s.enterWaitReturn k).MovesKept ordered :=
  (h.modSlot (f := fun sl => { sl with stage := .waitReturn, verifyDue := none }) fun _ => .refl _).holdWaitReturn

theorem enterWaitMake (h : s.MovesKept ordered) {k : SlotId} : (s.enterWaitMake k).MovesKept ordered := by
  unfold State.enterWaitMake
  split
  · next sl slot =>
    have waiting := h.setSlot (y := { sl with stage := .waitMake, verifyDue := none }) slot (.refl _)
    dsimp only
    split
    · exact waiting.enterWaitReturn
    · split
      · exact waiting.enterOrphaned
      · exact waiting
  · exact h

theorem confirmBreak (h : s.MovesKept ordered) {k : SlotId} : (s.confirmBreak k).MovesKept ordered :=
  h.modSlot fun _ => ⟨rfl, rfl, rfl⟩

theorem enterGap (h : s.MovesKept ordered) {k : SlotId} : (s.enterGap k).MovesKept ordered := by
  have gap : (s.modSlot k fun sl => { sl with stage := .gap, verifyDue := none }).MovesKept ordered :=
    h.modSlot fun _ => .refl _
  unfold State.enterGap
  dsimp only
  split
  · split
    · exact gap.enterWaitMake
    · exact gap
  · exact gap

theorem backToWaitBreak (h : s.MovesKept ordered) {k : SlotId} : (s.backToWaitBreak k).MovesKept ordered := by
  unfold State.backToWaitBreak
  split
  · next sl slot =>
    split
    · exact h.endRecord
    · split
      · exact h.handBack
      · exact h.setSlot slot (.refl _)
  · exact h

theorem requestCancel (h : s.MovesKept ordered) {k : SlotId} : (s.requestCancel k).MovesKept ordered :=
  h.modSlot fun _ => ⟨rfl, rfl, rfl⟩

theorem cancelSlot (h : s.MovesKept ordered) {k : SlotId} : (s.cancelSlot k).MovesKept ordered := by
  unfold State.cancelSlot
  dsimp only
  split
  case h_1 => exact h.requestCancel.endRecord
  case h_2 | h_3 => exact h.requestCancel.enterWaitReturn
  all_goals exact h.requestCancel

theorem treatSlot (h : s.MovesKept ordered) {k : SlotId} : (s.treatSlot k).MovesKept ordered := by
  unfold State.treatSlot
  split
  case h_1 => exact h.endRecord
  case h_2 | h_3 => exact h.requestCancel
  case h_4 | h_5 => exact h.enterWaitReturn
  all_goals exact h

theorem recheckSlot (h : s.MovesKept ordered) {k : SlotId} : (s.recheckSlot k).MovesKept ordered := by
  unfold State.recheckSlot
  split
  · split
    · split
      · exact h.enterWaitReturn
      · exact h
    · exact h.holdWaitReturn
    all_goals exact h
  · exact h

theorem recheckSlots (h : s.MovesKept ordered) : s.recheckSlots.MovesKept ordered :=
  h.foldl (fun _ _ hu => hu.recheckSlot) _

theorem toSlotInstant (h : s.MovesKept ordered) {k : SlotId} {i : State → MoveRec → Option Nat} :
    (s.toSlotInstant k i).MovesKept ordered := by
  unfold State.toSlotInstant
  split
  · exact h.atInstant
  · exact h

/-! ### The Interlock Unit and the Mode Controller -/

theorem flushAndTreat (h : s.MovesKept ordered) : s.flushAndTreat.MovesKept ordered :=
  (h.endAllQueued rfl).foldl (fun _ _ hu => hu.treatSlot) _

theorem haltMode (h : s.MovesKept ordered) : s.haltMode.MovesKept ordered := by
  unfold State.haltMode
  split
  case h_5 | h_6 | h_7 | h_8 => exact h
  all_goals exact h.setMode.flushAndTreat

theorem haltEvent (h : s.MovesKept ordered) {x : HaltSource} : (s.haltEvent x).MovesKept ordered := by
  unfold State.haltEvent
  split
  · exact (h.of_eq (t := s.enterHalt x) (by simp) (by simp) (by simp)).haltMode
  · exact h

theorem endTransfer (h : s.MovesKept ordered) {k : SlotId} {res : Result} :
    (s.endTransfer k res).MovesKept ordered := by
  unfold State.endTransfer
  split
  · unfold State.setMapFault
    split
    · exact h.endRecord
    · exact h.endRecord.setMapFlag.haltEvent
  · exact h.endRecord

theorem supplyStart (h : s.MovesKept ordered) : s.supplyStart.MovesKept ordered := by
  unfold State.supplyStart
  split
  · exact h.setMode.handBackAll
  · exact h

theorem qualifiedClear (h : s.MovesKept ordered) : s.qualifiedClear.MovesKept ordered := by
  unfold State.qualifiedClear
  split
  · exact h.enterMode
  · exact h

theorem supplyChanged (h : s.MovesKept ordered) {b : Bool} : (s.supplyChanged b).MovesKept ordered := by
  unfold State.supplyChanged
  split
  · exact h.setSupply.supplyStart
  · exact h.setSupply
  · exact h.setSupply
  all_goals exact h

theorem setStatus (h : s.MovesKept ordered) {i : InputLine} {v : Bool} : (s.setStatus i v).MovesKept ordered := by
  unfold State.setStatus
  dsimp only
  split
  · split
    · exact h.setInput.haltEvent
    · exact h.setInput
  · exact h.setInput

theorem followLevel (h : s.MovesKept ordered) {i : InputLine} : (s.followLevel i).MovesKept ordered := by
  unfold State.followLevel
  dsimp only
  split
  · exact h.setStatus
  · split
    · exact h.setStatus
    · exact h

theorem debouncedChanged (h : s.MovesKept ordered) {i : InputLine} : (s.debouncedChanged i).MovesKept ordered := by
  unfold State.debouncedChanged
  dsimp only
  split
  · exact h.followLevel.of_eq rfl rfl rfl
  · exact h.followLevel.supplyChanged
  all_goals exact h.followLevel

theorem sampleInput (h : s.MovesKept ordered) {i : InputLine} {b : Bool} : (s.sampleInput i b).MovesKept ordered := by
  have sampled {r : InputRec} :
      ((s.atInstant ((s.input i).sampledAt + Config.ticksPerMs)).setInput i r).MovesKept ordered :=
    h.of_eq rfl rfl rfl
  unfold State.sampleInput
  dsimp only
  split
  · exact sampled
  · split
    · exact sampled.debouncedChanged
    · exact sampled

/-! ### What the Transfer Engine does with replies -/

theorem clearMisses (h : s.MovesKept ordered) {k : SlotId} : (s.clearMisses k).MovesKept ordered :=
  h.modSlot fun _ => .refl _

theorem verifyBreaking (h : s.MovesKept ordered) {k : SlotId} {sl : Slot} {c : Option Phase} :
    (s.verifyBreaking k sl c).MovesKept ordered := by
  unfold State.verifyBreaking
  split
  · split
    · exact h.confirmBreak.enterWaitReturn
    · exact h.confirmBreak.enterGap
  · split
    · split
      · exact h.endTransfer
      · split
        · exact h.backToWaitBreak
        · exact h.endTransfer
    · exact h.endTransfer

theorem verifyMaking (h : s.MovesKept ordered) {k : SlotId} {sl : Slot} {c : Option Phase} :
    (s.verifyMaking k sl c).MovesKept ordered := by
  unfold State.verifyMaking
  split
  · split
    · exact h.enterWaitMake
    · exact h.enterWaitReturn
  · split <;> exact h.endTransfer

theorem verifyReturning (h : s.MovesKept ordered) {k : SlotId} {sl : Slot} {c : Option Phase} :
    (s.verifyReturning k sl c).MovesKept ordered := by
  unfold State.verifyReturning
  split
  · split
    · exact h.enterWaitReturn
    · exact h.endTransfer
  · split <;> exact h.endTransfer

theorem seeClosed (h : s.MovesKept ordered) {k : SlotId} {sl : Slot} {c : Option Phase} :
    (s.seeClosed k sl c).MovesKept ordered := by
  unfold State.seeClosed
  split
  · exact h
  · exact h.endTransfer

theorem statusAtWaitBreak (h : s.MovesKept ordered) {k : SlotId} {sl : Slot} {c : Option Phase} :
    (s.statusAtWaitBreak k sl c).MovesKept ordered := by
  unfold State.statusAtWaitBreak
  split
  · exact h.endTransfer
  · split
    · exact h.endTransfer
    · exact h

theorem statusToSlot (h : s.MovesKept ordered) {k : SlotId} {c : Option Phase} :
    (s.statusToSlot k c).MovesKept ordered := by
  unfold State.statusToSlot
  dsimp only
  split
  · split
    case h_1 => exact h.clearMisses.statusAtWaitBreak
    case h_2 | h_3 | h_4 => exact h.clearMisses
    all_goals exact h.clearMisses.seeClosed
  · exact h.clearMisses

theorem verifyDecision (h : s.MovesKept ordered) {k : SlotId} {c : Option Phase} :
    (s.verifyDecision k c).MovesKept ordered := by
  unfold State.verifyDecision
  dsimp only
  split
  · next sl slot =>
    split
    · exact h.clearMisses.verifyBreaking
    · exact h.clearMisses.verifyMaking
    · exact h.clearMisses.verifyReturning
    · have due := h.clearMisses.setSlot (y := { sl with verifyDue := some ((s.clearMisses k).sbc.frame + 1) }) slot
        (.refl _)
      exact due.seeClosed
    · exact h.clearMisses.statusAtWaitBreak
    all_goals exact h.clearMisses.seeClosed
  · exact h.clearMisses

theorem verifyMissed (h : s.MovesKept ordered) {k : SlotId} : (s.verifyMissed k).MovesKept ordered := by
  unfold State.verifyMissed
  split
  · next sl slot =>
    split
    · exact h.endTransfer
    · exact h.setSlot slot (.refl _)
  · exact h

theorem setVerifyDue (h : s.MovesKept ordered) {k : SlotId} {f : Word} : (s.setVerifyDue k f).MovesKept ordered :=
  h.modSlot fun _ => .refl _

theorem slotOutcome (h : s.MovesKept ordered) {k : SlotId} {a : ActKind} {f : Word} {o : ActOutcome} :
    (s.slotOutcome k a f o).MovesKept ordered := by
  have waiting (P : Prop) [Decidable P] : (if P then s.enterWaitMake k else s.enterWaitReturn k).MovesKept ordered := by
    split
    · exact h.enterWaitMake
    · exact h.enterWaitReturn
  have third (P : Prop) [Decidable P] :
      (if P then s.enterWaitReturn k else s.endTransfer k .dark).MovesKept ordered := by
    split
    · exact h.enterWaitReturn
    · exact h.endTransfer
  unfold State.slotOutcome
  split
  · exact h
  · split
    · exact h.setVerifyDue
    · exact h.setVerifyDue
    · exact h.endTransfer
    · exact h.endTransfer
    · exact h.setVerifyDue
    · exact waiting _
    · exact h.enterWaitReturn
    · exact h.setVerifyDue
    · exact third _

/-! ### The Selector Bus Controller -/

theorem finishQuery (h : s.MovesKept ordered) {n : ConnId} {b : List Byte} : (s.finishQuery n b).MovesKept ordered :=
  h.of_eq (by simp) (by simp) (by simp)

theorem applyReply (h : s.MovesKept ordered) {n : ConnId} {r : StatusReport} : (s.applyReply n r).MovesKept ordered :=
  h.same (SameMoves.refl s).applyReply

theorem statusTaken (h : s.MovesKept ordered) {n : ConnId} {r : StatusReport} :
    (s.statusTaken n r).MovesKept ordered := by
  unfold State.statusTaken
  dsimp only
  split
  · exact h.applyReply.statusToSlot
  · exact h.applyReply

theorem verifyTaken (h : s.MovesKept ordered) {k : SlotId} {o : Nat} {n : ConnId} {r : StatusReport} :
    (s.verifyTaken k o n r).MovesKept ordered := by
  unfold State.verifyTaken
  split
  · exact h.applyReply.verifyDecision
  · exact h.statusTaken

theorem storeOutcome (h : s.MovesKept ordered) {n : ConnId} {f : Word} {o : ActOutcome} :
    (s.storeOutcome n f o).MovesKept ordered :=
  h.of_eq (by simp) (by simp) (by simp)

theorem actuationOutcome (h : s.MovesKept ordered) {n : ConnId} {k : SlotId} {w : Nat} {a : ActKind} {b i : Confirmed}
    {o : ActOutcome} : (s.actuationOutcome n k w a b i o).MovesKept ordered := by
  have taken : (s.ctbOutcome n b i o).MovesKept ordered := h.same (SameMoves.refl s).ctbOutcome
  unfold State.actuationOutcome
  dsimp only
  split
  · exact taken.slotOutcome.storeOutcome
  · exact taken.storeOutcome

theorem missTransaction (h : s.MovesKept ordered) : s.missTransaction.MovesKept ordered := by
  have polled (n : ConnId) : ((s.setTxn none).pollMissed n).MovesKept ordered :=
    h.setTxn.same (SameMoves.refl _).pollMissed
  unfold State.missTransaction
  split
  · exact h
  · dsimp only
    split
    · exact polled _
    · exact polled _
    · split
      · exact h.setTxn.verifyMissed
      · exact h.setTxn
    · exact h.setTxn.actuationOutcome
    · exact h.setTxn.finishQuery

theorem takeReply (h : s.MovesKept ordered) {x : Transaction} {m : List Byte} :
    (s.takeReply x m).MovesKept ordered := by
  unfold State.takeReply
  dsimp only
  split
  case h_1 | h_2 =>
    split
    · exact h.setTxn.statusTaken
    · exact h.missTransaction
  case h_3 =>
    split
    · exact h.setTxn.verifyTaken
    · exact h.missTransaction
  case h_4 =>
    split
    · exact h.setTxn.actuationOutcome
    · exact h.missTransaction
  case h_5 =>
    split
    · exact h.setTxn.statusTaken.finishQuery
    · exact h.missTransaction

theorem takeMessage (h : s.MovesKept ordered) {m : Arrival} : (s.takeMessage m).MovesKept ordered := by
  unfold State.takeMessage
  split
  · exact h
  · split
    · exact h
    · split
      · exact h.takeReply
      · exact h.missTransaction

theorem noteFrameEnds (h : s.MovesKept ordered) : s.noteFrameEnds.MovesKept ordered := by
  refine h.foldl (fun u k hu => ?_) _
  exact hu.modSlot (f := fun sl => { sl with lastAct := sl.lastAct.map (noteFrameEnd u.sbc.frame u.now) })
    fun _ => .refl _

theorem grantStep (h : s.MovesKept ordered) : s.grantStep.MovesKept ordered := by
  unfold State.grantStep
  split
  · next p _ =>
    split
    · next sl slot =>
      have granted : sl.record.SameMove
          (grantedSlot sl p.kind (s.namedPhase sl.record p.kind) s.sbc.frame).record := by
        simp only [grantedSlot, countAttempt]
        cases p.kind <;> exact ⟨rfl, rfl, rfl⟩
      exact (h.setSlot slot granted).of_eq rfl rfl rfl
    · exact h
  · exact h

theorem frameBoundary (h : s.MovesKept ordered) : s.frameBoundary.MovesKept ordered := by
  have opened := h.missTransaction.noteFrameEnds.of_eq (t := s.missTransaction.noteFrameEnds.recoveryTick.openFrame)
    (by simp) (by simp) (by simp)
  exact opened.grantStep

theorem beginUnit (h : s.MovesKept ordered) : s.beginUnit.MovesKept ordered := by
  unfold State.beginUnit
  dsimp only
  split
  · split
    · exact h.atInstant.missTransaction.of_eq rfl rfl rfl
    · exact h.of_eq rfl rfl rfl
  · exact h.of_eq rfl rfl rfl

/-! ### The Balancing Planner -/

/-- A run chooses no more moves than the queue has places for (R54). -/
theorem planEntries_length (s : State) (w : PerPhase Int) :
    (s.planEntries w).length ≤ 16 - s.mvq.queue.length := by
  obtain ⟨-, -, length⟩ := State.batch_spec (s := s) (start := w) s.stepLimit (.nil (e := s.tbs.epoch))
  exact (length.trans (Nat.zero_add _).le).trans (min_le_right _ _)

theorem plannerRun (h : s.MovesKept ordered) {e : Word} {d : Bool} : (s.plannerRun e d).MovesKept ordered := by
  rcases s.plannerRun_cases e d with ⟨o, before, -, run⟩ | ⟨w, ready, -, run⟩
  · exact run ▸ h.of_eq rfl rfl rfl
  · obtain ⟨steps, -⟩ := s.planEntries_spec w
    have fit := planEntries_length s w
    have handed : (s.acceptBatch (s.planEntries w)).MovesKept ordered := by
      refine h.acceptBatch (fun x hx => ?_) steps.conns_differ fun ho => ?_
      · obtain ⟨⟨l, movable⟩, -⟩ := steps.entry_movable hx
        exact movable.recordLink
      · have short := h.short ho
        omega
    exact run ▸ handed.of_eq rfl rfl rfl

theorem rescuePass (h : s.MovesKept ordered) {c : RescueCause} : (s.rescuePass c).MovesKept ordered := by
  have examined (a : Pass) (n : ConnId) (ha : a.state.MovesKept ordered) : (a.examine n).state.MovesKept ordered := by
    unfold Pass.examine
    split
    · exact ha
    · next candidate =>
      split
      · exact ha
      · dsimp only
        split
        · exact ha
        · unfold Pass.place
          split
          · exact ha
          · next place =>
            exact ha.makeRoom_accept (State.rescueCandidate_eq_some.mp candidate).2 (Bool.not_eq_true _ ▸ place)
  have passed : s.passOf.state.MovesKept ordered := by
    unfold State.passOf
    exact Pass.foldl_examine (p := fun a => a.state.MovesKept ordered) examined _ h
  rw [State.rescuePass_eq]
  split <;> exact passed.of_eq rfl rfl rfl

theorem epochRescue (h : s.MovesKept ordered) : s.epochRescue.MovesKept ordered := by
  unfold State.epochRescue
  split
  · exact h.rescuePass
  · exact h

theorem signalEnd (h : s.MovesKept ordered) {e : Word} {d : Bool} {x : ExpiryPlace} :
    (s.signalEnd e d x).MovesKept ordered := by
  unfold State.signalEnd
  split
  · exact h.expireQueued.plannerRun.epochRescue
  · exact h.plannerRun.expireQueued.epochRescue
  · exact h.plannerRun.epochRescue.expireQueued

/-! ### The Feeder Measurement Unit -/

theorem reportLoss (h : s.MovesKept ordered) : s.reportLoss.MovesKept ordered := by
  unfold State.reportLoss
  split
  · exact h.rescuePass
  · exact h

theorem healthChanged (h : s.MovesKept ordered) {p : Phase} {old : Health} :
    (s.healthChanged p old).MovesKept ordered := by
  have disturbed : (if old = .healthy then s.disturb else s).MovesKept ordered := by
    split
    · exact h.of_eq rfl rfl rfl
    · exact h
  have reported {u : State} (hu : u.MovesKept ordered) :
      (if u.health p = .lost ∧ (u.chan p).started then u.reportLoss else u).MovesKept ordered := by
    split
    · exact hu.reportLoss
    · exact hu
  have restored {u : State} (hu : u.MovesKept ordered) :
      (if u.health p = .healthy then u.enteredHealthy p else u).MovesKept ordered := by
    split
    · exact hu.of_eq (by simp) (by simp) (by simp)
    · exact hu
  unfold State.healthChanged
  split
  · exact h
  · exact ((restored (reported disturbed)).of_eq (by simp) (by simp) (by simp)).recheckSlots

theorem completeCycle (h : s.MovesKept ordered) {p : Phase} {x : Sums} : (s.completeCycle p x).MovesKept ordered :=
  h.setChan.healthChanged

theorem positiveCrossing (h : s.MovesKept ordered) {p : Phase} {x : Nat} {y : Sums} :
    (s.positiveCrossing p x y).MovesKept ordered := by
  have closed := h.of_eq (t := s.closeNeutralWindow p (completedCycle s.period (s.chan p).cycle x)) (by simp) (by simp)
    (by simp)
  have reported {u : State} (hu : u.MovesKept ordered) :
      ((u.openNeutralWindow p x).reportCrossing p).MovesKept ordered :=
    hu.of_eq (by simp) (by simp) (by simp)
  unfold State.positiveCrossing
  dsimp only
  refine reported ?_
  split
  · exact closed.setChan.completeCycle
  · exact closed.setChan

theorem takeSample (h : s.MovesKept ordered) {p : Phase} {v i : Int} : (s.takeSample p v i).MovesKept ordered := by
  have sampled {c : PhaseChannel} :
      ((s.atInstant ((s.chan p).sampledAt + (s.chan p).interval)).setChan p c).MovesKept ordered := h.of_eq rfl rfl rfl
  unfold State.takeSample
  dsimp only
  split
  · split <;> split <;> exact sampled
  · split
    · exact sampled
    · split
      · split
        · exact sampled.positiveCrossing
        · exact sampled
      · exact sampled

theorem neutralWindow (h : s.MovesKept ordered) {x : Nat} : (s.neutralWindow x).MovesKept ordered := by
  unfold State.neutralWindow
  dsimp only
  split
  · exact h.setNeutral.haltEvent
  · exact h.setNeutral

/-! ### Epochs and the day -/

theorem endEpoch (h : s.MovesKept ordered) : s.endEpoch.MovesKept ordered := by
  have closed := (h.of_eq (t := s.closeAverages) (by simp) (by simp) (by simp)).same (.closeLoads _)
  have numbered : State.MovesKept ordered { s.closeAverages.closeLoads.advanceEpoch with free := s.free + 1 } :=
    closed.of_eq rfl rfl rfl
  exact numbered.signalEnd

theorem takeOwedEnd (h : s.MovesKept ordered) : s.takeOwedEnd.MovesKept ordered := by
  unfold State.takeOwedEnd
  split
  · exact h.endEpoch
  · exact h

theorem tick (h : s.MovesKept ordered) : s.tick.MovesKept ordered := by
  have second {u : State} (hu : u.MovesKept ordered) : u.nextSecond.MovesKept ordered := by
    unfold State.nextSecond
    split
    · exact hu.same (.rollDay u)
    · exact hu.of_eq rfl rfl rfl
  have marked {u : State} (hu : u.MovesKept ordered) : u.markEnd.MovesKept ordered :=
    hu.of_eq (by simp) (by simp) (by simp)
  have timed {u : State} (hu : u.MovesKept ordered) {x : Nat} :
      State.MovesKept ordered { u.atInstant x with tbs := { u.tbs with tickAt := x } } := hu.of_eq rfl rfl rfl
  exact marked (second (timed h.takeOwedEnd))

theorem setTime (h : s.MovesKept ordered) {time : Nat} {day : Half} : (s.setTime time day).MovesKept ordered := by
  have ended := h.takeOwedEnd.disturb.endEpoch
  unfold State.setTime
  dsimp only
  exact ended.of_eq rfl rfl rfl

end State.MovesKept
end Sys2Proof.Machine
end

section
/-! The move records, command by command: every request of the catalogue and every event keeps them filed, bounded and
in order. -/

namespace Sys2Proof.Machine

open Sys2Proof

variable {s t : State} {ordered : Bool}

/-- A MOVE that passes check 9 has no record yet, and one that passes check 13 finds or makes a place (R71, R72). -/
theorem moveRefusal_eq_none {n : ConnId} {y : Phase} (passed : moveRefusal s n y = none) :
    (s.conn n).recordLink = none ∧ (s.queueFull && s.youngestPlanner.isNone) = false := by
  unfold moveRefusal at passed
  dsimp only at passed
  split_ifs at passed with _ _ _ _ _ unlinked _ _ _ place
  exact ⟨Option.not_isSome_iff_eq_none.mp unlinked, Bool.not_eq_true _ ▸ place⟩

namespace State.MovesKept

/-! ### The answers of requests -/

theorem controlled {α : Type} {lk : Link} {arg : Option α} {effect : α → State → Answered} (h : s.MovesKept ordered)
    (he : ∀ a, (effect a s).1.MovesKept ordered) : (controlled lk arg effect s).1.MovesKept ordered := by
  unfold Machine.controlled
  split
  · split
    · exact he _
    · exact h
  · exact h

theorem gated {α : Type} {lk : Link} {gate : State → Option Status} {arg : Option α} {effect : α → State → Answered}
    (h : s.MovesKept ordered) (he : ∀ a, (effect a s).1.MovesKept ordered) :
    (gated lk gate arg effect s).1.MovesKept ordered := by
  unfold Machine.gated
  split
  · split
    · exact h
    · split
      · exact he _
      · exact h
  · exact h

theorem readWith {α : Type} {arg : Option α} {reply : α → State → List Byte} (h : s.MovesKept ordered) :
    (readWith arg reply s).1.MovesKept ordered := by
  unfold Machine.readWith
  split <;> exact h

theorem answered_ite {P : Prop} [Decidable P] {x y : Answered} (hx : P → x.1.MovesKept ordered)
    (hy : ¬ P → y.1.MovesKept ordered) : (if P then x else y).1.MovesKept ordered := by
  split
  · exact hx ‹_›
  · exact hy ‹_›

theorem perConnection {lk : Link} {arg : Option ConnId} {effect : ConnId → State → Answered} (h : s.MovesKept ordered)
    (he : ∀ n, (effect n s).1.MovesKept ordered) : (perConnection lk arg effect s).1.MovesKept ordered :=
  h.controlled fun n => answered_ite (fun _ => he n) fun _ => h

theorem unlessInSlot {n : ConnId} {effect : State → Answered} (h : s.MovesKept ordered)
    (he : (effect s).1.MovesKept ordered) : (unlessInSlot n effect s).1.MovesKept ordered :=
  answered_ite (fun _ => h) fun _ => he

/-! ### Requests that reach the records -/

theorem doMove (h : s.MovesKept ordered) (lk : Link) (payload : List Byte) :
    (doMove lk payload s).1.MovesKept ordered := h.gated fun a => by
  split
  · exact h
  · next passed _ =>
    obtain ⟨free, place⟩ := moveRefusal_eq_none passed
    exact h.makeRoom_accept free place
  · exact h

theorem doCancel (h : s.MovesKept ordered) (lk : Link) (payload : List Byte) :
    (doCancel lk payload s).1.MovesKept ordered := h.controlled fun q => by
  split
  · next r found =>
    have ended : (s.endQueued r .cancelled).MovesKept ordered := h.endQueued (List.mem_of_find?_eq_some found)
    exact ended
  · split
    · exact h.cancelSlot
    · exact h

/-- RESTART leaves nothing queued and every slot free (R173). -/
theorem restart : s.restart.MovesKept ordered := by
  obtain ⟨v, abandoned, eq⟩ := State.restart_eq s
  rw [eq]
  refine .of_empty rfl fun k => (abandoned.slot k).trans (if_pos ?_)
  revert k
  decide

theorem clearInputs (h : s.MovesKept ordered) {x : Byte} : (s.clearInputs x).MovesKept ordered :=
  h.of_eq (by simp) (by simp) (by simp)

theorem writeType (h : s.MovesKept ordered) {i : InputLine} {level : Bool} :
    (s.writeType i level).MovesKept ordered := by
  unfold State.writeType
  dsimp only
  split
  · exact h.setInput.setStatus
  · exact h.setInput

theorem writeParam (h : s.MovesKept ordered) {p : Param} {v : Int} (written : s.writeParam p v = some t) :
    t.MovesKept ordered := by
  have mapped {α : Type} {x : Option α} {f : α → State} (e : x.map f = some t) (hf : ∀ a, (f a).MovesKept ordered) :
      t.MovesKept ordered := by
    obtain ⟨a, -, rfl⟩ := Option.map_eq_some_iff.mp e
    exact hf a
  cases p with
  | nominal | chatterHold | rescue | polarity => exact mapped written fun _ => h.of_eq rfl rfl rfl
  | inputType i =>
    cases i
    case keyLocal | supplyWarn => exact Option.some.inj written ▸ h.writeType
    all_goals exact mapped written fun _ => h.writeType
  | _ => exact Option.some.inj written ▸ h.of_eq rfl rfl rfl

theorem doSetParam (h : s.MovesKept ordered) (lk : Link) (payload : List Byte) :
    (doSetParam lk payload s).1.MovesKept ordered :=
  h.controlled fun p => answered_ite (fun _ => h) fun _ => by
    unfold storeValue
    split
    · split
      · next written => exact h.writeParam written
      · exact h
    · exact h

theorem doQueryModule (h : s.MovesKept ordered) (lk : Link) (payload : List Byte) :
    (doQueryModule lk payload s).1.MovesKept ordered := by
  unfold Machine.doQueryModule
  split
  · exact h
  · exact answered_ite (fun _ => h) fun _ => h.of_eq rfl rfl rfl

theorem doGetParam (h : s.MovesKept ordered) (payload : List Byte) : (doGetParam payload s).1.MovesKept ordered := by
  unfold Machine.doGetParam
  split
  · split <;> exact h
  · exact h

theorem doUnpin (h : s.MovesKept ordered) (lk : Link) (payload : List Byte) :
    (doUnpin lk payload s).1.MovesKept ordered := by
  refine answered_ite (fun _ => ?_) fun _ => h
  split
  · exact answered_ite (fun _ => h.setConn rfl) fun _ => h
  · exact h

theorem emptyHaltRecord (h : s.MovesKept ordered) : s.emptyHaltRecord.MovesKept ordered := h.of_eq rfl rfl rfl

/-- Every request of the catalogue. -/
theorem commandBody (h : s.MovesKept ordered) (lk : Link) (payload : List Byte) (c : Command) :
    (commandBody lk payload c s).1.MovesKept ordered := by
  have moded (P : Prop) [Decidable P] (m : BaseMode) : (if P then s else s.enterMode m).MovesKept ordered := by
    split
    · exact h
    · exact h.enterMode
  cases c with
  | status | readConn | readTable | readPhases | readPlan | readQueue | readSlots | readHistory | readEvents
  | readInputs => exact h.readWith
  | getParam => exact h.doGetParam payload
  | queryModule => exact h.doQueryModule lk payload
  | move => exact h.doMove lk payload
  | cancel => exact h.doCancel lk payload
  | pin => exact h.perConnection fun _ => h.unlessInSlot (h.setConn rfl)
  | hold => exact h.perConnection fun _ => h.unlessInSlot (h.setConn rfl)
  | release =>
    refine h.perConnection fun n => h.unlessInSlot (h.setConn ?_)
    unfold released
    split <;> rfl
  | setAllowance => exact h.controlled fun _ => answered_ite (fun _ => h.setConn rfl) fun _ => h
  | configConn => exact h.gated fun a => h.setConn (configured_recordLink _ _ _)
  | setClass => exact h.gated fun _ => h.of_eq rfl rfl rfl
  | setParam => exact h.doSetParam lk payload
  | start =>
    exact h.gated fun _ => answered_ite (fun _ => h) fun _ =>
      answered_ite (fun _ => h) fun _ => h.emptyHaltRecord.enterMode
  | autoOn => exact h.gated fun _ => moded _ _
  | autoOff => exact h.gated fun _ => moded _ _
  | configure =>
    exact h.gated fun _ => answered_ite (fun _ => h) fun _ => answered_ite (fun _ => h.setMode) fun _ => h
  | resume => exact h.gated fun _ => answered_ite (fun _ => h) fun _ => h.emptyHaltRecord.enterMode
  | esRetry =>
    refine h.controlled fun _ => ?_
    split
    · exact h.of_eq (by simp [okWith]) (by simp [okWith]) (by simp [okWith])
    · exact h
  | clearEvents => exact h.controlled fun _ => h.of_eq rfl rfl rfl
  | clearInputs => exact h.controlled fun _ => h.clearInputs
  | setTime => exact h.controlled fun _ => h.setTime
  | restart => exact h.controlled fun _ => restart
  | unpin => exact h.doUnpin lk payload

/-- A request is taken at a free port and dropped at an answering one (R176). -/
theorem takeRequest (h : s.MovesKept ordered) {lk : Link} {code tag : Byte} {body : State → Answered}
    (hb : ∀ u : State, u.MovesKept ordered → (body u).1.MovesKept ordered) :
    (takeRequest lk code tag body s).MovesKept ordered := by
  unfold Machine.takeRequest
  split
  · exact h.setPort
  · have taken := hb _ (h.setPort (lk := lk) (x := (s.port lk).asked code tag))
    dsimp only
    split
    · exact taken.setPort
    · exact taken

theorem takeFrame (h : s.MovesKept ordered) (lk : Link) (code tag : Byte) (payload : List Byte) :
    (takeFrame lk code tag payload s).MovesKept ordered :=
  h.takeRequest fun u hu => by
    unfold requestBody
    split
    · exact hu.commandBody lk payload _
    · exact hu

theorem takeByte (h : s.MovesKept ordered) (lk : Link) (b : Byte) : (s.takeByte lk b).MovesKept ordered := by
  unfold State.takeByte
  split
  · exact h.setPort
  · exact h.takeFrame lk _ _ _

theorem takeGap (h : s.MovesKept ordered) (lk : Link) (b : Bool) : (s.takeGap lk b).MovesKept ordered := by
  unfold State.takeGap
  split
  · exact h
  · split
    · exact h.setPort
    · exact h.atInstant.setPort

/-! ### Commands -/

theorem setStore (h : s.MovesKept ordered) {x : StoreState} : (s.setStore x).MovesKept ordered := h.of_eq rfl rfl rfl

theorem select (h : s.MovesKept ordered) : s.select.MovesKept ordered := by
  unfold State.select
  split
  · exact h
  · exact h.of_eq rfl rfl rfl

theorem clockFall (h : s.MovesKept ordered) : s.clockFall.MovesKept ordered := by
  unfold State.clockFall
  split
  · exact h.of_eq rfl rfl rfl
  · exact h

/-- A command that answers a state it has settled. -/
theorem of_next {x : State} (h : x.MovesKept ordered)
    (e : (.next x.settle : Host.Outcome State Fault Refusal) = .next t) : t.MovesKept ordered := by
  cases e
  exact h.settle

/-- A command that settles one of two states, as its condition says. -/
theorem of_ite {P : Prop} [Decidable P] {x y : State} (hx : x.MovesKept ordered) (hy : y.MovesKept ordered)
    (e : (if P then .next x.settle else .next y.settle : Host.Outcome State Fault Refusal) = .next t) :
    t.MovesKept ordered := by
  split at e
  · exact hx.of_next e
  · exact hy.of_next e

end State.MovesKept

/-- Every command keeps the move records filed, bounded and in order. -/
theorem exec_movesKept (c : Instr) (h : s.MovesKept ordered) (e : exec c s = .next t) : t.MovesKept ordered := by
  have request {lk : Link} {tag : Byte} {payload : List Byte} (c : Command)
      (e : (.next (takeRequest lk c.code tag (commandBody lk payload c) s).settle : Host.Outcome State Fault Refusal)
        = .next t) : t.MovesKept ordered := (h.takeRequest fun _ hu => hu.commandBody lk payload c).of_next e
  have message (m : Arrival) (e : (.next (s.takeMessage m).settle : Host.Outcome State Fault Refusal) = .next t) :
      t.MovesKept ordered := h.takeMessage.of_next e
  have byte (lk : Link) (b : Byte) (e : (.next (s.takeByte lk b).settle : Host.Outcome State Fault Refusal) = .next t) :
      t.MovesKept ordered := (h.takeByte lk b).of_next e
  have sample (p : Phase) (v i : Int)
      (e : (.next (s.takeSample p v i).settle : Host.Outcome State Fault Refusal) = .next t) :
      t.MovesKept ordered := h.takeSample.of_next e
  have line (i : InputLine) (b : Bool)
      (e : (.next (s.sampleInput i b).settle : Host.Outcome State Fault Refusal) = .next t) :
      t.MovesKept ordered := h.sampleInput.of_next e
  cases c with
  | powerOnReset lines mV low =>
    exact (State.MovesKept.of_empty (s := powerOn lines mV low s) rfl State.reset_slot).of_next e
  | status => exact request .status e
  | readConn => exact request .readConn e
  | readTable => exact request .readTable e
  | readPhases => exact request .readPhases e
  | readPlan => exact request .readPlan e
  | readQueue => exact request .readQueue e
  | readSlots => exact request .readSlots e
  | readHistory => exact request .readHistory e
  | readEvents => exact request .readEvents e
  | readInputs => exact request .readInputs e
  | getParam => exact request .getParam e
  | queryModule => exact request .queryModule e
  | move => exact request .move e
  | cancel => exact request .cancel e
  | pin => exact request .pin e
  | unpin => exact request .unpin e
  | hold => exact request .hold e
  | release => exact request .release e
  | setAllowance => exact request .setAllowance e
  | configConn => exact request .configConn e
  | setClass => exact request .setClass e
  | setParam => exact request .setParam e
  | start => exact request .start e
  | autoOn => exact request .autoOn e
  | autoOff => exact request .autoOff e
  | configure => exact request .configure e
  | resume => exact request .resume e
  | esRetry => exact request .esRetry e
  | clearEvents => exact request .clearEvents e
  | clearInputs => exact request .clearInputs e
  | setTime => exact request .setTime e
  | restart => exact request .restart e
  | linkFrameDiscarded lk b => exact byte lk b e
  | linkByteReceived lk b => exact byte lk b e
  | linkGapTimeout lk b => exact (h.takeGap lk b).of_next e
  | unknownCommand lk code tag payload => exact (h.takeFrame lk code tag payload).of_next e
  | replySent lk => exact h.setPort.of_next e
  | acceptedCrossing p v i => exact sample p v i e
  | samplePair p v i => exact sample p v i e
  | noCrossingLoss p => exact h.of_ite h.atInstant.setChan.healthChanged e
  | neutralWindowEnd samples =>
    have taken : s.takeWindow.MovesKept ordered := h.of_eq (by simp) (by simp) (by simp)
    exact taken.neutralWindow.of_ite h e
  | secondTick => exact h.tick.of_next e
  | dayRollover => exact h.tick.of_ite h e
  | epochEnd => exact h.takeOwedEnd.of_next e
  | debounceComplete i b => exact line i b e
  | inputSample i b => exact line i b e
  | supplyClearingTimeout =>
    simp only [exec, execSupplyClearingTimeout] at e
    split at e
    · exact h.atInstant.setSupply.qualifiedClear.of_next e
    all_goals exact h.of_next e
  | storeVoltageRenewal mV => exact (h.of_eq (by simp) (by simp) (by simp)).of_next e
  | chargeTimeout =>
    simp only [exec, execChargeTimeout] at e
    split at e
    · exact h.atInstant.setStore.haltEvent.of_next e
    all_goals exact h.of_next e
  | recoveryEnd =>
    simp only [exec, execRecoveryEnd] at e
    split at e
    · exact (h.of_eq (by simp) (by simp) (by simp)).of_ite h e
    · exact h.of_next e
  | frameBoundary =>
    simp only [exec, execFrameBoundary] at e
    split at e
    · exact h.atInstant.frameBoundary.of_next e
    · exact h.of_next e
  | unitStart =>
    simp only [exec, execUnitStart] at e
    split at e
    · exact h.beginUnit.of_ite (h.beginUnit.of_eq (by simp) (by simp) (by simp)) e
    · exact h.of_next e
  | pollReply m => exact message m e
  | actuationReply m => exact message m e
  | passThroughReply m => exact message m e
  | transactionMissed => exact h.missTransaction.of_next e
  | gapPoint k =>
    simp only [exec, execGapPoint] at e
    split at e
    · exact h.toSlotInstant.enterWaitMake.of_ite h.toSlotInstant e
    · exact h.toSlotInstant.of_next e
  | orphanDeadline k =>
    simp only [exec, execOrphanDeadline] at e
    split at e
    · exact h.toSlotInstant.enterOrphaned.of_ite h.toSlotInstant e
    · exact h.toSlotInstant.of_next e
  | darkDeadline k =>
    simp only [exec, execDarkDeadline] at e
    split at e
    · exact h.toSlotInstant.endRecord.of_ite h.toSlotInstant e
    · exact h.toSlotInstant.of_next e
  | admission => exact h.takeAdmission.of_next e
  | summarySelect => exact h.select.of_next e
  | summaryDeselect => exact (h.of_eq (t := s.deselect) rfl rfl rfl).of_next e
  | summaryClockFallingEdge => exact h.clockFall.of_next e

end Sys2Proof.Machine

open Sys2Proof Sys2Proof.Machine

/-- Settles O7: by the property that the records are linked and stand apart, kept operation by operation. -/
theorem oneRecordPerConnection : Obligations.OneRecordPerConnection := by
  intro c s t linked e
  exact State.movesKept_false.mp (exec_movesKept c (State.movesKept_false.mpr linked) e)

/-- Settles O8: by the same property, with the bound and the order of the queue asked for. -/
theorem queueBoundedAndOrdered : Obligations.QueueBoundedAndOrdered := by
  intro c s t linked ordered e
  exact (State.movesKept_true.mp (exec_movesKept c (State.movesKept_true.mpr ⟨linked, ordered⟩) e)).2
end

section
/-! MOVE (R71): its checks in their order, and the acceptance of a move that passes them (R68 to R72). -/

namespace Sys2Proof.Machine

open Sys2Proof

variable {s : State} {lk : Link} {code tag : Byte} {n : ConnId} {x y : Phase}

/-! ### A gated command of the in-control link (R178) -/

section
variable {α : Type} {gate : State → Option Status} {arg : Option α} {effect : α → State → Answered}

/-- Barred by its mode check. -/
theorem gated_barred {st : Status} (auth : s.mdc.authority = lk) (bar : gate (s.asking lk code tag) = some st) :
    gated lk gate arg effect (s.asking lk code tag) = refuse st (s.asking lk code tag) := by
  simp [gated, State.inControl, auth, bar]

/-- Past its mode check, with arguments that name nothing. -/
theorem gated_badArg (auth : s.mdc.authority = lk) (open_ : gate (s.asking lk code tag) = none) (bad : arg = none) :
    gated lk gate arg effect (s.asking lk code tag) = refuse .badArg (s.asking lk code tag) := by
  simp [gated, State.inControl, auth, open_, bad]

/-- Past its checks it does its effect. -/
theorem gated_open {a : α} (auth : s.mdc.authority = lk) (open_ : gate (s.asking lk code tag) = none)
    (good : arg = some a) : gated lk gate arg effect (s.asking lk code tag) = effect a (s.asking lk code tag) := by
  simp [gated, State.inControl, auth, open_, good]

end

/-! ### The operands of MOVE -/

theorem phaseOfCode?_code (y : Phase) : phaseOfCode? (BitVec.ofNat 8 (Phase.code y)).toNat = some y := by
  cases y <;> rfl

theorem argMove_bytes (n : ConnId) (y : Phase) : argMove (u8 (connNumber n) ++ u8 (Phase.code y)) = some (n, y) := by
  simp only [argMove, u8, List.cons_append, List.nil_append, connOf?_connNumber, phaseOfCode?_code]

theorem connOf?_of_outside {k : Nat} (h : k = 0 ∨ 96 < k) : connOf? k = none := by
  unfold connOf?
  exact dif_neg (by omega)

theorem phaseOfCode?_of_outside {k : Nat} (h : k = 0 ∨ 3 < k) : phaseOfCode? k = none := by
  unfold phaseOfCode?
  split
  · omega
  · omega
  · omega
  · rfl

/-- Another length than two, or two bytes that name no connection or no phase (R178). -/
theorem argMove_eq_none {pl : List Byte}
    (bad : pl.length ≠ 2 ∨ ∃ a b : Byte, pl = [a, b] ∧ (a = 0 ∨ 96 < a.toNat ∨ b = 0 ∨ 3 < b.toNat)) :
    argMove pl = none := by
  rcases bad with length | ⟨a, b, rfl, range⟩
  · unfold argMove
    split
    · exact absurd rfl length
    · rfl
  · have zero {c : Byte} (h : c = 0) : c.toNat = 0 := h ▸ rfl
    simp only [argMove]
    rcases range with h | h | h | h
    · rw [connOf?_of_outside (.inl (zero h))]
    · rw [connOf?_of_outside (.inr h)]
    · rw [phaseOfCode?_of_outside (.inl (zero h))]
      cases connOf? a.toNat <;> rfl
    · rw [phaseOfCode?_of_outside (.inr h)]
      cases connOf? a.toNat <;> rfl

/-! ### The command in the asking state -/

theorem moveGate_of_moving (mode : s.modeName = .manual ∨ s.modeName = .auto) :
    moveGate (s.asking lk code tag) = none := by
  rcases mode with mode | mode <;> simp [moveGate, mode]

/-- A MOVE that a check fails is refused with that check's status. -/
theorem doMove_refused {st : Status} (auth : s.mdc.authority = lk) (mode : s.modeName = .manual ∨ s.modeName = .auto)
    (refusal : moveRefusal s n y = some st) : doMove lk (u8 (connNumber n) ++ u8 (Phase.code y)) (s.asking lk code tag)
      = refuse st (s.asking lk code tag) := by
  have asked : moveRefusal (s.asking lk code tag) n y = some st := refusal
  rw [doMove, gated_open auth (moveGate_of_moving mode) (argMove_bytes n y)]
  simp only [asked]

/-- A MOVE that passes every check is accepted. -/
theorem doMove_accepted (auth : s.mdc.authority = lk) (mode : s.modeName = .manual ∨ s.modeName = .auto)
    (passed : moveRefusal s n y = none) (phase : (s.conn n).phase = .on x) :
    doMove lk (u8 (connNumber n) ++ u8 (Phase.code y)) (s.asking lk code tag)
      = acceptMove lk n x y (s.asking lk code tag) := by
  have asked : moveRefusal (s.asking lk code tag) n y = none := passed
  rw [doMove, gated_open auth (moveGate_of_moving mode) (argMove_bytes n y)]
  simp only [asked, State.asking_conn, phase]
  rfl

/-- A queued record that ends reads and writes no port. -/
theorem State.endQueued_ports (r : MoveRec) (res : Result) (ports : PerLink Port) :
    State.endQueued { s with ports := ports } r res = { s.endQueued r res with ports := ports } := by
  rw [State.endQueued, State.finishRecord_eq, State.endQueued, State.finishRecord_eq]
  rfl

/-- Room made for a record (R72). -/
theorem State.makeRoom_of_place (place : s.mvq.queue.length < 16) : s.makeRoom = s :=
  if_neg fun full => absurd (State.queueFull_iff.mp full) (not_le.mpr place)

theorem State.makeRoom_of_full {d : MoveRec} (full : 16 ≤ s.mvq.queue.length) (youngest : s.youngestPlanner = some d) :
    s.makeRoom = s.endQueued d .displaced := by
  rw [State.makeRoom, if_pos (State.queueFull_iff.mpr full), youngest]

theorem State.asking_makeRoom :
    (s.asking lk code tag).makeRoom = { s.makeRoom with ports := (s.asking lk code tag).ports } := by
  by_cases full : 16 ≤ s.mvq.queue.length
  · cases youngest : s.youngestPlanner with
    | none => simp only [State.makeRoom, State.asking_youngestPlanner, youngest, ite_self]; rfl
    | some d =>
      rw [State.makeRoom_of_full full youngest, State.makeRoom_of_full (s := s.asking lk code tag) full youngest]
      exact State.endQueued_ports ..
  · rw [State.makeRoom_of_place (not_le.mp full), State.makeRoom_of_place (s := s.asking lk code tag) (not_le.mp full)]
    rfl

theorem State.makeRoom_seqCounter : s.makeRoom.mvq.seqCounter = s.mvq.seqCounter := by
  rcases s.makeRoom_cases with same | ⟨d, -, -, displaced⟩
  · rw [same]
  · rw [displaced, (s.endQueued_mvq d .displaced).2.2]

/-! ### The command -/

/-- The record of a MOVE that passes every check takes the room made for it, and the reply carries its number. -/
theorem exec_move_accepted (free : s.portFree lk) (auth : s.mdc.authority = lk)
    (mode : s.modeName = .manual ∨ s.modeName = .auto) (passed : moveRefusal s n y = none)
    (phase : (s.conn n).phase = .on x) : exec (.move lk tag (u8 (connNumber n) ++ u8 (Phase.code y))) s
      = .next ((s.makeRoom.accept n x y (Link.origin lk)).answering lk 0x20 tag
          (0x00 :: be16 s.mvq.seqCounter)).settle := by
  refine settled_congr (takeRequest_effect _ _ _ _ free (by simp) ((doMove_accepted auth mode passed phase).trans ?_))
  rw [acceptMove, State.asking_makeRoom, ← State.makeRoom_seqCounter (s := s)]
  rfl

theorem exec_move_refused (st : Status) (free : s.portFree lk) (auth : s.mdc.authority = lk)
    (mode : s.modeName = .manual ∨ s.modeName = .auto) (refusal : moveRefusal s n y = some st) :
    exec (.move lk tag (u8 (connNumber n) ++ u8 (Phase.code y))) s = .next (s.answering lk 0x20 tag [st.code]).settle :=
  settled_congr (takeRequest_refuse st free (doMove_refused auth mode refusal))

/-- Its gate, in the modes that bar a MOVE (check 2 of R71). -/
theorem exec_move_barred (st : Status) (free : s.portFree lk) (auth : s.mdc.authority = lk) (pl : List Byte)
    (bar : moveGate (s.asking lk 0x20 tag) = some st) :
    exec (.move lk tag pl) s = .next (s.answering lk 0x20 tag [st.code]).settle :=
  settled_congr (takeRequest_refuse st free (gated_barred auth bar))

end Sys2Proof.Machine

open Sys2Proof Sys2Proof.Machine

/-- Settles O28: the mode and the operands by the gate of the command, then check by check. -/
theorem moveRefusedByFirstFailure : Obligations.MoveRefusedByFirstFailure := by
  intro s lk tag n y free auth
  dsimp only
  have wrongMode (mode : s.modeName = .config ∨ s.modeName = .rideThrough) :
      moveGate (s.asking lk 0x20 tag) = some .wrongMode := by
    rcases mode with mode | mode <;> simp [moveGate, mode]
  have halted (mode : s.modeName = .halted) : moveGate (s.asking lk 0x20 tag) = some .haltActive := by
    simp [moveGate, mode]
  refine ⟨fun pl => ⟨fun mode => exec_move_barred .wrongMode free auth pl (wrongMode mode),
    fun mode => exec_move_barred .haltActive free auth pl (halted mode), fun mode bad => ?_⟩,
    fun mode => exec_move_barred .wrongMode free auth _ (wrongMode mode),
    fun mode => exec_move_barred .haltActive free auth _ (halted mode),
    fun mode => ?_⟩
  · exact settled_congr (takeRequest_refuse .badArg free
      (gated_badArg auth (moveGate_of_moving mode) (argMove_eq_none bad)))
  have refused (st : Status) := exec_move_refused (tag := tag) (n := n) (y := y) st free auth mode
  refine ⟨fun absent => refused .notPresent (by simp [moveRefusal, absent]), fun present => ⟨fun unsupplied =>
    refused .notSupplied (by simp [moveRefusal, present, unsupplied]), fun same =>
    refused .samePhase (by simp [moveRefusal, present, same]), fun x phase other => ⟨fun pin =>
    refused .pinned (by simp [moveRefusal, present, phase, other, pin]), fun pin => ⟨fun hold =>
    refused .held (by simp [moveRefusal, present, phase, other, pin, Option.isSome_iff_ne_none, hold]), fun hold =>
    ⟨fun link =>
    refused .duplicate (by simp [moveRefusal, present, phase, other, pin, hold, Option.isSome_iff_ne_none, link]),
    fun link => ⟨fun offline =>
    refused .offline (by simp [moveRefusal, present, phase, other, pin, hold, link, offline]), fun online =>
    ⟨fun target =>
    refused .targetUnhealthy (by simp [moveRefusal, present, phase, other, pin, hold, link, online, target]),
    fun target => ⟨fun moves =>
    refused .limit (by simp [moveRefusal, present, phase, other, pin, hold, link, online, target, moves]),
    fun moves full noPlanner => refused .queueFull ?_⟩⟩⟩⟩⟩⟩⟩⟩
  have youngest : s.youngestPlanner = none := by
    rw [State.youngestPlanner, List.find?_eq_none]
    intro r hr
    simpa [MoveRec.isPlanner] using noPlanner r (List.mem_reverse.mp hr)
  simp [moveRefusal, present, phase, other, pin, hold, link, online, target, not_le.mpr moves, State.queueFull_iff,
    full, youngest]

/-- Settles O29: every check passed, the record enters a queue with a place, or takes that of the youngest PLANNER
record. -/
theorem moveAccepted : Obligations.MoveAccepted := by
  intro s lk tag n x y free auth mode present phase other pin hold link online target moves
  have passed (room : (s.queueFull && s.youngestPlanner.isNone) = false) : moveRefusal s n y = none := by
    simp [moveRefusal, present, phase, other, pin, hold, link, online, target, not_le.mpr moves, room]
  refine ⟨fun short => ?_, fun full d youngest => ?_⟩
  · have place : s.queueFull = false := by
      rw [← Bool.not_eq_true, State.queueFull_iff]
      exact not_le.mpr short
    rw [exec_move_accepted free auth mode (passed (by simp [place])) phase, State.makeRoom_of_place short]
    rfl
  · rw [exec_move_accepted free auth mode (passed (by simp [youngest])) phase, State.makeRoom_of_full full youngest]
end

section
/-! CANCEL (R74): of a queued record, and of a record in a slot by the slot's stage (R103). -/

namespace Sys2Proof.Machine

open Sys2Proof

variable {s : State} {lk : Link} {tag : Byte} {q : Half} {k : SlotId} {sl : Slot} {bt : Nat}

/-! ### The cancel flag -/

/-- A slot whose record has its cancel flag set (R103). -/
def Slot.cancelled (sl : Slot) : Slot := { sl with record := { sl.record with cancel := true } }

theorem State.requestCancel_eq (slot : s.slot k = some sl) : s.requestCancel k = s.setSlot k (some sl.cancelled) := by
  simp only [State.requestCancel, State.modSlot, slot]
  rfl

/-- Setting the flag leaves the stage. -/
theorem State.setSlot_cancelled_stage : (s.setSlot k (some sl.cancelled)).slotStage k = some sl.stage := by
  rw [State.slotStage, State.slot_setSlot_same]
  rfl

/-! ### CANCEL of a record in a slot, by stage (R103) -/

theorem State.cancelSlot_of_waitBreak (slot : s.slot k = some sl) (stage : sl.stage = .waitBreak) :
    s.cancelSlot k = (s.setSlot k (some sl.cancelled)).endRecord k .cancelled := by
  simp only [State.cancelSlot, State.requestCancel_eq slot, State.setSlot_cancelled_stage, stage]

/-- At GAP and WAIT_MAKE the slot turns back, to stay at WAIT_RETURN where that is kept (R99, R103). -/
theorem State.cancelSlot_of_open (slot : s.slot k = some sl) (stage : sl.stage = .gap ∨ sl.stage = .waitMake)
    (break_ : sl.record.breakTime = some bt) (kept : s.returnable sl.record bt) :
    s.cancelSlot k = s.setSlot k (some { sl.cancelled with stage := .waitReturn, verifyDue := none }) := by
  have back : s.cancelSlot k = (s.setSlot k (some sl.cancelled)).enterWaitReturn k := by
    rcases stage with stage | stage <;>
      simp only [State.cancelSlot, State.requestCancel_eq slot, State.setSlot_cancelled_stage, stage]
  have turned : (s.setSlot k (some sl.cancelled)).enterWaitReturn k
      = (s.setSlot k (some sl.cancelled)).turnBack k sl.cancelled bt :=
    State.enterWaitReturn_eq (State.slot_setSlot_same _ _ _) break_
  rw [back, turned, State.turnBack]
  exact (if_pos kept).trans (State.setSlot_setSlot ..)

/-- At every other stage the flag is set. -/
theorem State.cancelSlot_of_flagged (slot : s.slot k = some sl) (stage : sl.stage = .breaking ∨ sl.stage = .making
    ∨ sl.stage = .waitReturn ∨ sl.stage = .returning ∨ sl.stage = .orphaned) :
    s.cancelSlot k = s.setSlot k (some sl.cancelled) := by
  rcases stage with stage | stage | stage | stage | stage <;>
    simp only [State.cancelSlot, State.requestCancel_eq slot, State.setSlot_cancelled_stage, stage]

/-! ### The command in the asking state -/

theorem argCancel_bytes (q : Half) : argCancel (be16 q) = some q := congrArg some (half_be16 q)

/-- A queued record of that number is found first. -/
theorem doCancel_queued {r : MoveRec} (auth : s.mdc.authority = lk)
    (found : s.mvq.queue.find? (fun r => r.seq == q) = some r) :
    doCancel lk (be16 q) (s.asking lk 0x21 tag) = okWith [] ((s.asking lk 0x21 tag).endQueued r .cancelled) := by
  rw [doCancel, argCancel_bytes, controlled_inControl _ _ _ _ auth]
  simp only [State.asking_frame, found]

theorem find?_seq_eq_none {l : List MoveRec} (other : ∀ r ∈ l, r.seq ≠ q) : l.find? (fun r => r.seq == q) = none := by
  simpa using other

/-- Else the record in a slot. -/
theorem doCancel_slot (auth : s.mdc.authority = lk) (notQueued : ∀ r ∈ s.mvq.queue, r.seq ≠ q)
    (there : s.slotWithSeq q = some k) :
    doCancel lk (be16 q) (s.asking lk 0x21 tag) = okWith [] ((s.asking lk 0x21 tag).cancelSlot k) := by
  have asked : (s.asking lk 0x21 tag).slotWithSeq q = some k := there
  rw [doCancel, argCancel_bytes, controlled_inControl _ _ _ _ auth]
  simp only [State.asking_frame, find?_seq_eq_none notQueued, asked]

theorem State.slotWithSeq_eq_none (other : ∀ r ∈ s.slotRecords, r.seq ≠ q) : s.slotWithSeq q = none := by
  rw [State.slotWithSeq, List.find?_eq_none]
  intro k hk here
  obtain ⟨sl, slot, seq⟩ := Option.map_eq_some_iff.mp (beq_iff_eq.mp here)
  exact other sl.record (List.mem_filterMap.mpr ⟨k, hk, by rw [slot]; rfl⟩) seq

/-- Else there is none. -/
theorem doCancel_none (auth : s.mdc.authority = lk) (notQueued : ∀ r ∈ s.mvq.queue, r.seq ≠ q)
    (notInSlot : ∀ r ∈ s.slotRecords, r.seq ≠ q) :
    doCancel lk (be16 q) (s.asking lk 0x21 tag) = refuse .noRecord (s.asking lk 0x21 tag) := by
  have asked : (s.asking lk 0x21 tag).slotWithSeq q = none := State.slotWithSeq_eq_none notInSlot
  rw [doCancel, argCancel_bytes, controlled_inControl _ _ _ _ auth]
  simp only [State.asking_frame, find?_seq_eq_none notQueued, asked]

/-- A reply set in a state that has the ports of the asking one. -/
theorem State.setReply_asked {u : State} {code : Byte} {reply : List Byte}
    (ports : u.ports = (s.asking lk code tag).ports) :
    ((u.setReply lk reply).port lk).answer = .answering code tag (some reply) := by
  rw [State.port, State.setReply_ports, State.port, ports]
  simp [State.asking, Port.asked, Port.answered]

/-- A record that has ended in a slot, the reply set and the operation settled (R81, R82). -/
theorem State.endRecord_answered (slot : s.slot k = some sl) (res : Result) (reply : List Byte) :
    let t := ((s.endRecord k res).setReply lk reply).settle
    t.slot k = none ∧ (∀ j, j ≠ k → t.slot j = s.slot j) ∧ t.mvq.queue = s.mvq.queue
      ∧ (t.conn sl.record.conn).recordLink = none ∧ t.mvq.history.getLast?.map (·.result) = some res := by
  obtain ⟨u, hu⟩ : ∃ u, s.endRecord k res = u := ⟨_, rfl⟩
  have slots (j : SlotId) := hu ▸ State.endRecord_slot slot res j
  have own := hu ▸ State.endRecord_conn slot res sl.record.conn
  have history := hu ▸ State.endRecord_history slot res
  have queue : u.mvq.queue = s.mvq.queue := by rw [← hu, State.endRecord_eq slot]
  rw [if_pos rfl] at own
  dsimp only
  rw [hu]
  refine ⟨(slots k).trans (if_pos rfl), fun j other => (slots j).trans (if_neg other), queue,
    congrArg Conn.recordLink own, ?_⟩
  rw [State.settle_mvq, State.setReply_mvq, history, getLast?_pushHistory]
  rfl

/-- A slot's CANCEL that leaves the state u, whatever the ports. -/
theorem exec_cancel_slot (free : s.portFree lk) (auth : s.mdc.authority = lk)
    (notQueued : ∀ r ∈ s.mvq.queue, r.seq ≠ q) (there : s.slotWithSeq q = some k) {y : Option Slot}
    (after : (s.asking lk 0x21 tag).cancelSlot k = (s.asking lk 0x21 tag).setSlot k y) :
    exec (.cancel lk tag (be16 q)) s = .next ((s.setSlot k y).answering lk 0x21 tag [0x00]).settle := by
  refine settled_congr (takeRequest_effect _ _ _ _ free rfl ((doCancel_slot auth notQueued there).trans ?_))
  rw [after]
  rfl

end Sys2Proof.Machine

open Sys2Proof Sys2Proof.Machine

/-- Settles O30: where the record of the number stands, and in a slot its stage. -/
theorem cancelTaken : Obligations.CancelTaken := by
  intro s lk tag q free auth
  refine ⟨fun r found => ?_, fun notQueued notInSlot => settled_congr (takeRequest_refuse .noRecord free
    (doCancel_none auth notQueued notInSlot)), fun notQueued k sl there slot stage => ?_,
    fun notQueued k sl there slot => ⟨fun bt stage break_ kept => ?_, fun stage => ?_⟩⟩
  · refine settled_congr (takeRequest_effect _ _ _ _ free rfl ((doCancel_queued auth found).trans ?_))
    rw [State.endQueued_eq _ _ rfl]
    rfl
  · obtain ⟨u, hu⟩ : ∃ u, (s.asking lk 0x21 tag).setSlot k (some sl.cancelled) = u := ⟨_, rfl⟩
    have here : u.slot k = some sl.cancelled := hu ▸ State.slot_setSlot_same _ _ _
    have ended : (s.asking lk 0x21 tag).cancelSlot k = u.endRecord k .cancelled :=
      hu ▸ State.cancelSlot_of_waitBreak (s := s.asking lk 0x21 tag) slot stage
    have taken : takeRequest lk 0x21 tag (doCancel lk (be16 q)) s = (u.endRecord k .cancelled).setReply lk [0x00] := by
      rw [takeRequest_of_free _ _ _ _ _ free, doCancel_slot auth notQueued there, ended]
      rfl
    obtain ⟨gone, others, queue, link, last⟩ := State.endRecord_answered (lk := lk) here .cancelled [0x00]
    refine ⟨_, settled_congr taken, gone, fun j other => (others j other).trans ?_, queue.trans ?_, link, ?_, last⟩
    · rw [← hu, State.slot_setSlot, if_neg other]
      rfl
    · rw [← hu]
      rfl
    · exact State.setReply_asked (s := s) (by rw [← hu]; simp)
  · exact exec_cancel_slot free auth notQueued there
      (State.cancelSlot_of_open (s := s.asking lk 0x21 tag) slot stage break_ kept)
  · exact exec_cancel_slot free auth notQueued there
      (State.cancelSlot_of_flagged (s := s.asking lk 0x21 tag) slot stage)
end

section
/-! Admission, head by head (R78 to R80), and the mode commands, which may take one (R165 to R170). -/

namespace Sys2Proof.Machine

open Sys2Proof

variable {s : State} {lk : Link} {code tag : Byte} {k : SlotId} {r : MoveRec} {rs : List MoveRec}

/-! ### One head after another (R78) -/

/-- While heads may be examined, the one at the head is examined first. -/
theorem State.examineHeads_step (n : Nat) (allowed : s.movesAllowed = true) (free : s.freeSlot = some k)
    (queue : s.mvq.queue = r :: rs) : State.examineHeads (n + 1) s = State.examineHeads n (s.examineHead k r) := by
  simp only [State.examineHeads, allowed, if_true, free, queue]

/-- With nothing to examine, or no slot for it, nothing happens. -/
theorem State.examineHeads_stops (n : Nat) (stops : s.movesAllowed = false ∨ s.freeSlot = none ∨ s.mvq.queue = []) :
    State.examineHeads n s = s := by
  cases n with
  | zero => rfl
  | succ n =>
    unfold State.examineHeads
    split
    · next allowed =>
      split
      · next free queue => simp [allowed, free, queue] at stops
      · rfl
    · rfl

/-- Either heads may be examined, or there is nothing to do. -/
theorem State.examinable (s : State) : (s.movesAllowed = false ∨ s.freeSlot = none ∨ s.mvq.queue = [])
    ∨ s.movesAllowed = true ∧ ∃ k r rs, s.freeSlot = some k ∧ s.mvq.queue = r :: rs := by
  cases s.movesAllowed <;> cases s.freeSlot <;> cases s.mvq.queue <;> simp

/-- An admission reads and writes no port. -/
theorem State.examineHead_ports (k : SlotId) (r : MoveRec) (ports : PerLink Port) :
    State.examineHead { s with ports := ports } k r = { s.examineHead k r with ports := ports } := by
  have same : admissionFailure { s with ports := ports } r = admissionFailure s r := rfl
  unfold State.examineHead
  rw [same]
  split
  · exact State.endQueued_ports ..
  · rfl

theorem State.examineHeads_ports (n : Nat) (s : State) (ports : PerLink Port) :
    State.examineHeads n { s with ports := ports } = { State.examineHeads n s with ports := ports } := by
  induction n generalizing s with
  | zero => rfl
  | succ n ih =>
    rcases s.examinable with stops | ⟨allowed, k, r, rs, free, queue⟩
    · rw [State.examineHeads_stops _ stops, State.examineHeads_stops (s := { s with ports := ports }) _ stops]
    · rw [State.examineHeads_step n allowed free queue,
        State.examineHeads_step (s := { s with ports := ports }) n allowed free queue, State.examineHead_ports, ih]

theorem State.takeAdmission_ports (s : State) (ports : PerLink Port) :
    State.takeAdmission { s with ports := ports } = { s.takeAdmission with ports := ports } :=
  State.examineHeads_ports _ _ _

/-! ### The conditions of the mode commands -/

theorem State.someUnseen_iff : s.someUnseen = true ↔ ∃ n, (s.conn n).present = true ∧ (s.conn n).link = .unseen := by
  simp only [State.someUnseen, List.any_eq_true, Bool.and_eq_true, beq_iff_eq,
    Vector.mem_toList_iff, Vector.mem_iff_getElem]
  constructor
  · rintro ⟨c, ⟨i, hi, rfl⟩, unseen⟩
    exact ⟨⟨i, hi⟩, unseen⟩
  · rintro ⟨n, unseen⟩
    exact ⟨_, ⟨n, n.isLt, rfl⟩, unseen⟩

theorem State.slotsEmpty_iff : s.slotsEmpty = true ↔ ∀ k, s.slot k = none := by
  simp [State.slotsEmpty, mem_allSlots]

/-! ### The mode commands in the asking state -/

theorem State.asking_enterMode (m : BaseMode) : (s.asking lk code tag).enterMode m
    = { (s.setMode (.base m)).takeAdmission with ports := (s.asking lk code tag).ports } :=
  State.takeAdmission_ports (s.setMode (.base m)) _

/-- A command that changes the mode, with its admission (R165). -/
theorem takeRequest_enterMode {body : State → Answered} {m : BaseMode} (free : s.portFree lk)
    (hb : body (s.asking lk code tag) = okWith [] ((s.asking lk code tag).enterMode m)) :
    takeRequest lk code tag body s = (s.setMode (.base m)).takeAdmission.answering lk code tag [0x00] := by
  refine takeRequest_effect _ _ _ _ free (by simp) (hb.trans ?_)
  rw [State.asking_enterMode]
  rfl

/-- START and RESUME empty the halt record first (R157). -/
theorem takeRequest_enterMode_fresh {body : State → Answered} {m : BaseMode} (free : s.portFree lk)
    (hb : body (s.asking lk code tag) = okWith [] ((s.asking lk code tag).emptyHaltRecord.enterMode m)) :
    takeRequest lk code tag body s
      = (s.emptyHaltRecord.setMode (.base m)).takeAdmission.answering lk code tag [0x00] := by
  refine takeRequest_effect _ _ _ _ free (by simp) (hb.trans ?_)
  have asked : (s.asking lk code tag).emptyHaltRecord.enterMode m
      = { (s.emptyHaltRecord.setMode (.base m)).takeAdmission with ports := (s.asking lk code tag).ports } :=
    State.takeAdmission_ports (s.emptyHaltRecord.setMode (.base m)) _
  rw [asked]
  rfl

section
variable (auth : s.mdc.authority = lk)
include auth

theorem doStart_config (mode : s.modeName = .config) : doStart lk [] (s.asking lk code tag) =
    if s.haltActive then refuse .haltActive (s.asking lk code tag)
    else if s.someUnseen then refuse .notReady (s.asking lk code tag)
    else okWith [] ((s.asking lk code tag).emptyHaltRecord.enterMode .manual) :=
  gated_open auth (by simp [startGate, mode]) rfl

theorem doAutoOn_moving (mode : s.modeName = .manual ∨ s.modeName = .auto) : doAutoOn lk [] (s.asking lk code tag) =
    okWith [] (if s.modeName = .auto then s.asking lk code tag else (s.asking lk code tag).enterMode .auto) :=
  gated_open auth (by rcases mode with mode | mode <;> simp [autoOnGate, mode]) rfl

theorem doAutoOff_moving (mode : s.modeName = .manual ∨ s.modeName = .auto) : doAutoOff lk [] (s.asking lk code tag) =
    okWith [] (if s.modeName = .manual then s.asking lk code tag else (s.asking lk code tag).enterMode .manual) :=
  gated_open auth (by rcases mode with mode | mode <;> simp [autoOffGate, mode]) rfl

theorem doConfigure_taken (mode : s.modeName = .config ∨ s.modeName = .manual ∨ s.modeName = .auto) :
    doConfigure lk [] (s.asking lk code tag) =
      if s.modeName = .config then okWith [] (s.asking lk code tag)
      else if s.mvq.queue.isEmpty && s.slotsEmpty then okWith [] ((s.asking lk code tag).setMode (.base .config))
      else refuse .busy (s.asking lk code tag) :=
  gated_open auth (by rcases mode with mode | mode | mode <;> simp [configureGate, mode]) rfl

theorem doResume_halted (mode : s.modeName = .halted) : doResume lk [] (s.asking lk code tag) =
    if s.haltActive then refuse .haltActive (s.asking lk code tag)
    else okWith [] ((s.asking lk code tag).emptyHaltRecord.enterMode .manual) :=
  gated_open auth (by simp [resumeGate, mode]) rfl

end

end Sys2Proof.Machine

open Sys2Proof Sys2Proof.Machine

/-- Settles O31: the gate of each mode command, then its own conditions, with the admission of a change of mode. -/
theorem modeCommands : Obligations.ModeCommands := by
  refine ⟨fun s lk tag free auth => ⟨fun mode quiet seen => ?_, fun mode => ?_, fun mode => ?_,
      fun mode queue slots => ?_,
      fun mode quiet => ?_, fun mode idle => ?_, fun mode => ?_, fun mode => ?_, fun mode => ?_⟩,
    fun s lk tag free auth => ⟨fun mode => ?_, fun mode active => ?_, fun mode quiet unseen => ?_, fun mode => ?_,
      fun mode => ?_, fun mode => ?_, fun mode => ?_, fun mode work => ?_, fun mode => ?_, fun mode active => ?_⟩⟩
  · have seen : ¬ s.someUnseen = true := fun h => by
      obtain ⟨n, present, unseen⟩ := State.someUnseen_iff.mp h
      exact seen n present unseen
    exact settled_congr (takeRequest_enterMode_fresh free (by simp [doStart_config auth mode, quiet, seen]))
  · exact settled_congr (takeRequest_enterMode free (by simp [doAutoOn_moving auth (.inl mode), mode]))
  · exact settled_congr (takeRequest_enterMode free (by simp [doAutoOff_moving auth (.inr mode), mode]))
  · refine settled_congr (takeRequest_effect (u := s.setMode (.base .config)) _ _ _ _ free rfl
      ((doConfigure_taken auth (.inr mode)).trans ?_))
    rw [if_neg (by rcases mode with mode | mode <;> simp [mode]), queue, State.slotsEmpty_iff.mpr slots]
    rfl
  · exact settled_congr (takeRequest_enterMode_fresh free (by simp [doResume_halted auth mode, quiet]))
  · have still : (s.setMode (.base .auto)).takeAdmission = s.setMode (.base .auto) := by
      rcases idle with queue | slots
      · exact State.takeAdmission_of_queue_nil _ queue
      · exact State.takeAdmission_of_no_slot _ slots
    rw [← still]
    exact settled_congr (takeRequest_enterMode free (by simp [doAutoOn_moving auth (.inl mode), mode]))
  · exact settled_congr (takeRequest_ok free (by simp [doAutoOn_moving auth (.inr mode), mode]))
  · exact settled_congr (takeRequest_ok free (by simp [doAutoOff_moving auth (.inl mode), mode]))
  · exact settled_congr (takeRequest_ok free (by simp [doConfigure_taken auth (.inl mode), mode]))
  · refine settled_congr (takeRequest_refuse .wrongMode free (gated_barred auth ?_))
    cases name : s.modeName <;> simp [startGate, name] at mode ⊢
  · exact settled_congr (takeRequest_refuse .haltActive free (by simp [doStart_config auth mode, active]))
  · exact settled_congr (takeRequest_refuse .notReady free
      (by simp [doStart_config auth mode, quiet, State.someUnseen_iff.mpr unseen]))
  · refine settled_congr (takeRequest_refuse .wrongMode free (gated_barred auth ?_))
    rcases mode with mode | mode <;> simp [autoOnGate, mode]
  · exact settled_congr (takeRequest_refuse .haltActive free (gated_barred auth (by simp [autoOnGate, mode])))
  · refine settled_congr (takeRequest_refuse .wrongMode free (gated_barred auth ?_))
    rcases mode with mode | mode | mode <;> simp [autoOffGate, mode]
  · refine settled_congr (takeRequest_refuse .wrongMode free (gated_barred auth ?_))
    rcases mode with mode | mode <;> simp [configureGate, mode]
  · refine settled_congr (takeRequest_refuse .busy free ((doConfigure_taken auth (.inr mode)).trans ?_))
    have busy : ¬ (s.mvq.queue.isEmpty && s.slotsEmpty) = true := by
      rw [Bool.and_eq_true, List.isEmpty_iff, State.slotsEmpty_iff]
      rintro ⟨queue, slots⟩
      rcases work with work | ⟨k, work⟩
      · exact work queue
      · exact work (slots k)
    rw [if_neg (by rcases mode with mode | mode <;> simp [mode]), if_neg busy]
  · refine settled_congr (takeRequest_refuse .wrongMode free (gated_barred auth ?_))
    cases name : s.modeName <;> simp [resumeGate, name] at mode ⊢
  · exact settled_congr (takeRequest_refuse .haltActive free (by simp [doResume_halted auth mode, active]))
end

section
/-! ADMISSION (R78 to R80): one operation goes from head to head. -/

namespace Sys2Proof.Machine

open Sys2Proof

variable {s : State} {k : SlotId} {r : MoveRec} {rs : List MoveRec}

/-! ### The slot that takes a head (R80) -/

theorem State.freeSlot_eq_some (free : s.slot k = none) (taken : ∀ j, j < k → s.slot j ≠ none) :
    s.freeSlot = some k := by
  have split : ∀ k : SlotId, allSlots = allSlots.take k ++ k :: allSlots.drop (k + 1)
      ∧ ∀ j ∈ allSlots.take k, j < k := by
    decide
  rw [State.freeSlot, List.find?_eq_some_iff_append]
  refine ⟨by simp [free], _, _, (split k).1, fun j hj => ?_⟩
  simpa [Option.isSome_iff_ne_none] using taken j ((split k).2 j hj)

theorem State.freeSlot_eq_none (taken : ∀ k, s.slot k ≠ none) : s.freeSlot = none := by
  rw [State.freeSlot, List.find?_eq_none]
  intro k _
  simpa using taken k

/-! ### From head to head (R78) -/

theorem State.movesAllowed_iff : s.movesAllowed = true ↔ s.modeName = .manual ∨ s.modeName = .auto := by
  simp [State.movesAllowed]

/-- A record that ends in the queue, or leaves it for a slot, leaves a shorter queue. -/
theorem State.examineHead_shorter (hr : r ∈ s.mvq.queue) :
    (s.examineHead k r).mvq.queue.length < s.mvq.queue.length := by
  have entered : (s.enterSlot k r).mvq.queue = s.mvq.queue.filter fun x => x.order != r.order := rfl
  unfold State.examineHead
  split
  · exact State.endQueued_shorter hr
  · rw [entered, List.length_filter_lt_length_iff_exists]
    exact ⟨r, hr, by simp⟩

/-- As many steps as records are enough: more change nothing. -/
theorem State.examineHeads_enough (n : Nat) (enough : s.mvq.queue.length ≤ n) :
    State.examineHeads n s = s.takeAdmission := by
  induction n using Nat.strong_induction_on generalizing s with
  | _ n ih =>
    rcases s.examinable with stops | ⟨allowed, k, r, rs, free, queue⟩
    · rw [State.takeAdmission, State.examineHeads_stops _ stops, State.examineHeads_stops _ stops]
    · have shorter := State.examineHead_shorter (k := k) (queue ▸ List.mem_cons_self : r ∈ s.mvq.queue)
      obtain ⟨m, hm⟩ : ∃ m, s.mvq.queue.length = m + 1 := ⟨rs.length, by rw [queue, List.length_cons]⟩
      obtain ⟨n, rfl⟩ : ∃ p, n = p + 1 := ⟨n - 1, by omega⟩
      rw [State.takeAdmission, hm, State.examineHeads_step n allowed free queue,
        State.examineHeads_step m allowed free queue, ih n (by omega) (by omega), ih m (by omega) (by omega)]

/-- An admission examines its head and goes on with what that leaves. -/
theorem State.takeAdmission_step (allowed : s.movesAllowed = true) (free : s.freeSlot = some k)
    (queue : s.mvq.queue = r :: rs) : s.takeAdmission = (s.examineHead k r).takeAdmission := by
  have shorter := State.examineHead_shorter (k := k) (queue ▸ List.mem_cons_self : r ∈ s.mvq.queue)
  have length : s.mvq.queue.length = rs.length + 1 := by rw [queue, List.length_cons]
  rw [State.takeAdmission, length, State.examineHeads_step _ allowed free queue]
  exact State.examineHeads_enough _ (by omega)

theorem exec_admission : exec .admission s = .next s.takeAdmission.settle := rfl

/-! ### What becomes of a head (R79, R80) -/

theorem State.examineHead_fails {res : Result} (fails : admissionFailure s r = some res) :
    s.examineHead k r = s.endQueued r res := by
  rw [State.examineHead, fails]

theorem State.examineHead_passes (passes : admissionFailure s r = none) : s.examineHead k r = s.enterSlot k r := by
  rw [State.examineHead, passes]

/-- A queued record that ends with a result that raises nothing, field by field (R81, R82). -/
theorem State.endQueued_fields (s : State) (r : MoveRec) {res : Result} (quiet : res.failed = false) :
    s.endQueued r res = { s.setConn r.conn { s.conn r.conn with recordLink := none } with
      mvq := { s.mvq with
        queue := s.mvq.queue.filter fun x => x.order != r.order
        history := pushHistory s.mvq.history
          { seq := r.seq, conn := r.conn, source := r.source, target := r.target, origin := r.origin,
            result := res, epoch := s.tbs.epoch, timeOfDay := s.tbs.timeOfDay, breaks := r.breaks,
            makes := r.makes, returns := r.returns, breakConfirmed := r.breakTime.isSome } } } := by
  rw [State.endQueued_eq s r quiet]
  rfl

end Sys2Proof.Machine

open Sys2Proof Sys2Proof.Machine

/-- Settles O50: an admission is the examination of its head and an admission after it. -/
theorem admissionTaken : Obligations.AdmissionTaken := by
  intro s
  refine ⟨fun manual auto => ?_, fun r mode queue slots present phase pin hold link target moves day => ?_, rfl,
    fun idle => ?_, fun r rs k mode queue free taken => ?_, fun r res quiet => ?_⟩
  · refine settled_congr (State.takeAdmission_of_not_allowed _ ?_)
    rw [← Bool.not_eq_true, State.movesAllowed_iff]
    exact not_or.mpr ⟨manual, auto⟩
  · have passes : admissionFailure s r = none := by
      simp [admissionFailure, present, phase, pin, hold, link, target, MoveRec.isPlanner, moves]
    have first : s.freeSlot = some 0 := State.freeSlot_eq_some (slots 0) nofun
    have single : s.mvq.queue.filter (fun x => x.order != r.order) = [] := by simp [queue]
    refine settled_congr ?_
    rw [State.takeAdmission_step (State.movesAllowed_iff.mpr mode) first queue, State.examineHead_passes passes,
      State.takeAdmission_of_queue_nil _ single, State.enterSlot]
    dsimp only
    rw [show (s.setConn r.conn _).mvq.queue.filter (fun x => x.order != r.order) = [] from single,
      Nat.min_eq_right (show (s.conn r.conn).movesToday + 1 ≤ 15 from day)]
    rfl
  · refine settled_congr ?_
    rcases idle with queue | taken
    · exact State.takeAdmission_of_queue_nil _ queue
    · exact State.takeAdmission_of_no_slot _ (State.freeSlot_eq_none taken)
  · have step := State.takeAdmission_step (State.movesAllowed_iff.mpr mode) (State.freeSlot_eq_some free taken) queue
    have shorter := State.examineHead_shorter (k := k) (queue ▸ List.mem_cons_self : r ∈ s.mvq.queue)
    have goesOn {t : State} (ht : s.examineHead k r = t) :
        exec .admission s = exec .admission t ∧ t.mvq.queue.length < s.mvq.queue.length :=
      ht ▸ ⟨settled_congr step, shorter⟩
    have fails (res : Result) (h : admissionFailure s r = some res) := goesOn (State.examineHead_fails (k := k) h)
    dsimp only
    refine ⟨fun stale => fails _ (if_pos stale), fun present phase => ⟨fun blocked => fails _ ?_, fun pin hold =>
      ⟨fun offline => fails _ ?_, fun online => ⟨fun target => fails _ ?_, fun target => ⟨fun limit => fails _ ?_,
        fun moves => goesOn ((State.examineHead_passes ?_).trans rfl)⟩⟩⟩⟩⟩
    · simp [admissionFailure, present, phase, Option.isSome_iff_ne_none, blocked]
    · simp [admissionFailure, present, phase, pin, hold, offline]
    · simp [admissionFailure, present, phase, pin, hold, online, target]
    · simp [admissionFailure, present, phase, pin, hold, online, target, MoveRec.isPlanner, limit]
    · simp [admissionFailure, present, phase, pin, hold, online, target, MoveRec.isPlanner, moves]
  · refine State.endQueued_fields s r ?_
    fin_cases quiet <;> rfl
end

section
/-! Input samples and what a change of a debounced level comes to (R147, R149); the hand-back at a supply warning (R77,
R105). -/

namespace Sys2Proof.Machine

open Sys2Proof

variable {s : State} {i : InputLine} {r : InputRec} {high : Bool} {k : SlotId}

/-! ### One sample (R147) -/

/-- The run that a sample away from the debounced level makes. -/
theorem runAfter_of_new {active : Bool} (new : active ≠ r.debounced) :
    runAfter r active = some (r.run.elim 0 (· + 1)) := by
  rw [runAfter, if_neg new]
  cases r.run <;> rfl

theorem State.sampleInput_same (input : s.input i = r) (same : (high == r.polarityHigh) = r.debounced) :
    s.sampleInput i high = (s.atInstant (r.sampledAt + Config.ticksPerMs)).setInput i
      { r with sampled := (high == r.polarityHigh), sampledAt := r.sampledAt + Config.ticksPerMs, run := none } := by
  simp only [State.sampleInput, input, runAfter, if_pos same]

theorem State.sampleInput_early (input : s.input i = r) (new : (high == r.polarityHigh) ≠ r.debounced)
    (early : r.run.elim 0 (· + 1) < r.debounce) :
    s.sampleInput i high = (s.atInstant (r.sampledAt + Config.ticksPerMs)).setInput i
      { r with
        sampled := (high == r.polarityHigh), sampledAt := r.sampledAt + Config.ticksPerMs
        run := some (r.run.elim 0 (· + 1)) } := by
  simp only [State.sampleInput, input, runAfter_of_new new, if_neg (not_le.mpr early)]

/-- The record of an input whose new level a sample completes. -/
def InputRec.completed (r : InputRec) (active : Bool) : InputRec :=
  { r with sampled := active, sampledAt := r.sampledAt + Config.ticksPerMs, run := none, debounced := active }

theorem State.sampleInput_complete (input : s.input i = r) (new : (high == r.polarityHigh) ≠ r.debounced)
    (full : r.debounce ≤ r.run.elim 0 (· + 1)) :
    s.sampleInput i high = ((s.atInstant (r.sampledAt + Config.ticksPerMs)).setInput i
      (r.completed (high == r.polarityHigh))).debouncedChanged i := by
  simp only [State.sampleInput, input, runAfter_of_new new, if_pos full]
  rfl

/-! ### The status (R149) -/

/-- The status of an input at a debounced level, by its type. -/
def InputRec.statusAfter (r : InputRec) (active : Bool) : Bool := if r.level then active else r.status || active

/-- A status that asserts no halt source anew is written and no more. -/
theorem State.followLevel_quiet (quiet : haltSourceOf i = none ∨ r.statusAfter r.debounced = false ∨ r.status = true) :
    (s.setInput i r).followLevel i = s.setInput i { r with status := r.statusAfter r.debounced } := by
  have written (v : Bool) (hv : haltSourceOf i = none ∨ v = false ∨ r.status = true) :
      (s.setInput i r).setStatus i v = s.setInput i { r with status := v } := by
    simp only [State.setStatus, State.input_setInput_same, State.setInput_setInput]
    split
    · next source =>
      rw [if_neg]
      rcases hv with none | clear | set
      · simp [source] at none
      · simp [clear]
      · simp [set]
    · rfl
  unfold InputRec.statusAfter at quiet ⊢
  simp only [State.followLevel, State.input_setInput_same]
  by_cases level : r.level = true
  · rw [if_pos level] at quiet
    rw [if_pos level, if_pos level]
    exact written _ quiet
  · rw [if_neg level] at quiet
    rw [if_neg level, if_neg level]
    by_cases active : r.debounced = true
    · have set : (r.status || r.debounced) = true := by rw [active, Bool.or_true]
      rw [set] at quiet
      rw [if_pos active, set]
      exact written true quiet
    · have kept : (r.status || r.debounced) = r.status := by simp [active]
      rw [if_neg active, kept]

/-- A status that becomes set asserts its halt source (R152). -/
theorem State.followLevel_asserts {h : HaltSource} (source : haltSourceOf i = some h)
    (set : r.statusAfter r.debounced = true) (was : r.status = false) :
    (s.setInput i r).followLevel i = (s.setInput i { r with status := true }).haltEvent h := by
  have active : r.debounced = true := by
    unfold InputRec.statusAfter at set
    split at set <;> simpa [was] using set
  have written : (s.setInput i r).setStatus i true = (s.setInput i { r with status := true }).haltEvent h := by
    simp only [State.setStatus, State.input_setInput_same, State.setInput_setInput, source, was]
    rfl
  simp only [State.followLevel, State.input_setInput_same, active, if_true, ite_self, written]

/-! ### Records handed back (R77, R105) -/

/-- The queue trimmed: nothing to do while it holds at most 16. -/
theorem State.trimQueue_of_short (fuel : Nat) (short : s.mvq.queue.length ≤ 16) : State.trimQueue fuel s = s := by
  cases fuel with
  | zero => rfl
  | succ fuel => exact if_pos short

/-- One record too many: the last one ends DISPLACED. -/
theorem State.trimQueue_of_last {fuel : Nat} {d : MoveRec} (many : s.mvq.queue.length = 17)
    (last : s.mvq.queue.getLast? = some d) : State.trimQueue (fuel + 1) s = s.endQueued d .displaced := by
  have shorter := State.endQueued_shorter (List.mem_of_getLast? last) (res := .displaced)
  unfold State.trimQueue
  rw [if_neg (by rw [many]; decide), last]
  exact State.trimQueue_of_short _ (by omega)

/-- Trimming leaves at most 16 records and counts no move. -/
theorem State.trimQueue_spec (fuel : Nat) (s : State) (enough : s.mvq.queue.length ≤ 16 + fuel) :
    (State.trimQueue fuel s).mvq.queue.length ≤ 16
      ∧ ∀ n, ((State.trimQueue fuel s).conn n).movesToday = (s.conn n).movesToday := by
  induction fuel generalizing s with
  | zero => exact ⟨enough, fun _ => rfl⟩
  | succ fuel ih =>
    by_cases short : s.mvq.queue.length ≤ 16
    · rw [State.trimQueue_of_short _ short]
      exact ⟨short, fun _ => rfl⟩
    · obtain ⟨d, last⟩ : ∃ d, s.mvq.queue.getLast? = some d := by
        rw [← Option.ne_none_iff_exists', Ne, List.getLast?_eq_none_iff]
        rintro empty
        simp [empty] at short
      have shorter := State.endQueued_shorter (List.mem_of_getLast? last) (res := .displaced)
      have step : State.trimQueue (fuel + 1) s = State.trimQueue fuel (s.endQueued d .displaced) := by
        rw [State.trimQueue, if_neg (show ¬ s.mvq.queue.length ≤ Config.queuePlaces from short), last]
      obtain ⟨few, moves⟩ := ih (s.endQueued d .displaced) (by omega)
      rw [step]
      refine ⟨few, fun n => (moves n).trans ?_⟩
      rw [State.endQueued_conn]
      split <;> rfl

theorem State.slotStage_congr {t : State} {j : SlotId} (same : s.slot k = t.slot j) :
    s.slotStage k = t.slotStage j := by
  rw [State.slotStage, State.slotStage, same]

/-- A slot at WAIT_BREAK hands its record back (R105). -/
def State.handBackSlot (s : State) (k : SlotId) : State :=
  if s.slotStage k = some .waitBreak then s.returnToQueue k else s

theorem State.handBackAll_eq : s.handBackAll =
    State.trimQueue (allSlots.foldl State.handBackSlot s).mvq.queue.length (allSlots.foldl State.handBackSlot s) := rfl

theorem State.returnToQueue_slot (k j : SlotId) : (s.returnToQueue k).slot j = if j = k then none else s.slot j := by
  cases slot : s.slot k with
  | none =>
    rw [State.returnToQueue, slot]
    dsimp only
    split
    · next e => rw [e, slot]
    · rfl
  | some sl =>
    rw [State.returnToQueue_eq slot]
    exact s.slot_setSlot k j none

theorem State.handBackSlot_slot (k j : SlotId) :
    (s.handBackSlot k).slot j = if j = k ∧ s.slotStage k = some .waitBreak then none else s.slot j := by
  unfold State.handBackSlot
  by_cases stage : s.slotStage k = some .waitBreak
  · rw [if_pos stage, State.returnToQueue_slot]
    simp [stage]
  · rw [if_neg stage, if_neg fun h => stage h.2]

theorem State.handBackSlot_conn (n : ConnId) : (s.handBackSlot k).conn n = s.conn n := by
  unfold State.handBackSlot
  split
  · simp [State.conn]
  · rfl

/-- Of the slots handed back, those at WAIT_BREAK are free and no other has changed. -/
theorem State.handBackSlots_spec (ks : List SlotId) (s : State) :
    (∀ j, (ks.foldl State.handBackSlot s).slot j = if j ∈ ks ∧ s.slotStage j = some .waitBreak then none else s.slot j)
      ∧ ∀ n, (ks.foldl State.handBackSlot s).conn n = s.conn n := by
  induction ks generalizing s with
  | nil => simp
  | cons k ks ih =>
    obtain ⟨slots, conns⟩ := ih (s.handBackSlot k)
    refine ⟨fun j => ?_, fun n => (conns n).trans (State.handBackSlot_conn n)⟩
    have slot := s.handBackSlot_slot k j
    rw [List.foldl_cons, slots]
    by_cases back : j = k ∧ s.slotStage k = some .waitBreak
    · obtain ⟨rfl, waits⟩ := back
      rw [if_pos ⟨rfl, waits⟩] at slot
      simp [slot, waits]
    · rw [if_neg back] at slot
      rw [State.slotStage_congr slot, slot]
      refine if_congr ⟨fun h => ⟨List.mem_cons_of_mem _ h.1, h.2⟩, fun h => ⟨?_, h.2⟩⟩ rfl rfl
      exact (List.mem_cons.mp h.1).resolve_left fun own => back ⟨own, own ▸ h.2⟩

/-- Slots of which none is at WAIT_BREAK hand nothing back. -/
theorem State.handBackSlots_none {ks : List SlotId} (other : ∀ j ∈ ks, s.slotStage j ≠ some .waitBreak) :
    ks.foldl State.handBackSlot s = s := by
  induction ks with
  | nil => rfl
  | cons k ks ih =>
    have same : s.handBackSlot k = s := if_neg (other k List.mem_cons_self)
    rw [List.foldl_cons, same]
    exact ih fun j hj => other j (List.mem_cons_of_mem _ hj)

/-- Where one slot alone is at WAIT_BREAK, its record alone comes back. -/
theorem State.handBackSlots_one (own : s.slotStage k = some .waitBreak)
    (others : ∀ j, j ≠ k → s.slotStage j ≠ some .waitBreak) :
    allSlots.foldl State.handBackSlot s = s.returnToQueue k := by
  have split : ∀ k : SlotId, allSlots = allSlots.take k ++ k :: allSlots.drop (k + 1)
      ∧ (∀ j ∈ allSlots.take k, j ≠ k) ∧ ∀ j ∈ allSlots.drop (k + 1), j ≠ k := by decide
  obtain ⟨parts, before, after⟩ := split k
  have back : s.handBackSlot k = s.returnToQueue k := if_pos own
  rw [parts, List.foldl_append, State.handBackSlots_none fun j hj => others j (before j hj), List.foldl_cons, back]
  refine State.handBackSlots_none fun j hj => ?_
  have stage : (s.returnToQueue k).slotStage j = s.slotStage j := by
    exact State.slotStage_congr ((State.returnToQueue_slot k j).trans (if_neg (after j hj)))
  exact stage ▸ others j (after j hj)

/-- What the hand-back of a supply warning leaves (R77, R105). -/
theorem State.handBackAll_spec (s : State) :
    s.handBackAll.mvq.queue.length ≤ 16
      ∧ (∀ j, s.handBackAll.slot j = if s.slotStage j = some .waitBreak then none else s.slot j)
      ∧ ∀ n, (s.handBackAll.conn n).movesToday = (s.conn n).movesToday := by
  obtain ⟨slots, conns⟩ := State.handBackSlots_spec allSlots s
  rw [State.handBackAll_eq]
  obtain ⟨few, moves⟩ := State.trimQueue_spec _ (allSlots.foldl State.handBackSlot s) (Nat.le_add_left _ _)
  refine ⟨few, fun j => ?_, fun n => (moves n).trans (congrArg Conn.movesToday (conns n))⟩
  rw [State.slot, (State.trimQueue_frame _ _).2.2.2.2.2.2.2.1]
  refine (slots j).trans (if_congr ?_ rfl rfl)
  exact and_iff_right (mem_allSlots j)

/-- With no slot at WAIT_BREAK and a queue in bounds there is nothing to do. -/
theorem State.handBackAll_of_none (other : ∀ j, s.slotStage j ≠ some .waitBreak) (short : s.mvq.queue.length ≤ 16) :
    s.handBackAll = s := by
  rw [State.handBackAll_eq, State.handBackSlots_none fun j _ => other j]
  exact State.trimQueue_of_short _ short

end Sys2Proof.Machine
end

section
/-! A change of the key and of the supply warning, and the end of the clearing timer (R158 to R164, R172). -/

namespace Sys2Proof.Machine

open Sys2Proof

variable {s : State} {i : InputLine} {r : InputRec} {high : Bool} {b : BaseMode} {k : SlotId} {sl : Slot}

/-! ### The two inputs that are no halt source -/

/-- The record of a LEVEL input whose new level a sample completes, its status following. -/
def InputRec.followed (r : InputRec) (active : Bool) : InputRec :=
  { r with
    sampled := active, debounced := active, run := none, status := active
    sampledAt := r.sampledAt + Config.ticksPerMs }

/-- The state at a sample that completes such a level, before what it brings about. -/
def State.levelTaken (s : State) (i : InputLine) (r : InputRec) (active : Bool) : State :=
  (s.atInstant (r.sampledAt + Config.ticksPerMs)).setInput i (r.followed active)

theorem State.followLevel_completed (level : r.level = true) (source : haltSourceOf i = none) (active : Bool) :
    ((s.atInstant (r.sampledAt + Config.ticksPerMs)).setInput i (r.completed active)).followLevel i
      = s.levelTaken i r active := by
  rw [State.followLevel_quiet (.inl source), InputRec.statusAfter,
    if_pos (show (r.completed active).level = true from level)]
  rfl

theorem exec_debounceComplete : exec (.debounceComplete i high) s = .next (s.sampleInput i high).settle := rfl

theorem exec_inputSample : exec (.inputSample i high) s = .next (s.sampleInput i high).settle := rfl

section
variable (level : r.level = true) (new : (high == r.polarityHigh) ≠ r.debounced)
  (full : r.debounce ≤ r.run.elim 0 (· + 1))
include level new full

theorem State.sampleInput_key (input : s.input .keyLocal = r) :
    s.sampleInput .keyLocal high = (s.levelTaken .keyLocal r (high == r.polarityHigh)).keyChanged := by
  rw [State.sampleInput_complete input new full, State.debouncedChanged]
  exact congrArg State.keyChanged (State.followLevel_completed level rfl _)

theorem State.sampleInput_supply (input : s.input .supplyWarn = r) :
    s.sampleInput .supplyWarn high
      = (s.levelTaken .supplyWarn r (high == r.polarityHigh)).supplyChanged (high == r.polarityHigh) := by
  rw [State.sampleInput_complete input new full, State.debouncedChanged]
  exact congrArg (fun t : State => t.supplyChanged (t.input .supplyWarn).debounced)
    (State.followLevel_completed level rfl _)

end

/-! ### The supply warning (R158, R172) -/

/-- The state when a supply warning has begun, before the hand-back. -/
def State.warned (s : State) (b : BaseMode) : State := (s.setSupply .warning).setMode (.rideThrough b)

theorem State.supplyChanged_begins (clear : s.ilu.supply = .clear) (mode : s.mdc.mode = .base b) :
    s.supplyChanged true = (s.warned b).handBackAll := by
  have started : (s.setSupply .warning).mdc.mode = .base b := mode
  simp only [State.supplyChanged, clear, State.supplyStart, started]
  rfl

theorem State.supplyChanged_clears (warning : s.ilu.supply = .warning) :
    s.supplyChanged false = s.setSupply (.clearing s.now) := by
  simp only [State.supplyChanged, warning]

theorem State.supplyChanged_again {since : Nat} (clearing : s.ilu.supply = .clearing since) :
    s.supplyChanged true = s.setSupply .warning := by
  simp only [State.supplyChanged, clearing]

/-- A record handed back, its attempts reset (R77). -/
def MoveRec.reset (r : MoveRec) : MoveRec :=
  { r with cancel := false, breaks := 0, makes := 0, returns := 0, breakTime := none }

/-- The record of the one slot at WAIT_BREAK back in the queue. -/
def State.oneBack (s : State) (k : SlotId) (sl : Slot) : State :=
  { s.setSlot k none with
    sbc := { s.sbc with verifyPolls := s.sbc.verifyPolls.filter fun j => j != k }
    mvq := { s.mvq with queue := insertRec sl.record.reset s.mvq.queue } }

/-- The hand-back where one slot alone is at WAIT_BREAK (R77, R105). -/
theorem State.handBackAll_one (slot : s.slot k = some sl) (stage : sl.stage = .waitBreak)
    (others : ∀ j, j ≠ k → s.slotStage j ≠ some .waitBreak) :
    s.handBackAll = State.trimQueue (s.oneBack k sl).mvq.queue.length (s.oneBack k sl) := by
  have own : s.slotStage k = some .waitBreak := stage ▸ State.slotStage_of_some slot
  rw [State.handBackAll_eq, State.handBackSlots_one own others, State.returnToQueue_eq slot]
  rfl

/-- It overfills a full queue, whose last record then ends. -/
theorem State.handBackAll_one_many {d : MoveRec} (slot : s.slot k = some sl) (stage : sl.stage = .waitBreak)
    (others : ∀ j, j ≠ k → s.slotStage j ≠ some .waitBreak) (many : (s.oneBack k sl).mvq.queue.length = 17)
    (last : (s.oneBack k sl).mvq.queue.getLast? = some d) :
    s.handBackAll = (s.oneBack k sl).endQueued d .displaced := by
  rw [State.handBackAll_one slot stage others, many]
  exact State.trimQueue_of_last many last

theorem State.handBackAll_one_short (slot : s.slot k = some sl) (stage : sl.stage = .waitBreak)
    (others : ∀ j, j ≠ k → s.slotStage j ≠ some .waitBreak) (short : (s.oneBack k sl).mvq.queue.length ≤ 16) :
    s.handBackAll = s.oneBack k sl := by
  rw [State.handBackAll_one slot stage others]
  exact State.trimQueue_of_short _ short

/-! ### The clearing timer (R158, R172) -/

theorem exec_supplyClearingTimeout {since : Nat} (clearing : s.ilu.supply = .clearing since)
    (mode : s.mdc.mode = .rideThrough b) : exec .supplyClearingTimeout s
      = .next ((((s.atInstant (since + 2000 * Config.ticksPerMs)).setSupply .clear).setMode
          (.base b)).takeAdmission).settle := by
  have saved : ((s.atInstant (since + msToTicks 2000)).setSupply .clear).mdc.mode = .rideThrough b := mode
  simp only [exec, execSupplyClearingTimeout, clearing, State.qualifiedClear, saved]
  rfl

end Sys2Proof.Machine

open Sys2Proof Sys2Proof.Machine

/-- Settles O51: samples by whether they complete a level, the two inputs by what their change brings about. -/
theorem inputKeyAndWarningEvents : Obligations.InputKeyAndWarningEvents := by
  refine ⟨fun s i high => ⟨fun same => ?_, fun new m run early => ?_⟩, fun s high => ⟨fun r input level new full => ?_,
      fun r b input level old act full clear mode slots short => ?_, fun r b input level old act full clear mode => ?_⟩,
    fun s high r input level new full => ⟨fun old warning => ?_, fun since old clearing => ?_⟩,
    fun s since b clearing mode => ⟨exec_supplyClearingTimeout clearing mode, fun still => ?_⟩⟩
  · exact settled_congr (State.sampleInput_same rfl same)
  · have counted : m = (s.input i).run.elim 0 (· + 1) := run.trans (by cases (s.input i).run <;> rfl)
    subst counted
    exact settled_congr (State.sampleInput_early rfl new early)
  · exact settled_congr (State.sampleInput_key level new (full.trans_eq (by cases r.run <;> rfl)) input)
  · have new : (high == r.polarityHigh) ≠ r.debounced := by simp [act, old]
    have active : (high == r.polarityHigh) = true := by simp [act]
    have begun := State.sampleInput_supply level new (full.trans_eq (by cases r.run <;> rfl)) input
    have none (j : SlotId) : ((s.levelTaken .supplyWarn r true).warned b).slotStage j ≠ some .waitBreak :=
      (State.slotStage_of_none (slots j)).trans_ne nofun
    rw [active, State.supplyChanged_begins (s := s.levelTaken .supplyWarn r true) clear mode,
      State.handBackAll_of_none none short] at begun
    exact settled_congr begun
  · have new : (high == r.polarityHigh) ≠ r.debounced := by simp [act, old]
    have active : (high == r.polarityHigh) = true := by simp [act]
    have begun := State.sampleInput_supply level new (full.trans_eq (by cases r.run <;> rfl)) input
    rw [active, State.supplyChanged_begins (s := s.levelTaken .supplyWarn r true) clear mode] at begun
    obtain ⟨v, hv⟩ : ∃ v, (s.levelTaken .supplyWarn r true).warned b = v := ⟨_, rfl⟩
    have slots (k : SlotId) : v.slot k = s.slot k := hv ▸ rfl
    have stages (k : SlotId) : v.slotStage k = s.slotStage k := State.slotStage_congr (slots k)
    have conns (n : ConnId) : v.conn n = s.conn n := hv ▸ rfl
    have saved : v.mdc.mode = .rideThrough b := hv ▸ rfl
    rw [hv] at begun
    refine ⟨?_, fun k sl slot stage others => ?_⟩
    · obtain ⟨few, after, moves⟩ := v.handBackAll_spec
      have mdc : v.handBackAll.mdc = v.mdc := by simp
      obtain ⟨t, ht⟩ : ∃ t, v.handBackAll = t := ⟨_, rfl⟩
      rw [ht] at begun few after moves mdc
      refine ⟨_, settled_congr begun, (congrArg Mdc.mode mdc).trans saved, few, fun k waits => ?_, fun k other => ?_,
        fun n => (moves n).trans (congrArg Conn.movesToday (conns n))⟩
      · exact (after k).trans (if_pos ((stages k).trans waits))
      · exact ((after k).trans (if_neg ((stages k).trans_ne other))).trans (slots k)
    · have own := (slots k).trans slot
      have others (j : SlotId) (other : j ≠ k) : v.slotStage j ≠ some .waitBreak := stages j ▸ others j other
      dsimp only
      rw [exec_debounceComplete, begun]
      subst hv
      exact ⟨fun short => settled_congr (State.handBackAll_one_short own stage others short),
        fun d many last => settled_congr (State.handBackAll_one_many own stage others many last)⟩
  · have new' : (high == r.polarityHigh) = false := by simpa [old] using new
    refine settled_congr ((State.sampleInput_supply level new (full.trans_eq (by cases r.run <;> rfl)) input).trans ?_)
    rw [new', State.supplyChanged_clears (s := s.levelTaken .supplyWarn r false) warning]
    rfl
  · have new' : (high == r.polarityHigh) = true := by simpa [old] using new
    refine settled_congr ((State.sampleInput_supply level new (full.trans_eq (by cases r.run <;> rfl)) input).trans ?_)
    rw [new', State.supplyChanged_again (s := s.levelTaken .supplyWarn r true) clearing]
    rfl
  · refine (exec_supplyClearingTimeout clearing mode).trans (settled_congr ?_)
    rcases still with rfl | rfl | queue
    · exact State.takeAdmission_of_not_allowed _ rfl
    · exact State.takeAdmission_of_not_allowed _ rfl
    · exact State.takeAdmission_of_queue_nil _ queue
end

section
/-! The read commands (R178, R179, R188): taken at a free port, each is answered OK with its reply. -/

namespace Sys2Proof.Machine

open Sys2Proof

variable {s : State} {lk : Link} {code tag : Byte}

/-- A read command whose arguments are right and whose reply does not look at the ports answers OK with that reply. -/
theorem takeRequest_readWith {α : Type} {arg : Option α} {a : α} {reply : α → State → List Byte}
    (free : s.portFree lk) (parsed : arg = some a) (same : reply a (s.asking lk code tag) = reply a s) :
    takeRequest lk code tag (readWith arg reply) s = s.answering lk code tag (0x00 :: reply a s) := by
  subst parsed
  refine takeRequest_ok free ?_
  rw [readWith, same]

theorem argTable_connNumber {k : Byte} (low : 1 ≤ k.toNat) (high : k.toNat ≤ 16) (n : ConnId) :
    argTable (u8 (connNumber n) ++ [k]) = some (n, k.toNat) := by
  simp only [argTable, u8, List.cons_append, List.nil_append, connOf?_connNumber]
  exact if_pos ⟨low, high⟩

theorem argHistory_start (q : Half) : argHistory (1 :: be16 q) = some (some q) := by
  simp only [argHistory, be16, half_be16]
  rfl

theorem takeRequest_getParam {x i : Byte} {p : Param} (free : s.portFree lk)
    (named : paramOf? x.toNat i.toNat = some p) :
    takeRequest lk code tag (doGetParam [x, i]) s = s.answering lk code tag (0x00 :: x :: i :: i32 (s.stored p)) := by
  refine takeRequest_ok free ?_
  simp only [doGetParam, argGetParam, named]
  cases p <;> rfl

end Sys2Proof.Machine
end

section
/-! The replies of the read commands, field by field (R185, R188): what each field of an optional value shows, how long
a reply is, and which entries a list shows. -/

namespace Sys2Proof.Machine

open Sys2Proof

variable {s : State}

/-! ### Fields and their lengths -/

@[simp] theorem length_u8 (n : Nat) : (u8 n).length = 1 := rfl

@[simp] theorem length_flag (b : Bool) : (flag b).length = 1 := rfl

@[simp] theorem length_be16 (w : Half) : (be16 w).length = 2 := rfl

@[simp] theorem length_be32 (w : Word) : (be32 w).length = 4 := rfl

@[simp] theorem length_u16 (n : Nat) : (u16 n).length = 2 := rfl

@[simp] theorem length_u32 (n : Nat) : (u32 n).length = 4 := rfl

@[simp] theorem length_i32 (x : Int) : (i32 x).length = 4 := rfl

@[simp] theorem length_zeros (n : Nat) : (zeros n).length = n := List.length_replicate

@[simp] theorem length_presentU16 (x : Option Nat) : (presentU16 x).length = 3 := by
  cases x <;> rfl

@[simp] theorem length_presentI32 (x : Option Int) : (presentI32 x).length = 5 := by
  cases x <;> rfl

@[simp] theorem length_grantFields (st : StoreState) : (grantFields st).length = 6 := by
  cases st <;> rfl

theorem length_statusReply : (statusReply s).length = 36 := by
  simp [statusReply]

/-- Entries of one width, at most as many as there are places, fill those places. -/
theorem length_inPlaces {places width : Nat} {entries : List (List Byte)} (fit : entries.length ≤ places)
    (even : ∀ e ∈ entries, e.length = width) : (inPlaces places width entries).length = places * width := by
  have filled : (entries.map List.length).sum = entries.length * width := by
    rw [List.map_congr_left even, List.map_const', List.sum_replicate_nat]
  rw [inPlaces, List.length_append, List.length_flatten, filled, length_zeros, ← Nat.add_mul,
    Nat.add_sub_cancel' fit]

theorem powerField_none : powerField none = [0x80, 0, 0, 0] := by decide

theorem loadField_none : loadField none = [0x80, 0] := by decide

theorem u16_zero : u16 0 = [0, 0] := by decide

/-! ### STATUS and READ_TABLE -/

/-- The occupied slots are as many as the records in slots. -/
theorem State.occupiedCount_eq : s.occupiedCount = s.slotRecords.length := by
  rw [State.occupiedCount, State.slotRecords, List.length_filterMap_eq_countP]
  simp only [Option.isSome_map]

/-- The connections of a READ_TABLE reply: from the start number upward, up to the count or the last record. -/
theorem map_val_tableConns (n : ConnId) (k : Nat) :
    ((allConns.drop n.val).take k).map (·.val) = (List.range (min k (96 - n.val))).map (n.val + ·) := by
  rw [List.map_take, List.map_drop, allConns, List.map_coe_finRange_eq_range, List.range_eq_range', List.drop_range',
    List.range'_eq_map_range, ← List.map_take, List.take_range, Nat.mul_one, Nat.zero_add]

theorem length_tableConns (n : ConnId) (k : Nat) : ((allConns.drop n.val).take k).length = min k (96 - n.val) := by
  simp [allConns]

/-! ### READ_PHASES and READ_PLAN -/

theorem phaseReply_of_none {p : Phase} (absent : (s.chan p).latest = none) :
    phaseReply s p = u8 (Health.code (s.health p)) ++ flag (s.chan p).started ++ [0, 0, 0, 0, 0, 0x80, 0, 0, 0]
      ++ powerField (s.average p) := by
  simp only [phaseReply, absent, Option.map_none, powerField_none, Option.getD_none, u16_zero, List.append_assoc]
  rfl

theorem phaseReply_of_some {p : Phase} {v : CycleValues} (shown : (s.chan p).latest = some v) :
    phaseReply s p = u8 (Health.code (s.health p)) ++ flag (s.chan p).started
      ++ (1 :: u16 v.rmsV ++ u16 v.rmsI ++ i32 v.power) ++ powerField (s.average p) := by
  simp only [phaseReply, shown, Option.map_some, Option.getD_some, List.append_assoc]
  rfl

theorem length_planBytes {p : PlanStatus} (fit : p.entries.length ≤ 4) : (planBytes (some p)).length = 45 := by
  have places : (inPlaces 4 7 (p.entries.map planEntryBytes)).length = 28 :=
    length_inPlaces (by rwa [List.length_map]) fun e he => by
      obtain ⟨x, -, rfl⟩ := List.mem_map.1 he
      rfl
  simp only [planBytes, List.length_append, List.length_cons, length_be32, length_u8, length_presentI32, places]

theorem planBytes_some (p : PlanStatus) :
    planBytes (some p) = 1 :: be32 p.epoch ++ u8 (PlanOutcome.code p.outcome) ++ presentI32 p.before
      ++ presentI32 p.after ++ u8 p.entries.length ++ p.entries.flatMap planEntryBytes
      ++ List.replicate (28 - 7 * p.entries.length) 0 := by
  have unused : (4 - p.entries.length) * 7 = 28 - 7 * p.entries.length := by omega
  rw [planBytes, inPlaces, List.length_map, unused, zeros, List.flatMap_def, List.append_assoc _ _ (List.replicate _ 0)]

theorem phaseSet_eq (t : PerPhase Bool) :
    phaseSet t = (if t.a then 1 else 0) + (if t.b then 2 else 0) + (if t.c then 4 else 0) := by
  obtain ⟨_ | _, _ | _, _ | _⟩ := t <;> rfl

/-- The planner part of a READ_PLAN reply is its first 45 bytes. -/
theorem planReply_split (fit : ∀ p, s.bpl.plan = some p → p.entries.length ≤ 4) :
    (planReply s).take 45 = planBytes s.bpl.plan ∧ (planReply s).drop 45 = rescueBytes s.bpl.rescue := by
  have length : (planBytes s.bpl.plan).length = 45 := by
    cases shown : s.bpl.plan with
    | none => rfl
    | some p => exact length_planBytes (fit p shown)
  exact ⟨List.take_left' length, List.drop_left' length⟩

/-! ### READ_SLOTS (R108) -/

theorem slotEntry_some {k : SlotId} {sl : Slot} (held : s.slot k = some sl) :
    slotEntry s k = 1 :: be16 sl.record.seq ++ u8 (sl.record.conn.val + 1) ++ u8 (Phase.code sl.record.source)
      ++ u8 (Phase.code sl.record.target) ++ u8 (Origin.code sl.record.origin)
      ++ u8 (MoveClass.code sl.record.origin.moveClass) ++ u8 (Stage.code sl.stage) ++ flag sl.record.cancel
      ++ u8 sl.record.breaks ++ u8 sl.record.makes ++ u8 sl.record.returns
      ++ (flag sl.record.breakTime.isSome ++ u16 (sinceBreak s sl.record)) ++ u8 (shownReturn s sl)
      ++ u8 (requestCode (s.request sl)) ++ u8 sl.misses := by
  rw [slotEntry, held, ← List.append_assoc]
  rfl

/-! ### READ_HISTORY (R83) -/

theorem fromNewest_absent {q : Half} {h : List HistEntry} (absent : ∀ e ∈ h, e.seq ≠ q) : fromNewest q h = none := by
  induction h with
  | nil => rfl
  | cons e es ih =>
    rw [fromNewest, ih fun x hx => absent x (List.mem_cons_of_mem _ hx)]
    exact if_neg (absent e List.mem_cons_self)

/-- Where an entry has the sequence number, the reply starts at the newest one that has it. -/
theorem fromNewest_present {q : Half} {h : List HistEntry} (present : ∃ e ∈ h, e.seq = q) :
    ∃ (old later : List HistEntry) (e : HistEntry), h = old ++ e :: later ∧ e.seq = q ∧ (∀ x ∈ later, x.seq ≠ q)
      ∧ fromNewest q h = some (e :: later) := by
  induction h with
  | nil => simp at present
  | cons e es ih =>
    by_cases deeper : ∃ x ∈ es, x.seq = q
    · obtain ⟨old, later, x, split, named, newest, found⟩ := ih deeper
      exact ⟨e :: old, later, x, by rw [split]; rfl, named, newest, by rw [fromNewest, found]⟩
    · have absent : ∀ x ∈ es, x.seq ≠ q := fun x hx named => deeper ⟨x, hx, named⟩
      have named : e.seq = q := by
        obtain ⟨x, hx, named⟩ := present
        rcases List.mem_cons.1 hx with rfl | hx
        · exact named
        · exact absurd named (absent x hx)
      exact ⟨[], es, e, rfl, named, absent, by rw [fromNewest, fromNewest_absent absent]; exact if_pos named⟩

/-- Which entries a READ_HISTORY reply starts from, and whether the start it was asked for is held. -/
theorem historyFrom_spec (h : List HistEntry) (start : Option Half) :
    (start = none → (historyFrom h start).1 = true ∧ (historyFrom h start).2 = h)
      ∧ (∀ q, start = some q → (∀ e ∈ h, e.seq ≠ q) →
          (historyFrom h start).1 = false ∧ (historyFrom h start).2 = h)
      ∧ (∀ q, start = some q → (∃ e ∈ h, e.seq = q) → (historyFrom h start).1 = true
          ∧ ∃ (old later : List HistEntry) (e : HistEntry), h = old ++ e :: later ∧ e.seq = q
            ∧ (∀ x ∈ later, x.seq ≠ q) ∧ (historyFrom h start).2 = e :: later) := by
  refine ⟨?_, ?_, ?_⟩
  · rintro rfl
    exact ⟨rfl, rfl⟩
  · rintro q rfl absent
    rw [historyFrom, fromNewest_absent absent]
    exact ⟨rfl, rfl⟩
  · rintro q rfl present
    obtain ⟨old, later, e, split, named, newest, found⟩ := fromNewest_present present
    rw [historyFrom, found]
    exact ⟨rfl, old, later, e, split, named, newest, rfl⟩

theorem historyReply_eq (start : Option Half) :
    historyReply start s = u8 s.mvq.history.length ++ flag (historyFrom s.mvq.history start).1
      ++ u8 (min 8 (historyFrom s.mvq.history start).2.length)
      ++ ((historyFrom s.mvq.history start).2.take 8).flatMap histEntryBytes := by
  rw [historyReply, List.length_take]

/-! ### READ_INPUTS (R161) -/

theorem haltPlaces (es : List HaltEntry) :
    inPlaces 8 10 (es.map haltEntryBytes) = es.flatMap haltEntryBytes ++ List.replicate (80 - 10 * es.length) 0 := by
  have unused : (8 - es.length) * 10 = 80 - 10 * es.length := by omega
  rw [inPlaces, List.length_map, unused, zeros, List.flatMap_def]

theorem inputsReply_eq :
    inputsReply s = allInputs.flatMap (fun i => inputEntry (s.input i)) ++ u8 s.assertedSet ++ [s.params.haltMask]
      ++ flag s.haltActive ++ (u8 (SupplyState.code s.ilu.supply) ++ presentU16 s.clearingTimer) ++ flag s.keyLocal
      ++ u8 s.ilu.haltRecord.length ++ s.ilu.haltRecord.flatMap haltEntryBytes
      ++ List.replicate (80 - 10 * s.ilu.haltRecord.length) 0 := by
  rw [inputsReply, haltPlaces, ← List.append_assoc, ← List.append_assoc]

/-- The set of the asserted sources has the bit of a source exactly while it is asserted. -/
theorem State.assertedSet_bit (h : HaltSource) : (BitVec.ofNat 8 s.assertedSet).getLsbD h.bit = s.asserted h := by
  simp only [State.assertedSet, allSources, List.map_cons, List.map_nil, List.sum_cons, List.sum_nil, HaltSource.bit]
  cases h
  all_goals
    generalize s.asserted .rlyBlock = b0
    generalize s.asserted .rlyTrip = b1
    generalize s.asserted .door = b2
    generalize s.asserted .aux1 = b3
    generalize s.asserted .aux2 = b4
    generalize s.asserted .neutralOc = b5
    generalize s.asserted .esFault = b6
    generalize s.asserted .mapFault = b7
    revert b0 b1 b2 b3 b4 b5 b6 b7
    decide +kernel

end Sys2Proof.Machine

open Sys2Proof Sys2Proof.Machine

/-- Settles O21: a read is answered in the asking state, whose reply differs from that of the state before in nothing
(the replies do not look at the ports), and each reply is its model definition, split at the optional values. -/
theorem readCommandsAnswer : Obligations.ReadCommandsAnswer := by
  refine ⟨fun s lk tag free => ?reads, ?codes,
    fun s => ⟨?status, length_statusReply, fun n k _ _ => ?table, ?phases, fun absent => ?noPlan,
      fun p shown fit => ?plan, fun absent fit => ?noRescue, fun r shown fit => ?rescue, ?queue⟩,
    fun s => ⟨rfl, fun k free => ?freeSlot, fun k sl held => ?slot, fun start => ?history, rfl, ?inputs,
      State.assertedSet_bit⟩⟩
  case reads =>
    exact ⟨settled_congr (takeRequest_readWith free (a := ()) rfl rfl),
      fun n => settled_congr (takeRequest_readWith free (argConn_connNumber n) rfl),
      fun n _ low high => settled_congr (takeRequest_readWith free (argTable_connNumber low high n) rfl),
      settled_congr (takeRequest_readWith free (a := ()) rfl rfl),
      settled_congr (takeRequest_readWith free (a := ()) rfl rfl),
      settled_congr (takeRequest_readWith free (a := ()) rfl rfl),
      settled_congr (takeRequest_readWith free (a := ()) rfl rfl),
      fun q => settled_congr (takeRequest_readWith free (argHistory_start q) rfl),
      fun _ _ => settled_congr (takeRequest_readWith free (a := none) rfl rfl),
      settled_congr (takeRequest_readWith free (a := ()) rfl rfl),
      settled_congr (takeRequest_readWith free (a := ()) rfl rfl),
      fun _ _ _ named => settled_congr (takeRequest_getParam free named)⟩
  case codes =>
    exact ⟨rfl, rfl, rfl, rfl, rfl, rfl, rfl, rfl, rfl, rfl, rfl, rfl⟩
  case status =>
    rw [statusReply, State.occupiedCount_eq, State.chargeTimer]
    cases s.mdc.mode <;> cases s.esm.store <;> rfl
  case table =>
    exact ⟨_, map_val_tableConns n k, by rw [tableReply, length_tableConns]⟩
  case phases =>
    refine congrArg₂ (· ++ ·) (congrArg₂ (· ++ ·) (congrArg₂ (· ++ ·) (List.flatMap_congr fun p _ => ?_) ?_) rfl) ?_
    · cases latest : (s.chan p).latest with
      | none =>
        rw [phaseReply_of_none latest]
        cases s.average p <;> rfl
      | some v =>
        rw [phaseReply_of_some latest]
        cases s.average p <;> rfl
    · cases s.fmu.neutral.latest <;> rfl
    · cases s.fmu.averages <;> rfl
  case noPlan =>
    rw [planReply, absent]
    rfl
  case plan =>
    have fits : ∀ q, s.bpl.plan = some q → q.entries.length ≤ 4 := fun q held =>
      Option.some.inj (shown.symm.trans held) ▸ fit
    rw [(planReply_split fits).1, shown, planBytes_some]
    cases p.before <;> cases p.after <;> rfl
  case noRescue =>
    rw [(planReply_split fit).2, absent]
    rfl
  case rescue =>
    rw [(planReply_split fit).2, shown, ← phaseSet_eq]
    rfl
  case queue =>
    refine congrArg (_ ++ ·) (List.flatMap_congr fun r _ => ?_)
    unfold queueEntry
    cases r.load <;> rfl
  case freeSlot =>
    rw [slotEntry, free]
    rfl
  case slot =>
    rw [slotEntry_some held]
    refine congrArg₂ (· ++ ·) (congrArg₂ (· ++ ·) (congrArg₂ (· ++ ·) (congrArg₂ (· ++ ·) rfl ?_) ?_) ?_) rfl
    · cases broken : sl.record.breakTime with
      | none =>
        rw [sinceBreak, broken]
        exact congrArg (0 :: ·) u16_zero
      | some at' =>
        rw [sinceBreak, broken]
        rfl
    · rw [shownReturn]
      cases sl.stage <;> rfl
    · cases s.request sl <;> rfl
  case history =>
    exact ⟨_, _, historyReply_eq start, historyFrom_spec s.mvq.history start⟩
  case inputs =>
    rw [inputsReply_eq]
    refine congrArg (fun fields => fields ++ _ ++ _ ++ _ ++ _) (congrArg₂ (· ++ ·)
      (congrArg (fun entries => entries ++ _ ++ _ ++ _) (List.flatMap_congr fun i _ => ?_)) ?_)
    · rw [inputEntry]
      cases (s.input i).run <;> rfl
    · rw [State.clearingTimer]
      cases s.ilu.supply <;> rfl
end

section
/-! The halt treatment (R104): what it makes of one slot, that what the slots after it do leaves it so, and the history
entries of the records that end. -/

namespace Sys2Proof.Machine

open Sys2Proof

variable {s t u : State} {k : SlotId} {sl : Slot} {bt m : Nat}

/-! ### What the treated slots leave of a state -/

namespace State.SlotsTurned

/-- An ending with any result leaves what an ending DARK leaves. -/
theorem endWith (h : SlotsTurned m s t) (res : Result) : SlotsTurned (m + 1) s (t.endRecord k res) := by
  cases slot : t.slot k with
  | none => simpa [State.endRecord, slot] using h.succ
  | some sl =>
    have eq := State.endRecord_eq slot res
    have conn (n : ConnId) : ((t.endRecord k res).conn n).timing = (t.conn n).timing
        ∧ ((t.conn n).dark = true → ((t.endRecord k res).conn n).dark = true)
        ∧ ((t.conn n).recordLink = none → ((t.endRecord k res).conn n).recordLink = none) := by
      rw [State.endRecord_conn slot res n]
      split
      · next own =>
        subst own
        exact ⟨rfl, fun dark => by simp [State.endedConn, dark], fun _ => rfl⟩
      · exact ⟨rfl, id, id⟩
    refine ⟨?_, ?_, ?_, ?_, ?_, ?_, fun n => ?_, fun n dark => (conn n).2.1 (h.dark n dark),
      fun n free => (conn n).2.2 (h.unlinked n free), fun few e last => ?_⟩
    · rw [eq]; exact h.fmu
    · rw [eq]; exact h.now
    · rw [eq]; exact h.bpl
    · rw [eq, h.mvq]
    · rw [eq, h.sbc]
    · rw [← h.restored, eq]
      cases t.chatterDue sl.record.conn <;> cases res <;> simp [Result.failed]
    · exact (State.timing_congr (by simp) (conn n).1).trans (h.timing n)
    · rw [eq]
      exact mem_newest_pushHistory few (h.newest (by omega) e last)

theorem treatSlot (h : SlotsTurned m s t) : SlotsTurned (m + 1) s (t.treatSlot k) := by
  unfold State.treatSlot
  split
  · exact h.endWith .halted
  · exact h.modSlot.succ
  · exact h.modSlot.succ
  · exact h.modSlot.holdWaitReturn
  · exact h.modSlot.holdWaitReturn
  all_goals exact h.succ

theorem foldl_treatSlot (h : SlotsTurned m s t) (ks : List SlotId) :
    SlotsTurned (m + ks.length) s (ks.foldl State.treatSlot t) := by
  induction ks generalizing m t with
  | nil => exact h
  | cons k ks ih =>
    rw [List.length_cons, Nat.add_comm ks.length, ← Nat.add_assoc]
    exact ih h.treatSlot

end State.SlotsTurned

/-! ### The treatment of a slot, by its stage -/

theorem State.treatSlot_of_waitBreak (slot : s.slot k = some sl) (stage : sl.stage = .waitBreak) :
    s.treatSlot k = s.endRecord k .halted := by
  simp only [State.treatSlot, State.slotStage_of_some slot, stage]

theorem State.treatSlot_of_pulse (slot : s.slot k = some sl) (stage : sl.stage = .breaking ∨ sl.stage = .making) :
    s.treatSlot k = s.setSlot k (some sl.cancelled) := by
  rcases stage with stage | stage <;>
    simp only [State.treatSlot, State.slotStage_of_some slot, stage, State.requestCancel_eq slot]

theorem State.treatSlot_of_open (slot : s.slot k = some sl) (stage : sl.stage = .gap ∨ sl.stage = .waitMake) :
    s.treatSlot k = s.enterWaitReturn k := by
  rcases stage with stage | stage <;> simp only [State.treatSlot, State.slotStage_of_some slot, stage]

theorem State.treatSlot_of_returning (slot : s.slot k = some sl)
    (stage : sl.stage = .waitReturn ∨ sl.stage = .returning ∨ sl.stage = .orphaned) : s.treatSlot k = s := by
  rcases stage with stage | stage | stage <;> simp only [State.treatSlot, State.slotStage_of_some slot, stage]

theorem State.treatSlot_of_free (free : s.slot k = none) : s.treatSlot k = s := by
  simp only [State.treatSlot, State.slotStage_of_none free]

/-- What the halt treatment has made of a slot, in the state t it left (R104). -/
structure State.HaltTreated (t : State) (sl : Slot) (after : Option Slot) : Prop where
  waitBreak : sl.stage = .waitBreak → after = none ∧ (t.conn sl.record.conn).recordLink = none
  pulse : sl.stage = .breaking ∨ sl.stage = .making → after = some sl.cancelled
  open_ : ∀ bt, sl.stage = .gap ∨ sl.stage = .waitMake → sl.record.breakTime = some bt → t.turnedBack sl bt after
  returning : sl.stage = .waitReturn ∨ sl.stage = .returning ∨ sl.stage = .orphaned → after = some sl

/-- A slot turned back stays so while other slots are treated. -/
theorem State.turnedBack_of_turnBack (slot : s.slot k = some sl) (later : State.SlotsTurned m (s.turnBack k sl bt) t)
    (few : m < 32) (after : t.slot k = (s.turnBack k sl bt).slot k) : t.turnedBack sl bt (t.slot k) := by
  rw [State.turnBack_eq slot] at later after
  unfold State.turnedBack
  by_cases back : s.returnable sl.record bt
  · rw [if_pos back] at later after
    rw [if_pos ((later.returnable_iff _).mpr back), after, State.slot_setSlot_same]
  · rw [if_neg back] at later after
    rw [if_neg, after]
    · exact after ▸ State.heldOpen_of_holdOpen slot later few after
    · have before : State.SlotsTurned 1 s (s.holdOpen k sl bt) := by
        unfold State.holdOpen
        split
        · exact (State.SlotsTurned.refl s).setSlot.succ
        · exact (State.SlotsTurned.refl s).endRecord
      exact fun back' => back ((before.returnable_iff _).mp ((later.returnable_iff _).mp back'))

theorem State.haltTreated_of_treatSlot (slot : s.slot k = some sl) (later : State.SlotsTurned m (s.treatSlot k) t)
    (few : m < 32) (after : t.slot k = (s.treatSlot k).slot k) : t.HaltTreated sl (t.slot k) where
  waitBreak stage := by
    rw [State.treatSlot_of_waitBreak slot stage] at later after
    rw [State.endRecord_slot slot, if_pos rfl] at after
    have own := (State.endRecord_conn slot .halted sl.record.conn).trans (if_pos rfl)
    exact ⟨after, later.unlinked _ (by rw [own]; rfl)⟩
  pulse stage := by rw [after, State.treatSlot_of_pulse slot stage, State.slot_setSlot_same]
  open_ bt stage break_ := by
    rw [State.treatSlot_of_open slot stage, State.enterWaitReturn_eq slot break_] at later after
    exact State.turnedBack_of_turnBack slot later few after
  returning stage := by rw [after, State.treatSlot_of_returning slot stage, slot]

/-- A slot that is not treated is as it was. -/
theorem State.foldl_treatSlot_other (ks : List SlotId) (s : State) (out : k ∉ ks) :
    (ks.foldl State.treatSlot s).slot k = s.slot k := by
  induction ks generalizing s with
  | nil => rfl
  | cons j ks ih =>
    rw [List.mem_cons, not_or] at out
    exact (ih (s.treatSlot j) out.2).trans (State.OnlySlot.refl.treatSlot.others k out.1)

/-- Every treated slot is what the treatment makes of it in the end, and a free slot stays free. -/
theorem State.foldl_treatSlot_spec (ks : List SlotId) (s : State) (distinct : ks.Nodup) (few : ks.length < 32)
    (mem : k ∈ ks) :
    let t := ks.foldl State.treatSlot s
    (∀ sl, s.slot k = some sl → t.HaltTreated sl (t.slot k)) ∧ (s.slot k = none → t.slot k = none) := by
  induction ks generalizing s with
  | nil => cases mem
  | cons j ks ih =>
    obtain ⟨fresh, distinct⟩ := List.nodup_cons.mp distinct
    rw [List.length_cons] at few
    by_cases own : k = j
    · subst own
      have slot := State.foldl_treatSlot_other ks (s.treatSlot k) fresh
      refine ⟨fun sl h => ?_, fun free => slot.trans (by rw [State.treatSlot_of_free free, free])⟩
      exact State.haltTreated_of_treatSlot h ((State.SlotsTurned.refl _).foldl_treatSlot ks) (by omega) slot
    · have other : (s.treatSlot j).slot k = s.slot k := State.OnlySlot.refl.treatSlot.others k own
      rw [← other]
      exact ih (s.treatSlot j) distinct (by omega) ((List.mem_cons.mp mem).resolve_left own)

/-! ### The history entries of the treated slots (R81, R104) -/

/-- A slot of a transfer either holds it still, or it has ended DARK. -/
def State.StaysOrDark (s : State) (k : SlotId) (r : MoveRec) (t : State) : Prop :=
  ((t.slot k).isSome = true ∧ t.mvq.history = s.mvq.history)
    ∨ (t.slot k = none ∧ t.mvq.history = s.endedHistory [(r, .dark)])

theorem State.enterOrphaned_staysOrDark (slot : s.slot k = some sl) :
    s.StaysOrDark k sl.record (s.enterOrphaned k) := by
  obtain ⟨x, hx⟩ : ∃ x : Slot, { sl with stage := .orphaned, verifyDue := some (s.sbc.frame + 1) } = x := ⟨_, rfl⟩
  have held : (s.setSlot k (some x)).slot k = some x := State.slot_setSlot_same _ _ _
  simp only [State.enterOrphaned, slot, hx]
  split
  · refine .inr ⟨by rw [State.endRecord_slot held, if_pos rfl], ?_⟩
    rw [State.endRecord_history held, ← hx]
    rfl
  · exact .inl ⟨by rw [held]; rfl, rfl⟩

theorem State.holdWaitReturn_staysOrDark (slot : s.slot k = some sl) :
    s.StaysOrDark k sl.record (s.holdWaitReturn k) := by
  simp only [State.holdWaitReturn, slot]
  split
  · exact State.enterOrphaned_staysOrDark slot
  · exact .inl ⟨by rw [slot]; rfl, rfl⟩

theorem State.enterWaitReturn_staysOrDark (slot : s.slot k = some sl) :
    s.StaysOrDark k sl.record (s.enterWaitReturn k) := by
  obtain ⟨x, hx⟩ : ∃ x : Slot, { sl with stage := .waitReturn, verifyDue := none } = x := ⟨_, rfl⟩
  have entered : s.enterWaitReturn k = (s.setSlot k (some x)).holdWaitReturn k := by
    simp only [State.enterWaitReturn, State.modSlot, slot, hx]
  have record : x.record = sl.record := by rw [← hx]
  rw [entered, ← record]
  exact State.holdWaitReturn_staysOrDark (State.slot_setSlot_same s k (some x))

/-- The record of a slot that has ended between two states, with the result the halt treatment ends it with. -/
def State.haltEnding (s t : State) (k : SlotId) : Option (MoveRec × Result) :=
  match s.slot k, t.slot k with
  | some sl, none => some (sl.record, if sl.stage = .waitBreak then .halted else .dark)
  | _, _ => none

theorem State.haltEnding_of_ended (slot : s.slot k = some sl) (ended : t.slot k = none) :
    s.haltEnding t k = some (sl.record, if sl.stage = .waitBreak then .halted else .dark) := by
  simp only [State.haltEnding, slot, ended]

theorem State.haltEnding_of_stays (stays : (t.slot k).isSome = true) : s.haltEnding t k = none := by
  obtain ⟨x, hx⟩ := Option.isSome_iff_exists.mp stays
  rw [State.haltEnding, hx]
  cases s.slot k <;> rfl

theorem State.haltEnding_congr {s' t' : State} (before : s'.slot k = s.slot k) (after : t'.slot k = t.slot k) :
    s'.haltEnding t' k = s.haltEnding t k := by
  rw [State.haltEnding, State.haltEnding, before, after]

/-- The treatment of one slot writes the entry of the record that ends there, if one does. -/
theorem State.treatSlot_history (s : State) (k : SlotId) :
    (s.treatSlot k).mvq.history = s.endedHistory (s.haltEnding (s.treatSlot k) k).toList := by
  cases slot : s.slot k with
  | none =>
    rw [State.treatSlot_of_free slot]
    simp only [State.haltEnding, slot]
    rfl
  | some sl =>
    have stays (x : Slot) : (s.setSlot k (some x)).mvq.history
        = s.endedHistory (s.haltEnding (s.setSlot k (some x)) k).toList := by
      rw [State.haltEnding_of_stays (by rw [State.slot_setSlot_same]; rfl)]
      rfl
    have pulse (stage : sl.stage = .breaking ∨ sl.stage = .making) := State.treatSlot_of_pulse slot stage
    have returning (stage : sl.stage = .waitReturn ∨ sl.stage = .returning ∨ sl.stage = .orphaned) :
        s.treatSlot k = s.setSlot k (some sl) :=
      (State.treatSlot_of_returning slot stage).trans (State.setSlot_slot slot).symm
    have opened (stage : sl.stage = .gap ∨ sl.stage = .waitMake) :
        (s.treatSlot k).mvq.history = s.endedHistory (s.haltEnding (s.treatSlot k) k).toList := by
      rw [State.treatSlot_of_open slot stage]
      rcases State.enterWaitReturn_staysOrDark slot with ⟨held, history⟩ | ⟨ended, history⟩
      · rw [history, State.haltEnding_of_stays held]
        rfl
      · rw [history, State.haltEnding_of_ended slot ended, if_neg (by rcases stage with e | e <;> simp [e])]
        rfl
    cases stage : sl.stage
    case waitBreak =>
      rw [State.treatSlot_of_waitBreak slot stage, State.endRecord_history slot,
        State.haltEnding_of_ended slot (by rw [State.endRecord_slot slot, if_pos rfl]), if_pos stage]
      rfl
    case breaking => exact pulse (.inl stage) ▸ stays _
    case making => exact pulse (.inr stage) ▸ stays _
    case gap => exact opened (.inl stage)
    case waitMake => exact opened (.inr stage)
    case waitReturn => exact returning (.inl stage) ▸ stays _
    case returning => exact returning (.inr (.inl stage)) ▸ stays _
    case orphaned => exact returning (.inr (.inr stage)) ▸ stays _

/-- Endings after endings. -/
theorem State.endedHistory_after {xs : List (MoveRec × Result)} (tbs : t.tbs = s.tbs)
    (history : t.mvq.history = s.endedHistory xs) (ys : List (MoveRec × Result)) :
    t.endedHistory ys = s.endedHistory (xs ++ ys) := by
  rw [State.endedHistory_append, ← history, State.endedHistory, tbs]

/-- Slots treated in an order write the entries of the records that end there in that order. -/
theorem State.foldl_treatSlot_history (ks : List SlotId) (s : State) (distinct : ks.Nodup) :
    (ks.foldl State.treatSlot s).mvq.history
      = s.endedHistory (ks.filterMap (s.haltEnding (ks.foldl State.treatSlot s))) := by
  induction ks generalizing s with
  | nil => rfl
  | cons j ks ih =>
    obtain ⟨fresh, distinct⟩ := List.nodup_cons.mp distinct
    have own : s.haltEnding (s.treatSlot j) j = s.haltEnding (ks.foldl State.treatSlot (s.treatSlot j)) j :=
      State.haltEnding_congr rfl (State.foldl_treatSlot_other ks _ fresh).symm
    have others : ks.filterMap ((s.treatSlot j).haltEnding (ks.foldl State.treatSlot (s.treatSlot j)))
        = ks.filterMap (s.haltEnding (ks.foldl State.treatSlot (s.treatSlot j))) :=
      List.filterMap_congr fun k hk => State.haltEnding_congr
        (State.OnlySlot.refl.treatSlot.others k fun e => fresh (e ▸ hk)) rfl
    rw [List.foldl_cons, ih (s.treatSlot j) distinct,
      State.endedHistory_after (by simp) (s.treatSlot_history j), own, others, List.filterMap_cons]
    cases s.haltEnding (ks.foldl State.treatSlot (s.treatSlot j)) j <;> rfl

end Sys2Proof.Machine
end

section
/-! A halt source's input (R149, R155, R157, R171): the halt event of a masked source whose status becomes set, and the
flush and halt treatment of a running part. -/

namespace Sys2Proof.Machine

open Sys2Proof

variable {s t : State} {i : InputLine} {h : HaltSource} {r : InputRec} {high : Bool} {b : BaseMode} {k : SlotId}
  {sl : Slot}

/-! ### The status HALT and the halt active test -/

/-- HALT is set in a settled state exactly while the mode is HALTED (R165, R191). -/
theorem State.settle_halt (s : State) : s.settle.evu.statuses.getLsbD 0 = (s.modeName == .halted) := by
  have mask : conditionMask.getLsbD 0 = true := by decide
  have own : EventKind.halt.mask.getLsbD 0 = true := by decide
  have others : ∀ e ∈ conditionKinds.tail, e.mask.getLsbD 0 = false := by decide
  simp only [conditionKinds, List.tail_cons, List.forall_mem_cons] at others
  rw [State.settle_statuses, State.statusesNow, BitVec.getLsbD_or, BitVec.getLsbD_and, BitVec.getLsbD_not, mask]
  simp only [State.conditionBits, BitVec.getLsbD_or, apply_ite (fun w : Half => w.getLsbD 0), own, others,
    show (0 : Half).getLsbD 0 = false from rfl, Bool.and_false, ite_self, Bool.or_false, Bool.not_true, Bool.false_or]
  exact Bool.eq_iff_iff.mpr (by simp [State.condition])

theorem State.asserted_of_source (source : haltSourceOf i = some h) : s.asserted h = (s.input i).status := by
  cases i <;> cases source <;> rfl

theorem State.haltActive_of_asserted (masked : s.masked h = true) (asserted : s.asserted h = true) :
    s.haltActive = true :=
  List.any_eq_true.mpr ⟨h, by cases h <;> decide, by rw [masked, asserted]; rfl⟩

/-! ### The halt event (R155, R157, R171) -/

/-- The halt record with a source entered, once. -/
def State.haltEntered (s : State) (h : HaltSource) : List HaltEntry :=
  if s.ilu.haltRecord.any (fun e => e.source == h) then s.ilu.haltRecord
  else s.ilu.haltRecord ++ [{ source := h, mode := s.modeName, epoch := s.tbs.epoch, timeOfDay := s.tbs.timeOfDay }]

theorem State.enterHalt_eq (h : HaltSource) :
    s.enterHalt h = { s with ilu := { s.ilu with haltRecord := s.haltEntered h } } := by
  unfold State.enterHalt State.haltEntered
  split <;> rfl

/-- The mode a running part has after a halt event: HALTED, or HALTED saved under RIDE_THROUGH (R171). -/
def State.stoppedMode (s : State) : Mode := if s.modeName = .rideThrough then .rideThrough .halted else .base .halted

/-- A part that does not run is not touched (R171). -/
theorem State.haltMode_still (mode : s.mdc.mode = .base b ∨ s.mdc.mode = .rideThrough b)
    (still : b = .config ∨ b = .halted) : s.haltMode = s := by
  rcases mode with mode | mode <;> rcases still with rfl | rfl <;> simp only [State.haltMode, mode]

/-- A running part stops (R171). -/
theorem State.haltMode_running (mode : s.mdc.mode = .base b ∨ s.mdc.mode = .rideThrough b)
    (running : b = .manual ∨ b = .auto) : s.haltMode = (s.setMode s.stoppedMode).flushAndTreat := by
  rcases mode with mode | mode <;> rcases running with rfl | rfl <;>
    simp [State.haltMode, mode, State.stoppedMode, State.modeName, Mode.name, BaseMode.name]

theorem State.stoppedMode_halted : (s.stoppedMode.name == .halted) = true ↔ s.modeName ≠ .rideThrough := by
  unfold State.stoppedMode
  split
  · next through => exact iff_of_false nofun (not_not.mpr through)
  · next base => exact iff_of_true rfl base

/-- A running part that a source stops, before the flush (R157, R171). -/
def State.stopping (s : State) (h : HaltSource) : State :=
  State.setMode { s with ilu := { s.ilu with haltRecord := s.haltEntered h } } s.stoppedMode

theorem State.haltEvent_unmasked (unmasked : s.masked h = false) : s.haltEvent h = s :=
  if_neg (by rw [unmasked]; nofun)

theorem State.haltEvent_still (masked : s.masked h = true) (mode : s.mdc.mode = .base b ∨ s.mdc.mode = .rideThrough b)
    (still : b = .config ∨ b = .halted) :
    s.haltEvent h = { s with ilu := { s.ilu with haltRecord := s.haltEntered h } } := by
  rw [State.haltEvent, if_pos masked, State.enterHalt_eq]
  exact State.haltMode_still mode still

theorem State.haltEvent_running (masked : s.masked h = true)
    (mode : s.mdc.mode = .base b ∨ s.mdc.mode = .rideThrough b) (running : b = .manual ∨ b = .auto) :
    s.haltEvent h = (s.stopping h).flushAndTreat := by
  rw [State.haltEvent, if_pos masked, State.enterHalt_eq]
  exact State.haltMode_running mode running

/-! ### The flush and the halt treatment (R76, R104) -/

/-- The flushed queue's connections are unlinked, and stay so through the treatment of the slots. -/
theorem State.flushAndTreat_unlinked (s : State) {x : MoveRec} (queued : x ∈ s.mvq.queue) :
    (s.flushAndTreat.conn x.conn).recordLink = none := by
  have turned := (State.SlotsTurned.refl (s.endAllQueued .halted)).foldl_treatSlot allSlots
  refine turned.unlinked _ ?_
  rw [State.endAllQueued_eq s rfl]
  exact congrArg Conn.recordLink ((getElem_unlinkConns _ _ _).trans (if_pos ⟨x, queued, rfl⟩))

theorem State.endAllQueued_slot (k : SlotId) : (s.endAllQueued .halted).slot k = s.slot k := by
  rw [State.endAllQueued_eq s rfl]
  rfl

theorem State.flushAndTreat_slot (slot : s.slot k = some sl) :
    s.flushAndTreat.HaltTreated sl (s.flushAndTreat.slot k) :=
  (State.foldl_treatSlot_spec allSlots (s.endAllQueued .halted) (by decide) (by decide) (mem_allSlots k)).1 sl
    ((State.endAllQueued_slot k).trans slot)

theorem State.flushAndTreat_free (free : s.slot k = none) : s.flushAndTreat.slot k = none :=
  (State.foldl_treatSlot_spec allSlots (s.endAllQueued .halted) (by decide) (by decide) (mem_allSlots k)).2
    ((State.endAllQueued_slot k).trans free)

/-- The entries of the flushed queue, from the head, and then those of the slots, in slot order (R76, R82, R104). -/
theorem State.flushAndTreat_history (s : State) : s.flushAndTreat.mvq.history = s.endedHistory
    (s.mvq.queue.map (fun x => (x, .halted)) ++ allSlots.filterMap (s.haltEnding s.flushAndTreat)) := by
  have flushed : (s.endAllQueued .halted).mvq.history = s.endedHistory (s.mvq.queue.map fun x => (x, .halted)) := by
    rw [State.endAllQueued_eq s rfl]
  have tbs : (s.endAllQueued .halted).tbs = s.tbs := by simp
  have slots (k : SlotId) := State.endAllQueued_slot (s := s) k
  unfold State.flushAndTreat
  obtain ⟨v, hv⟩ : ∃ v, s.endAllQueued .halted = v := ⟨_, rfl⟩
  simp only [hv] at flushed tbs slots ⊢
  have endings : v.haltEnding v.haltTreatment = s.haltEnding v.haltTreatment :=
    funext fun k => State.haltEnding_congr (slots k) rfl
  rw [← State.endedHistory_after tbs flushed, ← endings]
  exact State.foldl_treatSlot_history allSlots v (by decide)

theorem State.flushAndTreat_seqCounter (s : State) : s.flushAndTreat.mvq.seqCounter = s.mvq.seqCounter := by
  have turned := (State.SlotsTurned.refl (s.endAllQueued .halted)).foldl_treatSlot allSlots
  refine (congrArg Mvq.seqCounter turned.mvq).trans ?_
  rw [State.endAllQueued_eq s rfl]

theorem State.flushAndTreat_asserted (s : State) (h : HaltSource) : s.flushAndTreat.asserted h = s.asserted h := by
  cases h <;> simp [State.asserted]

/-! ### A completed level of a halt source's input -/

/-- The state at a sample that completes a level, with the record's status given, before what it brings about. -/
def State.sourceTaken (s : State) (i : InputLine) (r : InputRec) (active status : Bool) : State :=
  (s.atInstant (r.sampledAt + Config.ticksPerMs)).setInput i { r.completed active with status := status }

section
variable (source : haltSourceOf i = some h) (new : (high == r.polarityHigh) ≠ r.debounced)
  (full : r.debounce ≤ r.run.elim 0 (· + 1))
include source new full

theorem State.sampleInput_source (input : s.input i = r) : s.sampleInput i high =
    ((s.atInstant (r.sampledAt + Config.ticksPerMs)).setInput i
      (r.completed (high == r.polarityHigh))).followLevel i := by
  rw [State.sampleInput_complete input new full]
  cases i <;> cases source <;> rfl

theorem State.sampleInput_source_quiet (input : s.input i = r)
    (quiet : r.statusAfter (high == r.polarityHigh) = false ∨ r.status = true) : s.sampleInput i high =
      s.sourceTaken i r (high == r.polarityHigh) (r.statusAfter (high == r.polarityHigh)) := by
  rw [State.sampleInput_source source new full input]
  exact State.followLevel_quiet (.inr quiet)

theorem State.sampleInput_source_set (input : s.input i = r) (set : r.statusAfter (high == r.polarityHigh) = true)
    (was : r.status = false) :
    s.sampleInput i high = (s.sourceTaken i r (high == r.polarityHigh) true).haltEvent h := by
  rw [State.sampleInput_source source new full input]
  exact State.followLevel_asserts (r := r.completed (high == r.polarityHigh)) source set was

end

end Sys2Proof.Machine

open Sys2Proof Sys2Proof.Machine

/-- Settles O52: the status by its type; a halt event only of a masked source that becomes asserted; the flush and the
halt treatment slot by slot. -/
theorem maskedEdgeHalts : Obligations.MaskedEdgeHalts := by
  intro s i h r high source input new full
  dsimp only
  replace full : r.debounce ≤ r.run.elim 0 (· + 1) := full.trans_eq (by cases r.run <;> rfl)
  refine ⟨fun none => ?quiet, fun set was masked => ⟨fun b mode still => ?still, fun b mode running => ?running⟩⟩
  case quiet =>
    by_cases quiet : r.statusAfter (high == r.polarityHigh) = false ∨ r.status = true
    · exact settled_congr (State.sampleInput_source_quiet source new full input quiet)
    · rw [not_or, Bool.not_eq_false, Bool.not_eq_true] at quiet
      obtain ⟨set, was⟩ := quiet
      have unmasked : s.masked h = false := by
        rcases none with clear | was' | unmasked
        · exact absurd (set.symm.trans clear) nofun
        · exact absurd (was.symm.trans was') nofun
        · exact unmasked
      have taken := State.sampleInput_source_set source new full input set was
      rw [State.haltEvent_unmasked (s := s.sourceTaken i r _ true) unmasked, ← set] at taken
      exact settled_congr taken
  case still =>
    have taken := State.sampleInput_source_set source new full input set was
    rw [State.haltEvent_still (s := s.sourceTaken i r _ true) masked mode still, ← set] at taken
    exact settled_congr taken
  case running =>
    have taken := State.sampleInput_source_set source new full input set was
    rw [State.haltEvent_running (s := s.sourceTaken i r _ true) masked mode running] at taken
    rw [set]
    obtain ⟨w, hw⟩ : ∃ w, (s.sourceTaken i r (high == r.polarityHigh) true).stopping h = w := ⟨_, rfl⟩
    have mdc : w.mdc = { s.mdc with mode := s.stoppedMode } := hw ▸ rfl
    have ilu : w.ilu = { (s.sourceTaken i r (high == r.polarityHigh) true).ilu with haltRecord := s.haltEntered h } :=
      hw ▸ rfl
    have slots (k : SlotId) : w.slot k = s.slot k := hw ▸ rfl
    have mvq : w.mvq = s.mvq := hw ▸ rfl
    obtain ⟨now, params, fmu, tbs, bpl, esm, ports⟩ : w.now = max s.now (r.sampledAt + Config.ticksPerMs)
        ∧ w.params = s.params ∧ w.fmu = s.fmu ∧ w.tbs = s.tbs ∧ w.bpl = s.bpl ∧ w.esm = s.esm ∧ w.ports = s.ports :=
      hw ▸ ⟨rfl, rfl, rfl, rfl, rfl, rfl, rfl⟩
    have asserted : w.asserted h = true := by
      rw [← hw, State.asserted_of_source source]
      exact congrArg InputRec.status (State.input_setInput_same _ _ _)
    rw [hw] at taken
    obtain ⟨now', -, params', -, fmu', tbs', bpl', esm', ilu', mdc', ports', -⟩ := State.flushAndTreat_frame (s := w)
    have active : w.flushAndTreat.haltActive = true :=
      State.haltActive_of_asserted (h := h) (by rw [State.masked, params', params]; exact masked)
        ((State.flushAndTreat_asserted w h).trans asserted)
    have history := w.flushAndTreat_history
    have endings : w.haltEnding w.flushAndTreat = s.haltEnding w.flushAndTreat :=
      funext fun k => State.haltEnding_congr (slots k) rfl
    rw [endings, State.endedHistory, tbs, mvq] at history
    have treated (k : SlotId) (sl : Slot) (slot : s.slot k = some sl) :=
      State.flushAndTreat_slot ((slots k).trans slot)
    have free (k : SlotId) (slot : s.slot k = none) := State.flushAndTreat_free ((slots k).trans slot)
    have unlinked (x : MoveRec) (queued : x ∈ s.mvq.queue) := w.flushAndTreat_unlinked (mvq ▸ queued)
    have seqCounter := w.flushAndTreat_seqCounter.trans (congrArg Mvq.seqCounter mvq)
    have halt := w.flushAndTreat.settle_halt
    rw [State.modeName, mdc', mdc] at halt
    obtain ⟨queue, -⟩ := w.flushAndTreat_spec
    obtain ⟨t, ht⟩ : ∃ t, w.flushAndTreat = t := ⟨_, rfl⟩
    simp only [ht] at taken now' params' fmu' tbs' bpl' esm' ilu' mdc' ports'
    simp only [ht] at active history treated free unlinked queue seqCounter halt
    refine ⟨t.settle, settled_congr taken, mdc'.trans mdc, ilu'.trans ilu, active,
      (Bool.eq_iff_iff.mp halt).trans State.stoppedMode_halted, queue, seqCounter, unlinked, history, free,
      fun k sl slot => ?_, now'.trans now, params'.trans params, fmu'.trans fmu, tbs'.trans tbs, bpl'.trans bpl,
      esm'.trans esm, ports'.trans ports⟩
    obtain ⟨waitBreak, pulse, open_, returning⟩ := treated k sl slot
    exact ⟨waitBreak, pulse, open_, returning⟩
end

section
/-! The transfers in their slots (R69, R80, R86, R90, R104, R105): what is asked of each one while an actuation is on the
bus, and while the part is stopped or rides through. -/

namespace Sys2Proof.Machine

open Sys2Proof

variable {s t : State} {quiet : Bool} {k : SlotId} {sl x y : Slot}

/-! ### The actuation on the bus and the slot it was made for -/

/-- The transaction in progress is an actuation of a kind, made for the transfer of an admission order in a slot. -/
def State.Actuates (s : State) (k : SlotId) (order : Nat) (kind : ActKind) : Prop :=
  ∃ x before intended, s.sbc.txn = some x ∧ x.purpose = .actuation k order kind before intended

/-- No actuation is in progress for the transfer that a slot holds. -/
def State.Idle (s : State) (k : SlotId) : Prop := ∀ sl, s.slot k = some sl → ∀ kind, ¬ s.Actuates k sl.order kind

theorem State.Actuates.congr (txn : t.sbc.txn = s.sbc.txn) {order : Nat} {kind : ActKind} (h : t.Actuates k order kind) :
    s.Actuates k order kind := by
  obtain ⟨x, before, intended, running, purpose⟩ := h
  exact ⟨x, before, intended, txn ▸ running, purpose⟩

theorem State.not_actuates (none : s.sbc.txn = none) {order : Nat} {kind : ActKind} : ¬ s.Actuates k order kind := by
  rintro ⟨x, before, intended, running, -⟩
  simp [none] at running

theorem State.Idle.of_none (none : s.sbc.txn = none) : s.Idle k := fun _ _ _ => State.not_actuates none

/-- A slot goes on with its transfer, and no actuation is in progress for it still. -/
theorem State.Idle.setSlot (idle : s.Idle k) (slot : s.slot k = some x) (order : y.order = x.order) :
    (s.setSlot k (some y)).Idle k := by
  intro z hz kind acts
  rw [State.slot_setSlot_same] at hz
  rw [← Option.some.inj hz, order] at acts
  exact idle x slot kind (acts.congr rfl)

/-! ### What is asked of a transfer -/

/-- What halting leaves of a transfer: it waits for no break and no make, and one at BREAKING or MAKING has its cancel
requested (R104). -/
structure Slot.TurnedBack (sl : Slot) : Prop where
  waits : sl.stage ≠ .waitBreak ∧ sl.stage ≠ .gap ∧ sl.stage ≠ .waitMake
  pulse : sl.stage = .breaking ∨ sl.stage = .making → sl.record.cancel = true

/-- What a state asks of the transfer in a slot: admitted before, at the stage that an actuation in progress for it
brought; and where it is asked for, no new work while the part is stopped or rides through. -/
structure State.Fits (quiet : Bool) (s : State) (k : SlotId) (sl : Slot) : Prop where
  admitted : sl.order < s.txe.admitCount
  tied : ∀ kind, s.Actuates k sl.order kind → sl.stage = kind.stage
  noBreak : quiet = true → s.modeName = .rideThrough → sl.stage ≠ .waitBreak
  turned : quiet = true → s.stopped → sl.TurnedBack

/-- An actuation in progress is for a transfer admitted before, and every transfer fits. -/
structure State.TransfersKept (quiet : Bool) (s : State) : Prop where
  owners : ∀ k order kind, s.Actuates k order kind → order < s.txe.admitCount
  slots : ∀ k sl, s.slot k = some sl → s.Fits quiet k sl

/-- Without the rest asked for, the tie of an actuation to its slot alone. -/
theorem State.transfersKept_false : s.TransfersKept false ↔ s.actuationTied := by
  constructor
  · intro h
    exact ⟨fun k sl slot => (h.slots k sl slot).admitted, fun x k owner kind before intended running purpose =>
      ⟨h.owners k owner kind ⟨x, before, intended, running, purpose⟩, fun sl slot own =>
        (h.slots k sl slot).tied kind ⟨x, before, intended, running, own ▸ purpose⟩⟩⟩
  · rintro ⟨admitted, tied⟩
    refine ⟨fun k order kind ⟨x, before, intended, running, purpose⟩ =>
      (tied x k order kind before intended running purpose).1, fun k sl slot => ⟨admitted k sl slot, ?_, nofun, nofun⟩⟩
    rintro kind ⟨x, before, intended, running, purpose⟩
    exact (tied x k sl.order kind before intended running purpose).2 sl slot rfl

/-- The rest asked of the slots is that there is no new work (R104, R105). -/
theorem State.noNewWork_iff : s.noNewWork ↔ ∀ k sl, s.slot k = some sl →
    (s.modeName = .rideThrough → sl.stage ≠ .waitBreak) ∧ (s.stopped → sl.TurnedBack) := by
  have stage (k : SlotId) : s.slotStage k ≠ some .waitBreak ↔ ∀ sl, s.slot k = some sl → sl.stage ≠ .waitBreak := by
    cases slot : s.slot k with
    | none => simp [State.slotStage_of_none slot]
    | some sl => simp [State.slotStage_of_some slot]
  unfold State.noNewWork
  simp only [stage]
  constructor
  · rintro ⟨noBreak, turned⟩ k sl slot
    refine ⟨fun through => noBreak (.inr through) k sl slot, fun stopped => ?_⟩
    obtain ⟨gap, make, pulse⟩ := turned stopped k sl slot
    exact ⟨⟨noBreak (.inl stopped) k sl slot, gap, make⟩, pulse⟩
  · intro h
    refine ⟨fun still k sl slot => still.elim (fun stopped => ((h k sl slot).2 stopped).waits.1) (h k sl slot).1,
      fun stopped k sl slot => ?_⟩
    obtain ⟨⟨-, gap, make⟩, pulse⟩ := (h k sl slot).2 stopped
    exact ⟨gap, make, pulse⟩

/-! ### A transfer goes on -/

namespace State.Fits

/-- What a state asks of a transfer rests on the counter, the transaction in progress and the mode. -/
theorem congr (h : s.Fits quiet k sl) (count : t.txe.admitCount = s.txe.admitCount) (txn : t.sbc.txn = s.sbc.txn)
    (mode : t.mdc.mode = s.mdc.mode) : t.Fits quiet k sl where
  admitted := count ▸ h.admitted
  tied kind acts := h.tied kind (acts.congr txn)
  noBreak q through := h.noBreak q (by rwa [State.modeName, ← mode])
  turned q stopped := h.turned q (by rwa [State.stopped, ← mode])

/-- A transfer goes on at its stage; its cancel may be requested. -/
theorem same (h : s.Fits quiet k x) (order : y.order = x.order) (stage : y.stage = x.stage)
    (cancel : x.record.cancel = true → y.record.cancel = true) : s.Fits quiet k y where
  admitted := order ▸ h.admitted
  tied := by rw [order, stage]; exact h.tied
  noBreak := by rw [stage]; exact h.noBreak
  turned q stopped := by
    obtain ⟨waits, pulse⟩ := h.turned q stopped
    exact ⟨stage ▸ waits, fun p => cancel (pulse (stage ▸ p))⟩

/-- A transfer goes to another stage, while no actuation is in progress for it. -/
theorem restage (h : s.Fits quiet k x) (order : y.order = x.order) (idle : ∀ kind, ¬ s.Actuates k x.order kind)
    (noBreak : quiet = true → s.modeName = .rideThrough → y.stage ≠ .waitBreak)
    (turned : quiet = true → s.stopped → y.TurnedBack) : s.Fits quiet k y where
  admitted := order ▸ h.admitted
  tied kind acts := absurd (order ▸ acts) (idle kind)
  noBreak := noBreak
  turned := turned

/-- A transfer that goes to WAIT_RETURN or ORPHANED is turned back (R99, R101). -/
theorem back (h : s.Fits quiet k x) (order : y.order = x.order) (idle : ∀ kind, ¬ s.Actuates k x.order kind)
    (stage : y.stage = .waitReturn ∨ y.stage = .orphaned) : s.Fits quiet k y := by
  refine h.restage order idle (fun _ _ => ?_) fun _ _ => ⟨?_, ?_⟩ <;> rcases stage with stage | stage <;> simp [stage]

/-- Only a part that is not stopped takes a transfer on to GAP or WAIT_MAKE (R96, R97). -/
theorem onward (h : s.Fits quiet k x) (order : y.order = x.order) (idle : ∀ kind, ¬ s.Actuates k x.order kind)
    (runs : quiet = true → ¬ s.stopped) (stage : y.stage = .gap ∨ y.stage = .waitMake) : s.Fits quiet k y :=
  h.restage order idle (fun _ _ => by rcases stage with stage | stage <;> simp [stage]) fun q stopped =>
    absurd stopped (runs q)

/-- A stage that no grant brings is not that of an actuation in progress (R90). -/
theorem idle (h : s.Fits quiet k sl) (stage : ∀ kind : ActKind, sl.stage ≠ kind.stage) (kind : ActKind) :
    ¬ s.Actuates k sl.order kind := fun acts => stage kind (h.tied kind acts)

end State.Fits

namespace State.TransfersKept

theorem idle (h : s.TransfersKept quiet) (slot : s.slot k = some sl) (stage : ∀ kind : ActKind, sl.stage ≠ kind.stage) :
    s.Idle k := by
  intro x hx
  rw [slot] at hx
  exact Option.some.inj hx ▸ (h.slots k sl slot).idle stage

/-- A state whose slots hold what they held, or what the state before asks of them. -/
theorem of_slots (h : s.TransfersKept quiet) (count : t.txe.admitCount = s.txe.admitCount)
    (txn : t.sbc.txn = s.sbc.txn) (mode : t.mdc.mode = s.mdc.mode)
    (slots : ∀ k y, t.slot k = some y → s.slot k = some y ∨ s.Fits quiet k y) : t.TransfersKept quiet := by
  refine ⟨fun k order kind acts => count ▸ h.owners k order kind (acts.congr txn), fun k y hy => ?_⟩
  rcases slots k y hy with held | fits
  · exact (h.slots k y held).congr count txn mode
  · exact fits.congr count txn mode

/-- A change of neither the slots, nor the transaction in progress, nor the mode. -/
theorem of_eq (h : s.TransfersKept quiet) (txe : t.txe = s.txe) (txn : t.sbc.txn = s.sbc.txn)
    (mode : t.mdc.mode = s.mdc.mode) : t.TransfersKept quiet :=
  h.of_slots (by rw [txe]) txn mode fun k y hy => .inl (by rw [← hy, State.slot, State.slot, txe])

/-- A fold keeps what each of its steps keeps. -/
theorem foldl {α : Type} {f : State → α → State} (hf : ∀ u a, u.TransfersKept quiet → (f u a).TransfersKept quiet)
    (h : s.TransfersKept quiet) (l : List α) : (l.foldl f s).TransfersKept quiet := by
  induction l generalizing s with
  | nil => exact h
  | cons a l ih => exact ih (hf _ _ h)

/-- With every slot free and no transaction there is nothing to ask. -/
theorem of_empty (slots : ∀ k, s.slot k = none) (txn : s.sbc.txn = none) : s.TransfersKept quiet where
  owners _ _ _ acts := absurd acts (State.not_actuates txn)
  slots k sl slot := by simp [slots k] at slot

/-- The tie of an actuation to its slot, whatever else is asked for. -/
theorem tie (h : s.TransfersKept quiet) : s.TransfersKept false :=
  ⟨h.owners, fun k sl slot => { h.slots k sl slot with noBreak := nofun, turned := nofun }⟩

/-- What is asked for beside the tie, found in the slots themselves. -/
theorem of_work (h : s.TransfersKept false) (work : quiet = true → ∀ k sl, s.slot k = some sl →
    (s.modeName = .rideThrough → sl.stage ≠ .waitBreak) ∧ (s.stopped → sl.TurnedBack)) : s.TransfersKept quiet :=
  ⟨h.owners, fun k sl slot =>
    { h.slots k sl slot with
      noBreak := fun q => (work q k sl slot).1
      turned := fun q => (work q k sl slot).2 }⟩

/-! ### The updates of one field -/

theorem raise (h : s.TransfersKept quiet) {e : EventKind} : (s.raise e).TransfersKept quiet := h.of_eq rfl rfl rfl
theorem atInstant (h : s.TransfersKept quiet) {i : Nat} : (s.atInstant i).TransfersKept quiet := h.of_eq rfl rfl rfl
theorem settle (h : s.TransfersKept quiet) : s.settle.TransfersKept quiet := h.of_eq rfl rfl rfl

theorem setConn (h : s.TransfersKept quiet) {n : ConnId} {c : Conn} : (s.setConn n c).TransfersKept quiet :=
  h.of_eq rfl rfl rfl

theorem setPort (h : s.TransfersKept quiet) {lk : Link} {p : Port} : (s.setPort lk p).TransfersKept quiet :=
  h.of_eq rfl rfl rfl

theorem setInput (h : s.TransfersKept quiet) {i : InputLine} {r : InputRec} : (s.setInput i r).TransfersKept quiet :=
  h.of_eq rfl rfl rfl

theorem setChan (h : s.TransfersKept quiet) {p : Phase} {c : PhaseChannel} : (s.setChan p c).TransfersKept quiet :=
  h.of_eq rfl rfl rfl

theorem setNeutral (h : s.TransfersKept quiet) {n : Neutral} : (s.setNeutral n).TransfersKept quiet :=
  h.of_eq rfl rfl rfl

theorem setStore (h : s.TransfersKept quiet) {x : StoreState} : (s.setStore x).TransfersKept quiet :=
  h.of_eq rfl rfl rfl

theorem setSupply (h : s.TransfersKept quiet) {x : SupplyState} : (s.setSupply x).TransfersKept quiet :=
  h.of_eq rfl rfl rfl

/-- A transaction ends, or one that is no actuation begins. -/
theorem setTxn (h : s.TransfersKept quiet) (txe : t.txe = s.txe) (mode : t.mdc.mode = s.mdc.mode)
    (idle : ∀ k order kind, ¬ t.Actuates k order kind) : t.TransfersKept quiet := by
  refine ⟨fun k order kind acts => absurd acts (idle k order kind), fun k sl slot => ?_⟩
  have fits := h.slots k sl (by rw [← slot, State.slot, State.slot, txe])
  exact ⟨txe ▸ fits.admitted, fun kind acts => absurd acts (idle k _ kind),
    fun q through => fits.noBreak q (by rwa [State.modeName, ← mode]),
    fun q stopped => fits.turned q (by rwa [State.stopped, ← mode])⟩

theorem endTxn (h : s.TransfersKept quiet) : (s.setTxn none).TransfersKept quiet :=
  h.setTxn rfl rfl fun _ _ _ => State.not_actuates rfl

/-- A mode that is stopped, or rides through, only where the mode before was and did. -/
theorem setMode (h : s.TransfersKept quiet) {m : Mode} (stops : (s.setMode m).stopped → s.stopped)
    (rides : m.name = .rideThrough → s.modeName = .rideThrough) : (s.setMode m).TransfersKept quiet := by
  refine ⟨h.owners, fun k sl slot => ?_⟩
  have fits := h.slots k sl slot
  exact ⟨fits.admitted, fits.tied, fun q through => fits.noBreak q (rides through),
    fun q stopped => fits.turned q (stops stopped)⟩

/-- The tie of an actuation to its slot does not rest on the mode. -/
theorem tie_setMode (h : s.TransfersKept quiet) {m : Mode} : (s.setMode m).TransfersKept false :=
  ⟨h.owners, fun k sl slot => { h.tie.slots k sl slot with noBreak := nofun, turned := nofun }⟩

/-! ### Slots and endings -/

theorem setSlot (h : s.TransfersKept quiet) (fits : s.Fits quiet k y) : (s.setSlot k (some y)).TransfersKept quiet := by
  refine h.of_slots rfl rfl rfl fun j z hz => ?_
  rw [State.slot_setSlot] at hz
  split at hz
  · next own => exact .inr (own ▸ Option.some.inj hz ▸ fits)
  · exact .inl hz

/-- A slot goes on with its transfer at its stage; its cancel may be requested. -/
theorem modSlot (h : s.TransfersKept quiet) {f : Slot → Slot} (order : ∀ x, (f x).order = x.order)
    (stage : ∀ x, (f x).stage = x.stage) (cancel : ∀ x, x.record.cancel = true → (f x).record.cancel = true) :
    (s.modSlot k f).TransfersKept quiet := by
  unfold State.modSlot
  split
  · next x slot => exact h.setSlot ((h.slots k x slot).same (order x) (stage x) (cancel x))
  · exact h

theorem endRecord (h : s.TransfersKept quiet) {res : Result} : (s.endRecord k res).TransfersKept quiet := by
  cases slot : s.slot k with
  | none => simpa [State.endRecord, slot] using h
  | some sl =>
    refine h.of_slots ?_ (State.endRecord_txn slot res) (by simp) fun j y hy => .inl ?_
    · rw [State.endRecord_eq slot]
    · rw [State.endRecord_slot slot] at hy
      split at hy
      · simp at hy
      · exact hy

/-- A record goes back to the queue and its slot is free (R77). -/
theorem returnToQueue (h : s.TransfersKept quiet) : (s.returnToQueue k).TransfersKept quiet := by
  cases slot : s.slot k with
  | none => simpa [State.returnToQueue, slot] using h
  | some sl =>
    refine h.of_slots ?_ ?_ (by simp) fun j y hy => .inl ?_
    · rw [State.returnToQueue_eq slot]; rfl
    · rw [State.returnToQueue_eq slot]; rfl
    · rw [State.returnToQueue_slot] at hy
      split at hy
      · simp at hy
      · exact hy

theorem trimQueue (h : s.TransfersKept quiet) {fuel : Nat} : (State.trimQueue fuel s).TransfersKept quiet :=
  h.of_eq (by simp) (by simp) (by simp)

theorem handBack (h : s.TransfersKept quiet) : (s.handBack k).TransfersKept quiet := h.returnToQueue.trimQueue

theorem handBackAll (h : s.TransfersKept quiet) : s.handBackAll.TransfersKept quiet := by
  refine trimQueue (h.foldl (fun u k hu => ?_) allSlots)
  split
  · exact hu.returnToQueue
  · exact hu

theorem endAllQueued (h : s.TransfersKept quiet) {res : Result} : (s.endAllQueued res).TransfersKept quiet :=
  h.of_eq (by simp) (by simp) (by simp)

/-! ### Admission (R78 to R80) -/

/-- A record enters a free slot only while moves are allowed, under the next admission order. -/
theorem enterSlot (h : s.TransfersKept quiet) (allowed : s.movesAllowed = true) {r : MoveRec} :
    (s.enterSlot k r).TransfersKept quiet := by
  obtain ⟨u, hu⟩ : ∃ u, s.enterSlot k r = u := ⟨_, rfl⟩
  have count : u.txe.admitCount = s.txe.admitCount + 1 := hu ▸ rfl
  have slots (j : SlotId) : u.slot j = if j = k then some
      { record := r, stage := .waitBreak, order := s.txe.admitCount, lastAct := none, verifyDue := none, misses := 0 }
      else s.slot j := by
    rw [← hu]; exact s.slot_setSlot k j _
  have txn : u.sbc.txn = s.sbc.txn := hu ▸ rfl
  have mode : u.mdc.mode = s.mdc.mode := hu ▸ rfl
  have moving := State.movesAllowed_iff.mp allowed
  have below {j : SlotId} {order : Nat} {kind : ActKind} (acts : u.Actuates j order kind) :
      order < s.txe.admitCount := h.owners j order kind (acts.congr txn)
  have through : u.modeName ≠ .rideThrough := by
    rw [State.modeName, mode]
    rcases moving with e | e <;> simp [show s.mdc.mode.name = _ from e]
  have runs : ¬ u.stopped := by
    rw [State.stopped, mode]
    rintro (e | e) <;> simp [State.modeName, e, Mode.name, BaseMode.name] at moving
  rw [hu]
  refine ⟨fun j order kind acts => count ▸ (below acts).trans (Nat.lt_succ_self _), fun j y hy => ?_⟩
  rw [slots] at hy
  split at hy
  · rw [← Option.some.inj hy]
    exact ⟨count ▸ Nat.lt_succ_self _, fun kind acts => absurd (below acts) (lt_irrefl _),
      fun _ t => absurd t through, fun _ t => absurd t runs⟩
  · have fits := h.slots j y hy
    exact ⟨count ▸ fits.admitted.trans (Nat.lt_succ_self _), fun kind acts => fits.tied kind (acts.congr txn),
      fun _ t => absurd t through, fun _ t => absurd t runs⟩

theorem takeAdmission (h : s.TransfersKept quiet) : s.takeAdmission.TransfersKept quiet := by
  refine s.takeAdmission_keeps (TransfersKept quiet) (fun t k r rs ht allowed _ _ => ?_) h
  unfold State.examineHead
  split
  · exact ht.of_eq (by simp) (by simp) (by simp)
  · exact ht.enterSlot allowed

end State.TransfersKept

/-- With the rest asked for, that there is no new work beside it. -/
theorem State.transfersKept_true : s.TransfersKept true ↔ s.actuationTied ∧ s.noNewWork := by
  rw [State.noNewWork_iff, ← State.transfersKept_false]
  constructor
  · intro h
    exact ⟨h.tie, fun k sl slot => ⟨(h.slots k sl slot).noBreak rfl, (h.slots k sl slot).turned rfl⟩⟩
  · rintro ⟨h, work⟩
    exact h.of_work fun _ => work

end Sys2Proof.Machine
end

section
/-! The transfers in their slots, operation by operation: the Transfer Engine, the halt, the supply warning and the
inputs (chapters 5 and 8). -/

namespace Sys2Proof.Machine

open Sys2Proof

variable {s t : State} {quiet : Bool} {k : SlotId} {sl x y : Slot}

theorem State.modSlot_eq {f : Slot → Slot} (slot : s.slot k = some sl) : s.modSlot k f = s.setSlot k (some (f sl)) := by
  simp only [State.modSlot, slot]

theorem State.modSlot_of_free {f : Slot → Slot} (free : s.slot k = none) : s.modSlot k f = s := by
  simp only [State.modSlot, free]

/-- A slot changed with its transfer kept: no actuation is in progress for it still. -/
theorem State.Idle.modSlot (idle : s.Idle k) {f : Slot → Slot} (order : ∀ x, (f x).order = x.order) :
    (s.modSlot k f).Idle k := by
  cases slot : s.slot k with
  | none => rwa [State.modSlot_of_free slot]
  | some sl => rw [State.modSlot_eq slot]; exact idle.setSlot slot (order sl)

/-! ### The halt treatment of one slot (R104) -/

/-- A slot turned back, whatever its break time: at WAIT_RETURN, ORPHANED or free. -/
theorem State.treatSlot_turnedBack (h : (s.treatSlot k).slot k = some y) : y.TurnedBack := by
  have of_stage (stage : y.stage = .waitReturn ∨ y.stage = .orphaned ∨ y.stage = .returning) : y.TurnedBack := by
    rcases stage with stage | stage | stage <;> exact ⟨by simp [stage], by simp [stage]⟩
  cases slot : s.slot k with
  | none => simp [State.treatSlot_of_free slot, slot] at h
  | some sl =>
    have opened (stage : sl.stage = .gap ∨ sl.stage = .waitMake) : y.TurnedBack := by
      have turned := State.enterWaitReturn_stage slot
      rw [← State.treatSlot_of_open slot stage, State.slotStage_of_some h] at turned
      simp only [List.mem_cons, List.not_mem_nil, or_false, reduceCtorEq, false_or, Option.some.injEq] at turned
      exact of_stage (turned.imp_right .inl)
    have returning (stage : sl.stage = .waitReturn ∨ sl.stage = .returning ∨ sl.stage = .orphaned) :
        y.TurnedBack := by
      rw [State.treatSlot_of_returning slot stage, slot] at h
      exact of_stage (by rw [← Option.some.inj h]; tauto)
    have pulse (stage : sl.stage = .breaking ∨ sl.stage = .making) : y.TurnedBack := by
      rw [State.treatSlot_of_pulse slot stage, State.slot_setSlot_same] at h
      rw [← Option.some.inj h]
      exact ⟨by rcases stage with e | e <;> simp [Slot.cancelled, e], fun _ => rfl⟩
    cases stage : sl.stage
    case waitBreak =>
      rw [State.treatSlot_of_waitBreak slot stage, State.endRecord_slot slot, if_pos rfl] at h
      cases h
    case breaking => exact pulse (.inl stage)
    case making => exact pulse (.inr stage)
    case gap => exact opened (.inl stage)
    case waitMake => exact opened (.inr stage)
    case waitReturn => exact returning (.inl stage)
    case returning => exact returning (.inr (.inl stage))
    case orphaned => exact returning (.inr (.inr stage))

/-- After the halt treatment every transfer is turned back (R104). -/
theorem State.haltTreatment_turnedBack (h : s.haltTreatment.slot k = some y) : y.TurnedBack := by
  have treated (ks : List SlotId) : ∀ s : State, (k ∈ ks ∨ ∀ x, s.slot k = some x → x.TurnedBack) →
      ∀ x, (ks.foldl State.treatSlot s).slot k = some x → x.TurnedBack := by
    induction ks with
    | nil => exact fun s h => h.resolve_left (by simp)
    | cons j js ih =>
      refine fun s h => ih (s.treatSlot j) ?_
      by_cases own : k = j
      · exact .inr fun x hx => State.treatSlot_turnedBack (own ▸ hx)
      · refine h.imp (fun mem => (List.mem_cons.mp mem).resolve_left own) fun before x hx => before x ?_
        rwa [← State.OnlySlot.refl.treatSlot.others k own]
  exact treated allSlots s (.inl (mem_allSlots k)) y h

namespace State.TransfersKept

/-! ### The stages a transfer waits at (R87, R88, R96 to R101) -/

theorem enterOrphaned (h : s.TransfersKept quiet) (idle : s.Idle k) : (s.enterOrphaned k).TransfersKept quiet := by
  unfold State.enterOrphaned
  split
  · next sl slot =>
    have orphaned := h.setSlot (y := { sl with stage := .orphaned, verifyDue := some (s.sbc.frame + 1) })
      ((h.slots k sl slot).back rfl (idle sl slot) (.inr rfl))
    dsimp only
    split
    · exact orphaned.endRecord
    · exact orphaned
  · exact h

theorem holdWaitReturn (h : s.TransfersKept quiet) (idle : s.Idle k) : (s.holdWaitReturn k).TransfersKept quiet := by
  unfold State.holdWaitReturn
  split
  · split
    · exact h.enterOrphaned idle
    · exact h
  · exact h

theorem enterWaitReturn (h : s.TransfersKept quiet) (idle : s.Idle k) : (s.enterWaitReturn k).TransfersKept quiet := by
  refine holdWaitReturn ?_ (idle.modSlot fun _ => rfl)
  unfold State.modSlot
  split
  · next sl slot => exact h.setSlot ((h.slots k sl slot).back rfl (idle sl slot) (.inl rfl))
  · exact h

/-- Only a part that is not stopped sends a transfer on to its make (R97, R104). -/
theorem enterWaitMake (h : s.TransfersKept quiet) (idle : s.Idle k) (runs : quiet = true → ¬ s.stopped) :
    (s.enterWaitMake k).TransfersKept quiet := by
  unfold State.enterWaitMake
  split
  · next sl slot =>
    have waits := h.setSlot (y := { sl with stage := .waitMake, verifyDue := none })
      ((h.slots k sl slot).onward rfl (idle sl slot) runs (.inr rfl))
    have idle := idle.setSlot (y := { sl with stage := .waitMake, verifyDue := none }) slot rfl
    dsimp only
    split
    · exact waits.enterWaitReturn idle
    · split
      · exact waits.enterOrphaned idle
      · exact waits
  · exact h

theorem confirmBreak (h : s.TransfersKept quiet) : (s.confirmBreak k).TransfersKept quiet :=
  h.modSlot (fun _ => rfl) (fun _ => rfl) fun _ => id

theorem enterGap (h : s.TransfersKept quiet) (idle : s.Idle k) (runs : quiet = true → ¬ s.stopped) :
    (s.enterGap k).TransfersKept quiet := by
  unfold State.enterGap
  cases slot : s.slot k with
  | none =>
    simp only [State.modSlot_of_free slot, slot]
    exact h
  | some sl =>
    have gap := h.setSlot (y := { sl with stage := .gap, verifyDue := none })
      ((h.slots k sl slot).onward rfl (idle sl slot) runs (.inl rfl))
    simp only [State.modSlot_eq slot, State.slot_setSlot_same]
    split
    · exact gap.enterWaitMake (idle.setSlot slot rfl) runs
    · exact gap

/-- A transfer whose break did not open waits again only while the part runs (R94, R95, R105). -/
theorem backToWaitBreak (h : s.TransfersKept quiet) (idle : s.Idle k) (runs : quiet = true → ¬ s.stopped) :
    (s.backToWaitBreak k).TransfersKept quiet := by
  unfold State.backToWaitBreak
  split
  · next sl slot =>
    split
    · exact h.endRecord
    · split
      · exact h.handBack
      · next base =>
        exact h.setSlot ((h.slots k sl slot).restage rfl (idle sl slot) (fun _ through => absurd through base)
          fun q stopped => absurd stopped (runs q))
  · exact h

/-! ### What reaches the slots from outside (R74, R88, R97, R103, R104) -/

theorem requestCancel (h : s.TransfersKept quiet) : (s.requestCancel k).TransfersKept quiet :=
  h.modSlot (fun _ => rfl) (fun _ => rfl) fun _ _ => rfl

/-- A transfer that waits with its module open is turned back. -/
theorem turnBack_open (h : s.TransfersKept quiet) (stage : s.slotStage k = some .gap ∨ s.slotStage k = some .waitMake) :
    (s.enterWaitReturn k).TransfersKept quiet := by
  cases slot : s.slot k with
  | none => simp [State.slotStage_of_none slot] at stage
  | some sl =>
    rw [State.slotStage_of_some slot, Option.some.injEq, Option.some.injEq] at stage
    exact h.enterWaitReturn (h.idle slot fun kind => by rcases stage with e | e <;> cases kind <;> simp [e, ActKind.stage])

theorem cancelSlot (h : s.TransfersKept quiet) : (s.cancelSlot k).TransfersKept quiet := by
  unfold State.cancelSlot
  dsimp only
  split
  case h_1 => exact h.requestCancel.endRecord
  case h_2 stage => exact h.requestCancel.turnBack_open (.inl stage)
  case h_3 stage => exact h.requestCancel.turnBack_open (.inr stage)
  all_goals exact h.requestCancel

theorem treatSlot (h : s.TransfersKept quiet) : (s.treatSlot k).TransfersKept quiet := by
  unfold State.treatSlot
  split
  case h_1 => exact h.endRecord
  case h_2 | h_3 => exact h.requestCancel
  case h_4 stage => exact h.turnBack_open (.inl stage)
  case h_5 stage => exact h.turnBack_open (.inr stage)
  all_goals exact h

theorem recheckSlot (h : s.TransfersKept quiet) : (s.recheckSlot k).TransfersKept quiet := by
  unfold State.recheckSlot
  split
  · next sl slot =>
    split
    case h_1 stage =>
      split
      · exact h.turnBack_open (.inr (by rw [State.slotStage_of_some slot, stage]))
      · exact h
    case h_2 stage =>
      exact h.holdWaitReturn (h.idle slot fun kind => by cases kind <;> simp [stage, ActKind.stage])
    all_goals exact h
  · exact h

theorem recheckSlots (h : s.TransfersKept quiet) : s.recheckSlots.TransfersKept quiet :=
  h.foldl (fun _ _ hu => hu.recheckSlot) _

/-! ### The halt (R104, R155, R171) -/

/-- A flush and halt treatment turns every transfer back, so the mode that it is made in asks for no more. -/
theorem flushAndTreat (h : s.TransfersKept false) : s.flushAndTreat.TransfersKept quiet := by
  have treated : s.flushAndTreat.TransfersKept false := h.endAllQueued.foldl (fun _ _ hu => hu.treatSlot) _
  have turned (k : SlotId) (sl : Slot) (slot : s.flushAndTreat.slot k = some sl) : sl.TurnedBack :=
    State.haltTreatment_turnedBack slot
  exact treated.of_work fun _ k sl slot => ⟨fun _ => (turned k sl slot).waits.1, fun _ => turned k sl slot⟩

theorem haltMode (h : s.TransfersKept quiet) : s.haltMode.TransfersKept quiet := by
  unfold State.haltMode
  split
  case h_5 | h_6 | h_7 | h_8 => exact h
  all_goals exact h.tie_setMode.flushAndTreat

theorem haltEvent (h : s.TransfersKept quiet) {x : HaltSource} : (s.haltEvent x).TransfersKept quiet := by
  unfold State.haltEvent
  split
  · exact (h.of_eq (t := s.enterHalt x) (by simp) (by simp) (by simp)).haltMode
  · exact h

theorem setMapFault (h : s.TransfersKept quiet) : s.setMapFault.TransfersKept quiet := by
  unfold State.setMapFault
  split
  · exact h
  · exact (h.of_eq (t := { s with ilu := { s.ilu with mapFault := true } }) rfl rfl rfl).haltEvent

theorem endTransfer (h : s.TransfersKept quiet) {res : Result} : (s.endTransfer k res).TransfersKept quiet := by
  unfold State.endTransfer
  split
  · exact h.endRecord.setMapFault
  · exact h.endRecord

/-! ### The supply warning (R105, R158, R172) -/

/-- Ride-through begins: every slot at WAIT_BREAK is freed, and the part is stopped as it was. -/
theorem supplyStart (h : s.TransfersKept quiet) : s.supplyStart.TransfersKept quiet := by
  unfold State.supplyStart
  split
  · next m mode =>
    obtain ⟨u, hu⟩ : ∃ u, (s.setMode (.rideThrough m)).handBackAll = u := ⟨_, rfl⟩
    have tied : u.TransfersKept false := hu ▸ h.tie_setMode.handBackAll
    have rides : u.mdc.mode = .rideThrough m := by rw [← hu]; simp [State.setMode]
    have stops : u.stopped → s.stopped := by
      rw [State.stopped, rides]
      rintro (e | e)
      · cases e
      · exact .inl (mode.trans (congrArg Mode.base (Mode.rideThrough.inj e)))
    have slots (k : SlotId) (sl : Slot) (slot : u.slot k = some sl) : s.slot k = some sl ∧ sl.stage ≠ .waitBreak := by
      rw [← hu, (State.handBackAll_spec _).2.1] at slot
      split at slot
      · cases slot
      · next other => exact ⟨slot, fun e => other ((State.slotStage_of_some slot).trans (congrArg some e))⟩
    rw [hu]
    refine tied.of_work fun q k sl slot => ?_
    obtain ⟨before, waits⟩ := slots k sl slot
    exact ⟨fun _ => waits, fun stopped => (h.slots k sl before).turned q (stops stopped)⟩
  · exact h

end State.TransfersKept
end Sys2Proof.Machine
end

section
/-! The choice of a grant (R138): the requests that the slots present, and the one that no other outranks. -/

namespace Sys2Proof.Machine

open Sys2Proof

variable {s t : State} {k : SlotId} {sl : Slot} {p : Presented} {kind : ActKind}

/-! ### The best of a list of requests -/

theorem outranks_eq_false {x y : Presented} : outranks x y = false ↔
    y.kind.rank < x.kind.rank ∨ (y.kind.rank = x.kind.rank ∧ y.order ≤ x.order) := by
  rw [← Bool.not_eq_true]
  simp only [outranks, Bool.or_eq_true, Bool.and_eq_true, decide_eq_true_eq, beq_iff_eq]
  omega

theorem bestPresented_eq_none {l : List Presented} : bestPresented l = none ↔ l = [] := by
  cases l with
  | nil => simp [bestPresented]
  | cons x l =>
    simp only [bestPresented]
    split
    · split <;> simp
    · simp

/-- The best is one of the requests, and none outranks it. -/
theorem bestPresented_spec {l : List Presented} (best : bestPresented l = some p) :
    p ∈ l ∧ ∀ x ∈ l, outranks x p = false := by
  induction l generalizing p with
  | nil => cases best
  | cons x l ih =>
    have self (z : Presented) : outranks z z = false := outranks_eq_false.mpr (.inr ⟨rfl, le_rfl⟩)
    simp only [bestPresented] at best
    split at best
    · next y later =>
      obtain ⟨mem, least⟩ := ih later
      split at best
      · next wins =>
        cases best
        refine ⟨List.mem_cons_of_mem _ mem, fun z hz => ?_⟩
        rcases List.mem_cons.mp hz with rfl | hz
        · simp only [outranks, Bool.or_eq_true, Bool.and_eq_true, decide_eq_true_eq, beq_iff_eq] at wins
          exact outranks_eq_false.mpr (by omega)
        · exact least z hz
      · next loses =>
        cases best
        refine ⟨List.mem_cons_self, fun z hz => ?_⟩
        rcases List.mem_cons.mp hz with rfl | hz
        · exact self z
        · have yx := outranks_eq_false.mp (Bool.not_eq_true _ ▸ loses)
          have zy := outranks_eq_false.mp (least z hz)
          exact outranks_eq_false.mpr (by omega)
    · next last =>
      cases best
      rw [bestPresented_eq_none.mp last]
      exact ⟨List.mem_cons_self, fun z hz => by rw [List.mem_singleton.mp hz]; exact self _⟩

/-! ### The requests presented (R89) -/

theorem ActKind.rank_inj {x y : ActKind} (h : x.rank = y.rank) : x = y := by
  cases x <;> cases y <;> simp [ActKind.rank] at h ⊢

/-- The stage at which a slot presents a request of a kind (R89). -/
def ActKind.waits : ActKind → Stage
  | .brk => .waitBreak
  | .make => .waitMake
  | .ret => .waitReturn

theorem State.request_stage (h : s.request sl = some kind) : sl.stage = kind.waits := by
  unfold State.request at h
  cases stage : sl.stage <;> simp only [stage] at h
  case waitBreak =>
    split at h
    · cases h; rfl
    · cases h
  case waitMake =>
    split at h
    · cases h
    · cases h; rfl
  case waitReturn =>
    split at h
    · cases h; rfl
    · cases h
  all_goals cases h

theorem State.mem_presented : p ∈ s.presented ↔
    ∃ sl, s.slot p.slot = some sl ∧ s.request sl = some p.kind ∧ sl.order = p.order := by
  simp only [State.presented, List.mem_filterMap, mem_allSlots, true_and]
  constructor
  · rintro ⟨k, own⟩
    split at own
    · next sl slot =>
      obtain ⟨kind, request, rfl⟩ := Option.map_eq_some_iff.mp own
      exact ⟨sl, slot, request, rfl⟩
    · cases own
  · rintro ⟨sl, slot, request, order⟩
    refine ⟨p.slot, ?_⟩
    simp only [slot, request, Option.map_some, order]

/-! ### The choice (R138) -/

/-- The choice falls on a request presented to a READY store, and no other outranks it. -/
theorem State.chosen_spec (h : s.chosen = some p) :
    s.esm.store = .ready ∧ p ∈ s.presented ∧ ∀ x ∈ s.presented, outranks x p = false := by
  unfold State.chosen at h
  split at h
  · next ready => exact ⟨ready, bestPresented_spec h⟩
  · cases h

theorem State.chosen_of_not_ready (h : s.esm.store ≠ .ready) : s.chosen = none := if_neg h

theorem State.chosen_of_ready (ready : s.esm.store = .ready) : s.chosen = none ↔ s.presented = [] := by
  rw [State.chosen, if_pos ready, bestPresented_eq_none]

/-- The slot a grant falls on, at the stage that waits for it. -/
theorem State.chosen_slot (h : s.chosen = some p) :
    ∃ sl, s.slot p.slot = some sl ∧ s.request sl = some p.kind ∧ sl.order = p.order :=
  State.mem_presented.mp (State.chosen_spec h).2.1

theorem State.grantStep_of_none (h : s.chosen = none) : s.grantStep = s := by
  simp only [State.grantStep, h]

theorem State.grantStep_of_some (h : s.chosen = some p) (slot : s.slot p.slot = some sl) :
    s.grantStep = s.grant p sl := by
  simp only [State.grantStep, h, slot]

theorem State.grant_slot (s : State) (p : Presented) (sl : Slot) (j : SlotId) : (s.grant p sl).slot j =
    if j = p.slot then some (grantedSlot sl p.kind (s.namedPhase sl.record p.kind) s.sbc.frame) else s.slot j :=
  s.slot_setSlot p.slot j _

end Sys2Proof.Machine
end

section
/-! The transfers in their slots, operation by operation: the inputs and the mode, replies and misses, frames and units,
crossings (chapters 2, 6, 8 and 9). -/

namespace Sys2Proof.Machine

open Sys2Proof

variable {s t : State} {quiet : Bool} {k : SlotId} {sl x y : Slot}

theorem State.told_mdc (s : State) (p : Phase) : (s.told p).mdc = s.mdc := by
  unfold State.told
  split
  · split <;> simp
  · simp
  all_goals rfl

namespace State.TransfersKept

/-! ### The mode and the inputs -/

/-- A mode in which no part is stopped begins with an admission (R165). -/
theorem enterMode (h : s.TransfersKept quiet) {m : BaseMode} (stops : m = .halted → s.stopped) :
    (s.enterMode m).TransfersKept quiet := by
  refine (h.setMode ?_ fun through => by cases m <;> cases through).takeAdmission
  rintro (e | e)
  · exact stops (Mode.base.inj e)
  · cases e

theorem qualifiedClear (h : s.TransfersKept quiet) : s.qualifiedClear.TransfersKept quiet := by
  unfold State.qualifiedClear
  split
  · next m mode => exact h.enterMode fun e => .inr (mode.trans (congrArg Mode.rideThrough e))
  · exact h

theorem supplyChanged (h : s.TransfersKept quiet) {b : Bool} : (s.supplyChanged b).TransfersKept quiet := by
  unfold State.supplyChanged
  split
  · exact h.setSupply.supplyStart
  · exact h.setSupply
  · exact h.setSupply
  all_goals exact h

theorem setStatus (h : s.TransfersKept quiet) {i : InputLine} {v : Bool} : (s.setStatus i v).TransfersKept quiet := by
  unfold State.setStatus
  dsimp only
  split
  · split
    · exact h.setInput.haltEvent
    · exact h.setInput
  · exact h.setInput

theorem followLevel (h : s.TransfersKept quiet) {i : InputLine} : (s.followLevel i).TransfersKept quiet := by
  unfold State.followLevel
  dsimp only
  split
  · exact h.setStatus
  · split
    · exact h.setStatus
    · exact h

theorem debouncedChanged (h : s.TransfersKept quiet) {i : InputLine} :
    (s.debouncedChanged i).TransfersKept quiet := by
  unfold State.debouncedChanged
  dsimp only
  split
  · exact h.followLevel.of_eq rfl rfl rfl
  · exact h.followLevel.supplyChanged
  all_goals exact h.followLevel

theorem sampleInput (h : s.TransfersKept quiet) {i : InputLine} {b : Bool} :
    (s.sampleInput i b).TransfersKept quiet := by
  unfold State.sampleInput
  dsimp only
  split
  · exact h.atInstant.setInput
  · split
    · exact h.atInstant.setInput.debouncedChanged
    · exact h.atInstant.setInput

/-! ### Status replies (R92 to R95, R98, R100, R101) -/

theorem clearMisses (h : s.TransfersKept quiet) : (s.clearMisses k).TransfersKept quiet :=
  h.modSlot (fun _ => rfl) (fun _ => rfl) fun _ => id

/-- A stopped part has the cancel of every transfer at BREAKING or MAKING requested. -/
theorem runs_of_uncancelled (h : s.TransfersKept quiet) (slot : s.slot k = some sl)
    (stage : sl.stage = .breaking ∨ sl.stage = .making) (cancel : sl.record.cancel = false) (q : quiet = true) :
    ¬ s.stopped := fun stopped => by
  have cancelled := ((h.slots k sl slot).turned q stopped).pulse stage
  rw [cancel] at cancelled
  cases cancelled

theorem verifyBreaking (h : s.TransfersKept quiet) (idle : s.Idle k) (slot : s.slot k = some sl)
    (stage : sl.stage = .breaking) {c : Option Phase} : (s.verifyBreaking k sl c).TransfersKept quiet := by
  have confirmed : (s.confirmBreak k).Idle k := idle.modSlot fun _ => rfl
  have runs (cancel : ¬ sl.record.cancel = true) := h.runs_of_uncancelled slot (.inl stage) (Bool.not_eq_true _ ▸ cancel)
  unfold State.verifyBreaking
  split
  · split
    · exact h.confirmBreak.enterWaitReturn confirmed
    · next cancel =>
      exact h.confirmBreak.enterGap confirmed fun q stopped => runs cancel q (by simpa [State.stopped] using stopped)
  · split
    · split
      · exact h.endTransfer
      · next cancel =>
        split
        · exact h.backToWaitBreak idle (runs cancel)
        · exact h.endTransfer
    · exact h.endTransfer

theorem verifyMaking (h : s.TransfersKept quiet) (idle : s.Idle k) (slot : s.slot k = some sl)
    (stage : sl.stage = .making) {c : Option Phase} : (s.verifyMaking k sl c).TransfersKept quiet := by
  unfold State.verifyMaking
  split
  · split
    · next again => exact h.enterWaitMake idle (h.runs_of_uncancelled slot (.inr stage) again.2)
    · exact h.enterWaitReturn idle
  · split <;> exact h.endTransfer

theorem verifyReturning (h : s.TransfersKept quiet) (idle : s.Idle k) {c : Option Phase} :
    (s.verifyReturning k sl c).TransfersKept quiet := by
  unfold State.verifyReturning
  split
  · split
    · exact h.enterWaitReturn idle
    · exact h.endTransfer
  · split <;> exact h.endTransfer

theorem seeClosed (h : s.TransfersKept quiet) {c : Option Phase} : (s.seeClosed k sl c).TransfersKept quiet := by
  unfold State.seeClosed
  split
  · exact h
  · exact h.endTransfer

theorem statusAtWaitBreak (h : s.TransfersKept quiet) {c : Option Phase} :
    (s.statusAtWaitBreak k sl c).TransfersKept quiet := by
  unfold State.statusAtWaitBreak
  split
  · exact h.endTransfer
  · split
    · exact h.endTransfer
    · exact h

theorem statusToSlot (h : s.TransfersKept quiet) {c : Option Phase} : (s.statusToSlot k c).TransfersKept quiet := by
  unfold State.statusToSlot
  dsimp only
  split
  · split
    case h_1 => exact h.clearMisses.statusAtWaitBreak
    case h_2 | h_3 | h_4 => exact h.clearMisses
    all_goals exact h.clearMisses.seeClosed
  · exact h.clearMisses

/-- The reply to a verify poll decides the stage, when the poll's transaction is over (R92). -/
theorem verifyDecision (h : s.TransfersKept quiet) (ended : s.sbc.txn = none) {c : Option Phase} :
    (s.verifyDecision k c).TransfersKept quiet := by
  have cleared := h.clearMisses (k := k)
  have idle : (s.clearMisses k).Idle k := .of_none (by simpa using ended)
  unfold State.verifyDecision
  dsimp only
  split
  · next sl slot =>
    split
    case h_1 stage => exact cleared.verifyBreaking idle slot stage
    case h_2 stage => exact cleared.verifyMaking idle slot stage
    case h_3 => exact cleared.verifyReturning idle
    case h_4 =>
      refine (cleared.setSlot ?_).seeClosed
      exact (cleared.slots k sl slot).same rfl rfl id
    case h_5 => exact cleared.statusAtWaitBreak
    all_goals exact cleared.seeClosed
  · exact cleared

theorem verifyMissed (h : s.TransfersKept quiet) : (s.verifyMissed k).TransfersKept quiet := by
  unfold State.verifyMissed
  split
  · next sl slot =>
    split
    · exact h.endTransfer
    · exact h.setSlot ((h.slots k sl slot).same rfl rfl id)
  · exact h

theorem applyReply (h : s.TransfersKept quiet) {n : ConnId} {r : StatusReport} :
    (s.applyReply n r).TransfersKept quiet := h.of_eq (by simp) (by simp) (by simp)

theorem statusTaken (h : s.TransfersKept quiet) {n : ConnId} {r : StatusReport} :
    (s.statusTaken n r).TransfersKept quiet := by
  unfold State.statusTaken
  dsimp only
  split
  · exact h.applyReply.statusToSlot
  · exact h.applyReply

theorem verifyTaken (h : s.TransfersKept quiet) (ended : s.sbc.txn = none) {owner : Nat} {n : ConnId}
    {r : StatusReport} : (s.verifyTaken k owner n r).TransfersKept quiet := by
  unfold State.verifyTaken
  split
  · exact h.applyReply.verifyDecision (by simpa using ended)
  · exact h.statusTaken

/-! ### Outcomes of actuations (R91) -/

theorem setVerifyDue (h : s.TransfersKept quiet) {f : Word} : (s.setVerifyDue k f).TransfersKept quiet :=
  h.modSlot (fun _ => rfl) (fun _ => rfl) fun _ => id

/-- The slot acts on the outcome of an actuation that is over and had brought it to its stage. -/
theorem slotOutcome (h : s.TransfersKept quiet) (ended : s.sbc.txn = none) {kind : ActKind}
    (stage : ∀ sl, s.slot k = some sl → sl.stage = kind.stage) {f : Word} {o : ActOutcome} :
    (s.slotOutcome k kind f o).TransfersKept quiet := by
  have idle : s.Idle k := .of_none ended
  unfold State.slotOutcome
  split
  · exact h
  · next sl slot =>
    split
    · exact h.setVerifyDue
    · exact h.setVerifyDue
    · exact h.endTransfer
    · exact h.endTransfer
    · exact h.setVerifyDue
    · split
      · next again => exact h.enterWaitMake idle (h.runs_of_uncancelled slot (.inr (stage sl slot)) again.2)
      · exact h.enterWaitReturn idle
    · exact h.enterWaitReturn idle
    · exact h.setVerifyDue
    · split
      · exact h.enterWaitReturn idle
      · exact h.endTransfer

theorem actuationOutcome (h : s.TransfersKept quiet) (ended : s.sbc.txn = none) {n : ConnId} {owner : Nat}
    {kind : ActKind} (stage : ∀ sl, s.slot k = some sl → sl.order = owner → sl.stage = kind.stage)
    {b i : Confirmed} {o : ActOutcome} : (s.actuationOutcome n k owner kind b i o).TransfersKept quiet := by
  obtain ⟨u, hu⟩ : ∃ u, s.ctbOutcome n b i o = u := ⟨_, rfl⟩
  have taken : u.TransfersKept quiet := hu ▸ h.of_eq (by simp) (by simp) (by simp)
  have txn : u.sbc.txn = none := by rw [← hu]; simpa using ended
  have slots (j : SlotId) : u.slot j = s.slot j := by rw [← hu]; simp [State.slot]
  have stored {v : State} (hv : v.TransfersKept quiet) : (v.storeOutcome n v.sbc.frame o).TransfersKept quiet :=
    hv.of_eq (by simp) (by simp) (by simp)
  unfold State.actuationOutcome
  simp only [hu]
  refine stored ?_
  split
  · next owned =>
    refine taken.slotOutcome txn fun sl slot => stage sl (slots k ▸ slot) ?_
    simpa [State.owned, slot] using owned
  · exact taken

theorem finishQuery (h : s.TransfersKept quiet) {n : ConnId} {b : List Byte} :
    (s.finishQuery n b).TransfersKept quiet := by
  refine h.of_eq (by simp) ?_ (by simp)
  unfold State.finishQuery
  split
  · dsimp only
    split <;> rfl
  · rfl

/-! ### The transaction in progress (R113, R114) -/

theorem pollMissed (h : s.TransfersKept quiet) {n : ConnId} : (s.pollMissed n).TransfersKept quiet := by
  refine h.of_eq (by simp) ?_ (by simp)
  unfold State.pollMissed
  dsimp only
  split
  · split <;> rfl
  · rfl

/-- An actuation in progress is over: its transfer, if the slot still holds it, is at the stage the grant brought. -/
theorem outcome (h : s.TransfersKept quiet) {x : Transaction} (txn : s.sbc.txn = some x) {owner : Nat} {kind : ActKind}
    {b i : Confirmed} (purpose : x.purpose = .actuation k owner kind b i) {o : ActOutcome} :
    ((s.setTxn none).actuationOutcome x.conn k owner kind b i o).TransfersKept quiet :=
  h.endTxn.actuationOutcome rfl fun sl slot own => (h.slots k sl slot).tied kind ⟨x, b, i, txn, own ▸ purpose⟩

theorem missTransaction (h : s.TransfersKept quiet) : s.missTransaction.TransfersKept quiet := by
  unfold State.missTransaction
  split
  · exact h
  · next x txn =>
    dsimp only
    split
    · exact h.endTxn.pollMissed
    · exact h.endTxn.pollMissed
    · split
      · exact h.endTxn.verifyMissed
      · exact h.endTxn
    · next purpose => exact h.outcome txn purpose
    · exact h.endTxn.finishQuery

theorem takeReply (h : s.TransfersKept quiet) {x : Transaction} (txn : s.sbc.txn = some x) {m : List Byte} :
    (s.takeReply x m).TransfersKept quiet := by
  unfold State.takeReply
  dsimp only
  split
  case h_1 | h_2 =>
    split
    · exact h.endTxn.statusTaken
    · exact h.missTransaction
  case h_3 =>
    split
    · exact h.endTxn.verifyTaken rfl
    · exact h.missTransaction
  case h_4 purpose =>
    split
    · exact h.outcome txn purpose
    · exact h.missTransaction
  case h_5 =>
    split
    · exact h.endTxn.statusTaken.finishQuery
    · exact h.missTransaction

theorem takeMessage (h : s.TransfersKept quiet) {m : Arrival} : (s.takeMessage m).TransfersKept quiet := by
  unfold State.takeMessage
  split
  · exact h
  · split
    · exact h
    · next x txn =>
      split
      · exact h.takeReply txn
      · exact h.missTransaction

/-! ### Frames and units (R90, R109, R115) -/

theorem noteFrameEnds (h : s.TransfersKept quiet) : s.noteFrameEnds.TransfersKept quiet :=
  h.foldl (fun u _ hu => hu.modSlot (f := fun sl => { sl with lastAct := sl.lastAct.map (noteFrameEnd u.sbc.frame u.now) })
    (fun _ => rfl) (fun _ => rfl) fun _ => id) _

/-- A grant brings its slot to the stage of its kind, and the actuation it starts is for that transfer (R90, R114). -/
theorem grantStep (h : s.TransfersKept quiet) : s.grantStep.TransfersKept quiet := by
  cases chosen : s.chosen with
  | none => rwa [State.grantStep_of_none chosen]
  | some p =>
    obtain ⟨sl, slot, request, -⟩ := State.chosen_slot chosen
    have fits := h.slots p.slot sl slot
    have waits := State.request_stage request
    rw [State.grantStep_of_some chosen slot]
    have acts {j : SlotId} {order : Nat} {kind : ActKind} (a : (s.grant p sl).Actuates j order kind) :
        j = p.slot ∧ order = sl.order ∧ kind = p.kind := by
      obtain ⟨x, b, i, txn, purpose⟩ := a
      rw [← Option.some.inj txn] at purpose
      cases purpose
      exact ⟨rfl, rfl, rfl⟩
    have cancel : (countAttempt sl.record p.kind).cancel = sl.record.cancel := by cases p.kind <;> rfl
    refine ⟨fun j order kind a => (acts a).2.1 ▸ fits.admitted, fun j y hy => ?_⟩
    rw [State.grant_slot] at hy
    split at hy
    · next own =>
      rw [← Option.some.inj hy]
      refine ⟨fits.admitted, fun kind a => congrArg ActKind.stage (acts a).2.2.symm, fun _ _ => ?_, fun q stopped => ?_⟩
      · cases p.kind <;> simp [grantedSlot, ActKind.stage]
      · have turned := (fits.turned q stopped).waits
        rw [waits] at turned
        cases kind : p.kind <;> simp [kind, ActKind.waits] at turned
        exact ⟨by simp [grantedSlot, ActKind.stage], by simp [grantedSlot, ActKind.stage]⟩
    · next other =>
      have fits := h.slots j y hy
      exact ⟨fits.admitted, fun kind a => absurd (acts a).1 other, fits.noBreak, fits.turned⟩

theorem openFrame (h : s.TransfersKept quiet) : s.recoveryTick.openFrame.TransfersKept quiet :=
  h.of_eq (by simp) (by simp [State.openFrame]) (by simp)

theorem frameBoundary (h : s.TransfersKept quiet) : s.frameBoundary.TransfersKept quiet :=
  h.missTransaction.noteFrameEnds.openFrame.grantStep

theorem beginUnit (h : s.TransfersKept quiet) : s.beginUnit.TransfersKept quiet := by
  have begun {u : State} (hu : u.TransfersKept quiet) {n : Nat} :
      State.TransfersKept quiet { u with sbc := { u.sbc with unit := n, sent := [] } } := hu.of_eq rfl rfl rfl
  unfold State.beginUnit
  dsimp only
  refine begun ?_
  split
  · split
    · exact h.atInstant.missTransaction
    · exact h.atInstant
  · exact h.atInstant

/-- The arbiter starts no actuation (R115). -/
theorem arbitrate (h : s.TransfersKept quiet) {u : Nat} : (s.arbitrate u).TransfersKept quiet := by
  have started {v : State} (hv : v.TransfersKept quiet) {units : Nat} {n : ConnId} {p : Purpose} {b : List Byte}
      (other : ∀ k owner kind before intended, p ≠ .actuation k owner kind before intended) :
      (v.startTxn u units n p b).TransfersKept quiet := by
    refine hv.setTxn rfl rfl ?_
    rintro k order kind ⟨x, before, intended, txn, purpose⟩
    rw [← Option.some.inj txn] at purpose
    exact other _ _ _ _ _ purpose
  unfold State.arbitrate
  split
  · unfold State.startVerify
    dsimp only
    exact started (h.of_eq (by rfl) (by rfl) (by rfl)) (by nofun)
  · unfold State.startQuery
    dsimp only
    exact started (h.of_eq (by rfl) (by rfl) (by rfl)) (by nofun)
  · unfold State.startProbe
    dsimp only
    exact started (h.of_eq (by rfl) (by rfl) (by rfl)) (by nofun)
  · unfold State.startSurvey
    split
    · exact h.of_eq rfl rfl rfl
    · dsimp only
      exact started (h.of_eq (by rfl) (by rfl) (by rfl)) (by nofun)
  · exact h

/-! ### Crossings (R28, R34, R35) -/

/-- A change of health reaches the slots only to have them work out where they stand. -/
theorem healthChanged (h : s.TransfersKept quiet) {p : Phase} {old : Health} :
    (s.healthChanged p old).TransfersKept quiet := by
  by_cases same : s.health p = old
  · rwa [State.healthChanged_of_same same]
  · rw [State.healthChanged_of_changed same]
    obtain ⟨-, txe, sbc, -⟩ := (s.leaving old).told_frame p
    obtain ⟨n, realigned⟩ := ((s.leaving old).told p).realign_eq
    have txn : ((s.leaving old).told p).realign.sbc.txn = s.sbc.txn := by
      rw [realigned]
      exact (congrArg Sbc.txn sbc :)
    exact (h.of_eq (by simp only [State.realign_frame, txe]; rfl) txn
      (by simp only [State.realign_frame, State.told_mdc]; rfl)).recheckSlots

theorem positiveCrossing (h : s.TransfersKept quiet) {p : Phase} {x : Nat} {y : Sums} :
    (s.positiveCrossing p x y).TransfersKept quiet := by
  have closed := h.of_eq (t := s.closeNeutralWindow p (completedCycle s.period (s.chan p).cycle x)) (by simp) (by simp)
    (by simp)
  have reported {u : State} (hu : u.TransfersKept quiet) :
      ((u.openNeutralWindow p x).reportCrossing p).TransfersKept quiet := by
    refine hu.of_eq (by simp) ?_ (by simp)
    unfold State.reportCrossing
    split <;> simp
  unfold State.positiveCrossing
  dsimp only
  refine reported ?_
  split
  · exact closed.setChan.setChan.healthChanged
  · exact closed.setChan

theorem takeSample (h : s.TransfersKept quiet) {p : Phase} {v i : Int} : (s.takeSample p v i).TransfersKept quiet := by
  have sampled {c : PhaseChannel} :
      ((s.atInstant ((s.chan p).sampledAt + (s.chan p).interval)).setChan p c).TransfersKept quiet := h.of_eq rfl rfl rfl
  unfold State.takeSample
  dsimp only
  split
  · split <;> split <;> exact sampled
  · split
    · exact sampled
    · split
      · split
        · exact sampled.positiveCrossing
        · exact sampled
      · exact sampled

theorem neutralWindow (h : s.TransfersKept quiet) {x : Nat} : (s.neutralWindow x).TransfersKept quiet := by
  unfold State.neutralWindow
  dsimp only
  split
  · exact h.setNeutral.haltEvent
  · exact h.setNeutral

end State.TransfersKept
end Sys2Proof.Machine
end

section
/-! The transfers in their slots, command by command: every request of the catalogue and every event keeps an actuation
tied to its slot, and begins no new work while the part is stopped or rides through. -/

namespace Sys2Proof.Machine

open Sys2Proof

variable {s t : State} {quiet : Bool} {k : SlotId}

/-! ### What the answers of requests keep

A property of states that the effect of a request keeps is kept by its answer, refusals among them. -/

section
variable {kept : State → Prop} {α : Type} {lk : Link} {arg : Option α}

theorem controlled_keeps {effect : α → State → Answered} (h : kept s) (effects : ∀ a, kept (effect a s).1) :
    kept (controlled lk arg effect s).1 := by
  unfold controlled
  split
  · split
    · exact effects _
    · exact h
  · exact h

theorem gated_keeps {gate : State → Option Status} {effect : α → State → Answered} (h : kept s)
    (effects : ∀ a, kept (effect a s).1) : kept (gated lk gate arg effect s).1 := by
  unfold gated
  split
  · split
    · exact h
    · split
      · exact effects _
      · exact h
  · exact h

theorem readWith_keeps {reply : α → State → List Byte} (h : kept s) : kept (readWith arg reply s).1 := by
  unfold readWith
  split <;> exact h

theorem answered_ite_keeps {P : Prop} [Decidable P] {x y : Answered} (hx : kept x.1) (hy : kept y.1) :
    kept (if P then x else y).1 := by
  split
  · exact hx
  · exact hy

theorem perConnection_keeps {arg : Option ConnId} {effect : ConnId → State → Answered} (h : kept s)
    (effects : ∀ n, kept (effect n s).1) : kept (perConnection lk arg effect s).1 :=
  controlled_keeps h fun n => answered_ite_keeps (effects n) h

theorem unlessInSlot_keeps {n : ConnId} {effect : State → Answered} (h : kept s) (effects : kept (effect s).1) :
    kept (unlessInSlot n effect s).1 :=
  answered_ite_keeps h effects

/-- A request is taken at a free port and dropped at an answering one (R176). -/
theorem takeRequest_keeps {code tag : Byte} {body : State → Answered}
    (ports : ∀ (u : State) (p : Port), kept u → kept (u.setPort lk p)) (bodies : ∀ u : State, kept u → kept (body u).1)
    (h : kept s) : kept (takeRequest lk code tag body s) := by
  unfold takeRequest
  split
  · exact ports _ _ h
  · have taken := bodies _ (ports s ((s.port lk).asked code tag) h)
    dsimp only
    split
    · exact ports _ _ taken
    · exact taken

end

namespace State.TransfersKept

/-! ### Requests that reach the slots, the bus or the mode -/

theorem doMove (h : s.TransfersKept quiet) (lk : Link) (payload : List Byte) :
    (doMove lk payload s).1.TransfersKept quiet := gated_keeps h fun a => by
  split
  · exact h
  · exact h.of_eq (by simp [acceptMove, okWith]) (by simp [acceptMove, okWith]) (by simp [acceptMove, okWith])
  · exact h

theorem doCancel (h : s.TransfersKept quiet) (lk : Link) (payload : List Byte) :
    (doCancel lk payload s).1.TransfersKept quiet := controlled_keeps h fun q => by
  split
  · next r _ => exact h.of_eq (t := s.endQueued r .cancelled) (by simp) (by simp) (by simp)
  · split
    · exact h.cancelSlot
    · exact h

/-- RESTART leaves every slot free (R173). -/
theorem restart (h : s.TransfersKept quiet) : s.restart.TransfersKept quiet := by
  obtain ⟨v, abandoned, restarted⟩ := s.restart_eq
  have count : s.restart.txe.admitCount = s.txe.admitCount := by rw [restarted, State.restarted, abandoned.rest]; rfl
  have txn : s.restart.sbc.txn = s.sbc.txn := by rw [restarted, State.restarted, abandoned.rest]; rfl
  have free (k : SlotId) : s.restart.slot k = none := by
    rw [restarted]
    exact (abandoned.slot k).trans (if_pos (mem_allSlots k))
  refine ⟨fun k order kind acts => count ▸ h.owners k order kind (acts.congr txn), fun k sl slot => ?_⟩
  simp [free k] at slot

theorem writeType (h : s.TransfersKept quiet) {i : InputLine} {level : Bool} :
    (s.writeType i level).TransfersKept quiet := by
  unfold State.writeType
  dsimp only
  split
  · exact h.setInput.setStatus
  · exact h.setInput

theorem writeParam (h : s.TransfersKept quiet) {p : Param} {v : Int} (written : s.writeParam p v = some t) :
    t.TransfersKept quiet := by
  have mapped {α : Type} {x : Option α} {f : α → State} (e : x.map f = some t) (hf : ∀ a, (f a).TransfersKept quiet) :
      t.TransfersKept quiet := by
    obtain ⟨a, -, rfl⟩ := Option.map_eq_some_iff.mp e
    exact hf a
  cases p with
  | nominal | chatterHold | rescue | polarity => exact mapped written fun _ => h.of_eq rfl rfl rfl
  | inputType i =>
    obtain ⟨level, rfl⟩ := State.writeParam_inputType written
    exact h.writeType
  | _ => exact Option.some.inj written ▸ h.of_eq rfl rfl rfl

theorem doSetParam (h : s.TransfersKept quiet) (lk : Link) (payload : List Byte) :
    (doSetParam lk payload s).1.TransfersKept quiet :=
  controlled_keeps h fun p => answered_ite_keeps h <| by
    unfold storeValue
    split
    · split
      · next written => exact h.writeParam written
      · exact h
    · exact h

theorem doQueryModule (h : s.TransfersKept quiet) (lk : Link) (payload : List Byte) :
    (doQueryModule lk payload s).1.TransfersKept quiet := by
  unfold Machine.doQueryModule
  split
  · exact h
  · exact answered_ite_keeps h (h.of_eq rfl rfl rfl)

theorem doGetParam (h : s.TransfersKept quiet) (payload : List Byte) :
    (doGetParam payload s).1.TransfersKept quiet := by
  unfold Machine.doGetParam
  split
  · split <;> exact h
  · exact h

theorem doUnpin (h : s.TransfersKept quiet) (lk : Link) (payload : List Byte) :
    (doUnpin lk payload s).1.TransfersKept quiet := by
  refine answered_ite_keeps ?_ h
  split
  · exact answered_ite_keeps h.setConn h
  · exact h

theorem emptyHaltRecord (h : s.TransfersKept quiet) : s.emptyHaltRecord.TransfersKept quiet := h.of_eq rfl rfl rfl

/-- A request that sets the part to MANUAL or AUTO (R166). -/
theorem runMode (h : s.TransfersKept quiet) {m : BaseMode} (runs : m ≠ .halted) : (s.enterMode m).TransfersKept quiet :=
  h.enterMode fun e => absurd e runs

/-- CONFIGURE: no part in CONFIG is stopped or rides through. -/
theorem configMode (h : s.TransfersKept quiet) : (s.setMode (.base .config)).TransfersKept quiet :=
  h.setMode (by rintro (e | e) <;> cases e) nofun

/-- Every request of the catalogue. -/
theorem commandBody (h : s.TransfersKept quiet) (lk : Link) (payload : List Byte) (c : Command) :
    (commandBody lk payload c s).1.TransfersKept quiet := by
  have moded (P : Prop) [Decidable P] {m : BaseMode} (runs : m ≠ .halted) :
      (if P then s else s.enterMode m).TransfersKept quiet := by
    split
    · exact h
    · exact h.runMode runs
  cases c with
  | status | readConn | readTable | readPhases | readPlan | readQueue | readSlots | readHistory | readEvents
  | readInputs => exact readWith_keeps h
  | getParam => exact h.doGetParam payload
  | queryModule => exact h.doQueryModule lk payload
  | move => exact h.doMove lk payload
  | cancel => exact h.doCancel lk payload
  | pin | hold | release => exact perConnection_keeps h fun _ => unlessInSlot_keeps h h.setConn
  | setAllowance => exact controlled_keeps h fun _ => answered_ite_keeps h.setConn h
  | configConn => exact gated_keeps h fun _ => h.setConn
  | setClass => exact gated_keeps h fun _ => h.of_eq rfl rfl rfl
  | setParam => exact h.doSetParam lk payload
  | start =>
    exact gated_keeps h fun _ => answered_ite_keeps h (answered_ite_keeps h (h.emptyHaltRecord.runMode nofun))
  | autoOn | autoOff => exact gated_keeps h fun _ => moded _ nofun
  | configure => exact gated_keeps h fun _ => answered_ite_keeps h (answered_ite_keeps h.configMode h)
  | resume => exact gated_keeps h fun _ => answered_ite_keeps h (h.emptyHaltRecord.runMode nofun)
  | esRetry =>
    refine controlled_keeps h fun _ => ?_
    split
    · exact h.of_eq (by simp [okWith]) (by simp [okWith]) (by simp [okWith])
    · exact h
  | clearEvents => exact controlled_keeps h fun _ => h.of_eq rfl rfl rfl
  | clearInputs => exact controlled_keeps h fun _ => h.of_eq (by simp [okWith]) (by simp [okWith]) (by simp [okWith])
  | setTime => exact controlled_keeps h fun _ => h.of_eq (by simp [okWith]) (by simp [okWith]) (by simp [okWith])
  | restart => exact controlled_keeps h fun _ => h.restart
  | unpin => exact h.doUnpin lk payload

theorem takeRequest (h : s.TransfersKept quiet) {lk : Link} {code tag : Byte} {body : State → Answered}
    (bodies : ∀ u : State, u.TransfersKept quiet → (body u).1.TransfersKept quiet) :
    (takeRequest lk code tag body s).TransfersKept quiet :=
  takeRequest_keeps (fun _ _ hu => hu.setPort) bodies h

theorem takeFrame (h : s.TransfersKept quiet) (lk : Link) (code tag : Byte) (payload : List Byte) :
    (takeFrame lk code tag payload s).TransfersKept quiet :=
  h.takeRequest fun u hu => by
    unfold requestBody
    split
    · exact hu.commandBody lk payload _
    · exact hu

theorem takeByte (h : s.TransfersKept quiet) (lk : Link) (b : Byte) : (s.takeByte lk b).TransfersKept quiet := by
  unfold State.takeByte
  split
  · exact h.setPort
  · exact h.takeFrame lk _ _ _

theorem takeGap (h : s.TransfersKept quiet) (lk : Link) (b : Bool) : (s.takeGap lk b).TransfersKept quiet := by
  unfold State.takeGap
  split
  · exact h
  · split
    · exact h.setPort
    · exact h.atInstant.setPort

/-! ### The instants of a transfer (R87, R96, R101) -/

theorem toSlotInstant (h : s.TransfersKept quiet) {instant : State → MoveRec → Option Nat} :
    (s.toSlotInstant k instant).TransfersKept quiet := by
  unfold State.toSlotInstant
  split
  · exact h.atInstant
  · exact h

/-- The gap is over: only a part that is not stopped holds a transfer at GAP (R97, R104). -/
theorem gapPoint (h : s.TransfersKept quiet) {sl : Slot} (slot : s.slot k = some sl) (stage : sl.stage = .gap) :
    (s.enterWaitMake k).TransfersKept quiet :=
  h.enterWaitMake (h.idle slot fun kind => by cases kind <;> simp [stage, ActKind.stage])
    fun q stopped => ((h.slots k sl slot).turned q stopped).waits.2.1 stage

theorem orphanDeadline (h : s.TransfersKept quiet) {sl : Slot} (slot : s.slot k = some sl)
    (stage : sl.stage = .waitMake ∨ sl.stage = .waitReturn) : (s.enterOrphaned k).TransfersKept quiet :=
  h.enterOrphaned (h.idle slot fun kind => by rcases stage with e | e <;> cases kind <;> simp [e, ActKind.stage])

/-! ### Commands -/

theorem select (h : s.TransfersKept quiet) : s.select.TransfersKept quiet := by
  unfold State.select
  split
  · exact h
  · exact h.of_eq rfl rfl rfl

theorem clockFall (h : s.TransfersKept quiet) : s.clockFall.TransfersKept quiet := by
  unfold State.clockFall
  split
  · exact h.of_eq rfl rfl rfl
  · exact h

theorem tick (h : s.TransfersKept quiet) : s.tick.TransfersKept quiet := h.of_eq (by simp) (by simp) (by simp)

/-- A command that answers a state it has settled. -/
theorem of_next {x : State} (h : x.TransfersKept quiet)
    (e : (.next x.settle : Host.Outcome State Fault Refusal) = .next t) : t.TransfersKept quiet := by
  cases e
  exact h.settle

/-- A command that settles one of two states, as its condition says. -/
theorem of_ite {P : Prop} [Decidable P] {x y : State} (hx : P → x.TransfersKept quiet) (hy : y.TransfersKept quiet)
    (e : (if P then .next x.settle else .next y.settle : Host.Outcome State Fault Refusal) = .next t) :
    t.TransfersKept quiet := by
  split at e
  · next holds => exact (hx holds).of_next e
  · exact hy.of_next e

end State.TransfersKept

/-- Every command keeps what is asked of the transfers in their slots. -/
theorem exec_transfersKept (c : Instr) (h : s.TransfersKept quiet) (e : exec c s = .next t) : t.TransfersKept quiet := by
  have request {lk : Link} {tag : Byte} {payload : List Byte} (c : Command)
      (e : (.next (takeRequest lk c.code tag (commandBody lk payload c) s).settle : Host.Outcome State Fault Refusal)
        = .next t) : t.TransfersKept quiet := (h.takeRequest fun _ hu => hu.commandBody lk payload c).of_next e
  have message (m : Arrival) (e : (.next (s.takeMessage m).settle : Host.Outcome State Fault Refusal) = .next t) :
      t.TransfersKept quiet := h.takeMessage.of_next e
  have byte (lk : Link) (b : Byte) (e : (.next (s.takeByte lk b).settle : Host.Outcome State Fault Refusal) = .next t) :
      t.TransfersKept quiet := (h.takeByte lk b).of_next e
  have sample (p : Phase) (v i : Int)
      (e : (.next (s.takeSample p v i).settle : Host.Outcome State Fault Refusal) = .next t) :
      t.TransfersKept quiet := h.takeSample.of_next e
  have line (i : InputLine) (b : Bool)
      (e : (.next (s.sampleInput i b).settle : Host.Outcome State Fault Refusal) = .next t) :
      t.TransfersKept quiet := h.sampleInput.of_next e
  cases c with
  | powerOnReset lines mV low =>
    exact (State.TransfersKept.of_empty (s := powerOn lines mV low s) State.reset_slot rfl).of_next e
  | status => exact request .status e
  | readConn => exact request .readConn e
  | readTable => exact request .readTable e
  | readPhases => exact request .readPhases e
  | readPlan => exact request .readPlan e
  | readQueue => exact request .readQueue e
  | readSlots => exact request .readSlots e
  | readHistory => exact request .readHistory e
  | readEvents => exact request .readEvents e
  | readInputs => exact request .readInputs e
  | getParam => exact request .getParam e
  | queryModule => exact request .queryModule e
  | move => exact request .move e
  | cancel => exact request .cancel e
  | pin => exact request .pin e
  | unpin => exact request .unpin e
  | hold => exact request .hold e
  | release => exact request .release e
  | setAllowance => exact request .setAllowance e
  | configConn => exact request .configConn e
  | setClass => exact request .setClass e
  | setParam => exact request .setParam e
  | start => exact request .start e
  | autoOn => exact request .autoOn e
  | autoOff => exact request .autoOff e
  | configure => exact request .configure e
  | resume => exact request .resume e
  | esRetry => exact request .esRetry e
  | clearEvents => exact request .clearEvents e
  | clearInputs => exact request .clearInputs e
  | setTime => exact request .setTime e
  | restart => exact request .restart e
  | linkFrameDiscarded lk b => exact byte lk b e
  | linkByteReceived lk b => exact byte lk b e
  | linkGapTimeout lk b => exact (h.takeGap lk b).of_next e
  | unknownCommand lk code tag payload => exact (h.takeFrame lk code tag payload).of_next e
  | replySent lk => exact h.setPort.of_next e
  | acceptedCrossing p v i => exact sample p v i e
  | samplePair p v i => exact sample p v i e
  | noCrossingLoss p =>
    exact State.TransfersKept.of_ite (fun _ => h) h.atInstant.setChan.healthChanged e
  | neutralWindowEnd samples =>
    have taken : s.takeWindow.TransfersKept quiet := h.of_eq (by simp) (by simp) (by simp)
    exact State.TransfersKept.of_ite (fun _ => taken.neutralWindow) h e
  | secondTick => exact h.tick.of_next e
  | dayRollover => exact State.TransfersKept.of_ite (fun _ => h.tick) h e
  | epochEnd =>
    exact (h.of_eq (t := s.takeOwedEnd) (by simp) (by simp) (by simp)).of_next e
  | debounceComplete i b => exact line i b e
  | inputSample i b => exact line i b e
  | supplyClearingTimeout =>
    simp only [exec, execSupplyClearingTimeout] at e
    split at e
    · exact h.atInstant.setSupply.qualifiedClear.of_next e
    all_goals exact h.of_next e
  | storeVoltageRenewal mV => exact (h.of_eq (by simp) (by simp) (by simp)).of_next e
  | chargeTimeout =>
    simp only [exec, execChargeTimeout] at e
    split at e
    · exact h.atInstant.setStore.haltEvent.of_next e
    all_goals exact h.of_next e
  | recoveryEnd =>
    simp only [exec, execRecoveryEnd] at e
    split at e
    · exact State.TransfersKept.of_ite (fun _ => h.of_eq (by simp) (by simp) (by simp)) h e
    · exact h.of_next e
  | frameBoundary =>
    simp only [exec, execFrameBoundary] at e
    split at e
    · exact h.atInstant.frameBoundary.of_next e
    · exact h.of_next e
  | unitStart =>
    simp only [exec, execUnitStart] at e
    split at e
    · exact State.TransfersKept.of_ite (fun _ => h.beginUnit) h.beginUnit.arbitrate e
    · exact h.of_next e
  | pollReply m => exact message m e
  | actuationReply m => exact message m e
  | passThroughReply m => exact message m e
  | transactionMissed => exact h.missTransaction.of_next e
  | gapPoint k =>
    simp only [exec, execGapPoint] at e
    split at e
    · next slot => exact State.TransfersKept.of_ite (fun due => h.toSlotInstant.gapPoint slot due.1) h.toSlotInstant e
    · exact h.toSlotInstant.of_next e
  | orphanDeadline k =>
    simp only [exec, execOrphanDeadline] at e
    split at e
    · next slot =>
      exact State.TransfersKept.of_ite (fun due => h.toSlotInstant.orphanDeadline slot due.1) h.toSlotInstant e
    · exact h.toSlotInstant.of_next e
  | darkDeadline k =>
    simp only [exec, execDarkDeadline] at e
    split at e
    · exact State.TransfersKept.of_ite (fun _ => h.toSlotInstant.endRecord) h.toSlotInstant e
    · exact h.toSlotInstant.of_next e
  | admission => exact h.takeAdmission.of_next e
  | summarySelect => exact h.select.of_next e
  | summaryDeselect => exact (h.of_eq (t := s.deselect) rfl rfl rfl).of_next e
  | summaryClockFallingEdge => exact h.clockFall.of_next e

end Sys2Proof.Machine

open Sys2Proof Sys2Proof.Machine

/-- Settles O11: by what is asked of the transfers in their slots, kept operation by operation, with the absence of new
work asked for. -/
theorem noNewBreakWhileStopped : Obligations.NoNewBreakWhileStopped := by
  intro c s t tied idle e
  exact (State.transfersKept_true.mp (exec_transfersKept c (State.transfersKept_true.mpr ⟨tied, idle⟩) e)).2

/-- Settles O10: by the same property, the tie alone asked for. -/
theorem actuationTiedToItsSlot : Obligations.ActuationTiedToItsSlot := by
  intro c s t tied e
  exact State.transfersKept_false.mp (exec_transfersKept c (State.transfersKept_false.mpr tied) e)
end

section
/-! The frame boundary (R109): the transaction cut by it, the frame it opens, and the grant made at its step 5. -/

namespace Sys2Proof.Machine

open Sys2Proof

variable {s t : State} {k : SlotId} {sl : Slot} {p : Presented} {i : Nat}

/-! ### The transaction that the boundary cuts (R111, R113) -/

theorem State.slotOutcome_missed_sbc (s : State) (k : SlotId) (kind : ActKind) (f : Word) :
    (s.slotOutcome k kind f .missed).sbc = s.sbc := by
  unfold State.slotOutcome
  split
  · rfl
  · cases kind <;> simp

theorem State.missTransaction_of_idle (idle : s.sbc.txn = none) : s.missTransaction = s := by
  simp only [State.missTransaction, idle]

/-- A transaction missed is over; of the bus beside it only the verify polls, the probes and the queries may change. -/
theorem State.missTransaction_sbc (s : State) : ∃ polls probes queries, s.missTransaction.sbc =
    { s.sbc with txn := none, verifyPolls := polls, lastProbe := probes, queries := queries } := by
  unfold State.missTransaction
  split
  · next idle => exact ⟨s.sbc.verifyPolls, s.sbc.lastProbe, s.sbc.queries, by rw [← idle]⟩
  · dsimp only
    split
    case h_1 | h_2 =>
      unfold State.pollMissed
      dsimp only
      split
      · split <;> exact ⟨_, _, _, rfl⟩
      · exact ⟨_, _, _, rfl⟩
    case h_3 =>
      split
      · unfold State.verifyMissed
        split
        · next slot =>
          split
          · rw [State.endTransfer_of_ne (by decide), State.endRecord_eq slot]
            exact ⟨_, _, _, rfl⟩
          · exact ⟨_, _, _, rfl⟩
        · exact ⟨_, _, _, rfl⟩
      · exact ⟨_, _, _, rfl⟩
    case h_4 =>
      refine ⟨_, _, _, (?_ : _ = (s.setTxn none).sbc)⟩
      simp only [State.actuationOutcome, State.storeOutcome_frame]
      split
      · rw [State.slotOutcome_missed_sbc]
        simp
      · simp
    case h_5 =>
      unfold State.finishQuery
      split
      · dsimp only
        split <;> exact ⟨_, _, _, rfl⟩
      · exact ⟨_, _, _, rfl⟩

/-! ### A request without a rival (R138) -/

/-- A READY store with a request grants (R138). -/
theorem State.chosen_ne_none {kind : ActKind} (ready : s.esm.store = .ready) (slot : s.slot k = some sl)
    (request : s.request sl = some kind) : s.chosen ≠ none := fun none => by
  have presented : (⟨k, kind, sl.order⟩ : Presented) ∈ s.presented := State.mem_presented.mpr ⟨sl, slot, request, rfl⟩
  rw [(State.chosen_of_ready ready).mp none] at presented
  cases presented

theorem State.chosen_of_lone {kind : ActKind} (ready : s.esm.store = .ready) (slot : s.slot k = some sl)
    (request : s.request sl = some kind) (alone : ∀ j, j ≠ k → s.slot j = none) :
    s.chosen = some ⟨k, kind, sl.order⟩ := by
  obtain ⟨⟨j, asked, order⟩, chosen⟩ := Option.ne_none_iff_exists'.mp (State.chosen_ne_none ready slot request)
  obtain ⟨x, held, asks, rfl⟩ := State.chosen_slot chosen
  obtain rfl : j = k := by
    by_contra other
    cases (alone j other).symm.trans held
  cases slot.symm.trans held
  cases request.symm.trans asks
  exact chosen

/-- The actuation goes out after what the frame has sent before (R90, R116). -/
theorem State.grant_sent (s : State) (p : Presented) (sl : Slot) : (s.grant p sl).sbc.sent =
    s.sbc.sent ++ [actuationMessage sl.record.conn (s.namedPhase sl.record p.kind) (s.timing sl.record.conn)] := rfl

/-! ### The frame ends noted (R87) -/

/-- A slot whose last actuation takes the end of its frame. -/
def Slot.noted (sl : Slot) (frame : Word) (now : Nat) : Slot :=
  { sl with lastAct := sl.lastAct.map (noteFrameEnd frame now) }

theorem State.modSlot_slot (s : State) (k j : SlotId) (f : Slot → Slot) :
    (s.modSlot k f).slot j = if j = k then (s.slot j).map f else s.slot j := by
  unfold State.modSlot
  split
  · next sl slot =>
    rw [State.slot_setSlot]
    split
    · next own => rw [own, slot]; rfl
    · rfl
  · next free =>
    split
    · next own => rw [own, free]; rfl
    · rfl

theorem State.noteFrameEnds_slot (s : State) (j : SlotId) :
    s.noteFrameEnds.slot j = (s.slot j).map (·.noted s.sbc.frame s.now) := by
  have noted (ks : List SlotId) : ks.Nodup → ∀ s : State, (ks.foldl (fun s k => s.modSlot k fun sl =>
      { sl with lastAct := sl.lastAct.map (noteFrameEnd s.sbc.frame s.now) }) s).slot j =
        if j ∈ ks then (s.slot j).map (·.noted s.sbc.frame s.now) else s.slot j := by
    induction ks with
    | nil => exact fun _ _ => rfl
    | cons k ks ih =>
      intro distinct s
      obtain ⟨fresh, distinct⟩ := List.nodup_cons.mp distinct
      rw [List.foldl_cons, ih distinct, State.modSlot_slot]
      by_cases own : j = k
      · subst own
        simp [fresh, Slot.noted]
      · simp [own]
  rw [State.noteFrameEnds, noted allSlots (by decide), if_pos (mem_allSlots j)]

/-! ### The state before the grant -/

/-- The bus at step 5 of R109: the frame that has opened, with the marker sent and nothing in progress. -/
theorem State.beforeGrant_sbc (s : State) (i : Nat) :
    (s.beforeGrant i).sbc.frame = s.sbc.frame + 1 ∧ (s.beforeGrant i).sbc.boundaryAt = max s.now i
      ∧ (s.beforeGrant i).sbc.boundaryDue = false ∧ (s.beforeGrant i).sbc.unit = 0
      ∧ (s.beforeGrant i).sbc.unitLength = s.period / 13 ∧ (s.beforeGrant i).sbc.framePeriod = s.period
      ∧ (s.beforeGrant i).sbc.sent = [frameMarker] ∧ (s.beforeGrant i).sbc.surveyed = []
      ∧ (s.beforeGrant i).sbc.probed = false ∧ (s.beforeGrant i).sbc.surveyPos = s.sbc.surveyPos
      ∧ (s.beforeGrant i).sbc.txn = none := by
  obtain ⟨polls, probes, queries, missed⟩ := (s.atInstant i).missTransaction_sbc
  obtain ⟨v, hv⟩ : ∃ v, (s.atInstant i).missTransaction.noteFrameEnds.recoveryTick = v := ⟨_, rfl⟩
  have bus : v.sbc = (s.atInstant i).missTransaction.sbc := by rw [← hv]; simp
  have now : v.now = max s.now i := by rw [← hv]; simp [State.atInstant]
  have period : v.period = s.period := by rw [← hv]; simp [State.period, State.atInstant]
  have opened : s.beforeGrant i = v.openFrame := congrArg State.openFrame hv
  rw [opened]
  simp only [State.openFrame, bus, missed, now, period, true_and]
  exact ⟨rfl, rfl, trivial⟩

/-- A boundary is due at no instant that has passed. -/
theorem State.boundaryInstant_le (due : s.boundaryInstant = some i) : s.now ≤ i := by
  unfold State.boundaryInstant at due
  split at due
  · exact (Option.some.inj due).le
  · split at due
    · cases due
    · exact Option.some.inj due ▸ le_max_left _ _

/-- A boundary that is due is taken with the grant of step 5 (R109). -/
theorem exec_frameBoundary (due : s.boundaryInstant = some i) :
    exec .frameBoundary s = .next (s.beforeGrant i).grantStep.settle := by
  simp only [exec, execFrameBoundary, due]
  rfl

/-- With no transaction to cut, the boundary leaves the parameters, the connections, the phases and the queue. -/
theorem State.beforeGrant_of_idle (idle : s.sbc.txn = none) :
    (s.beforeGrant i).params = s.params ∧ (s.beforeGrant i).classes = s.classes ∧ (s.beforeGrant i).conns = s.conns
      ∧ (s.beforeGrant i).fmu = s.fmu ∧ (s.beforeGrant i).mvq = s.mvq
      ∧ ∀ j, (s.beforeGrant i).slot j = (s.slot j).map (·.noted s.sbc.frame (max s.now i)) := by
  rw [State.beforeGrant, State.missTransaction_of_idle (s := s.atInstant i) idle]
  refine ⟨by simp [State.atInstant], by simp [State.atInstant], by simp [State.atInstant], by simp [State.atInstant],
    by simp [State.atInstant], fun j => ?_⟩
  have txe : (s.atInstant i).noteFrameEnds.recoveryTick.openFrame.txe = (s.atInstant i).noteFrameEnds.txe := by simp
  exact (congrArg (fun x : Txe => x.slots[j]) txe).trans ((s.atInstant i).noteFrameEnds_slot j)

/-- A READY store stays READY up to the grant. -/
theorem State.beforeGrant_ready (idle : s.sbc.txn = none) (ready : s.esm.store = .ready) :
    (s.beforeGrant i).esm.store = .ready := by
  have noted : (s.atInstant i).noteFrameEnds.esm.store = .ready := by simpa [State.atInstant] using ready
  rw [State.beforeGrant, State.missTransaction_of_idle (s := s.atInstant i) idle, State.recoveryTick, noted]
  simpa using noted

end Sys2Proof.Machine

open Sys2Proof Sys2Proof.Machine

/-- Settles O46: the choice by the best of the requests presented, the sending by the grant of the one that there is. -/
theorem grantRankedAndSent : Obligations.GrantRankedAndSent := by
  refine ⟨fun s => ⟨State.chosen_of_not_ready, ?_, fun p chosen => ?_⟩, fun s i k sl due idle ready slot alone stage
    online healthy => ?_⟩
  · rintro ready ⟨k, sl, kind, slot, request⟩
    exact State.chosen_ne_none ready slot request
  · obtain ⟨ready, presented, least⟩ := State.chosen_spec chosen
    refine ⟨ready, State.mem_presented.mp presented, fun k sl kind slot request => ?_⟩
    have outranked := outranks_eq_false.mp
      (least ⟨k, kind, sl.order⟩ (State.mem_presented.mpr ⟨sl, slot, request, rfl⟩))
    exact outranked.imp id fun ⟨rank, order⟩ => ⟨ActKind.rank_inj rank, order⟩
  · obtain ⟨params, classes, conns, fmu, mvq, slots⟩ := State.beforeGrant_of_idle (i := i) idle
    obtain ⟨frame, -, -, -, -, -, sent, -⟩ := s.beforeGrant_sbc i
    have store := State.beforeGrant_ready (i := i) idle ready
    rw [exec_frameBoundary due]
    obtain ⟨u, hu⟩ : ∃ u, s.beforeGrant i = u := ⟨_, rfl⟩
    rw [hu] at params classes conns fmu mvq slots frame sent store ⊢
    have held : u.slot k = some (sl.noted s.sbc.frame (max s.now i)) := by rw [slots, slot]; rfl
    have request : u.request (sl.noted s.sbc.frame (max s.now i)) = some .brk := by
      have link : (u.conn sl.record.conn).link = .online := by rw [State.conn, conns]; exact online
      have health : u.health sl.record.target = .healthy := by rw [State.health, State.chan, fmu]; exact healthy
      simp [State.request, Slot.noted, stage, link, health]
    have timing (n : ConnId) : u.timing n = s.timing n := by simp [State.timing, State.conn, conns, classes]
    have chosen : u.chosen = some ⟨k, .brk, sl.order⟩ :=
      (State.chosen_of_lone store held request fun j other => by rw [slots, alone j other]; rfl :)
    rw [State.grantStep_of_some chosen held]
    refine ⟨_, rfl, ?_, ?_, ?_, rfl, conns, mvq⟩
    · rw [← frame]
      exact (u.grant_slot _ _ k).trans (if_pos rfl)
    · rw [← frame, ← timing]
      rfl
    · refine (u.grant_sent _ _).trans ?_
      rw [sent, ← timing]
      rfl

/-- Settles O45: the bus at step 5 (`State.beforeGrant_sbc`), then the grant, made or not. -/
theorem frameBoundaryTaken : Obligations.FrameBoundaryTaken := by
  refine fun s => ⟨fun none => ?_, fun due free => ?_, fun due aligned => ?_, fun due => ?_, fun i due => ?_⟩
  · simp only [exec, execFrameBoundary, none]
  · simp [State.boundaryInstant, due, free]
  · obtain ⟨p, aligned⟩ := Option.ne_none_iff_exists'.mp aligned
    simp [State.boundaryInstant, due, aligned]
  · simp [State.boundaryInstant, due]
  · have later := State.boundaryInstant_le due
    obtain ⟨frame, boundaryAt, boundaryDue, unit, unitLength, framePeriod, sent, surveyed, probed, surveyPos, txn⟩ :=
      s.beforeGrant_sbc i
    have now : (s.beforeGrant i).now = i := by
      rw [← Nat.max_eq_right later]
      simp [State.beforeGrant, State.atInstant]
    rw [Nat.max_eq_right later] at boundaryAt
    rw [exec_frameBoundary due]
    obtain ⟨u, hu⟩ : ∃ u, s.beforeGrant i = u := ⟨_, rfl⟩
    rw [hu] at now frame boundaryAt boundaryDue unit unitLength framePeriod sent surveyed probed surveyPos txn ⊢
    refine ⟨_, rfl, ?_⟩
    cases chosen : u.chosen with
    | none =>
      rw [State.grantStep_of_none chosen]
      exact ⟨now, frame, boundaryAt, boundaryDue, unitLength, framePeriod, congrArg List.head? sent, surveyed, probed,
        surveyPos, fun _ => ⟨sent, txn, unit, rfl, rfl⟩, nofun⟩
    | some p =>
      obtain ⟨sl, slot, -⟩ := State.chosen_slot chosen
      have after : (u.grant p sl).sbc.sent = [frameMarker, actuationMessage sl.record.conn
          (u.namedPhase sl.record p.kind) (u.timing sl.record.conn)] := by
        rw [State.grant_sent, sent]
        rfl
      rw [State.grantStep_of_some chosen slot]
      refine ⟨now, frame, boundaryAt, boundaryDue, unitLength, framePeriod, congrArg List.head? after, surveyed, probed,
        surveyPos, nofun, ?_⟩
      rintro p' own
      cases own
      refine ⟨sl, _, slot, after, rfl, rfl, rfl, rfl, rfl, frame, rfl, rfl, ?_, rfl⟩
      exact State.slotStage_of_some ((u.grant_slot p sl p.slot).trans (if_pos rfl))
end

section
/-! The reply to a pass-through query (R118, R124): read back, applied to the record and the slot, handed to its link. -/

namespace Sys2Proof.Machine

open Sys2Proof

variable {s t u : State} {n : ConnId} {k : SlotId} {sl : Slot} {r : StatusReport} {x : Particulars}

/-- A pass-through reply is read back as the report and the particulars it was made from (R190). -/
theorem judgePassThrough_passThroughReplyMessage (n : ConnId) (x : Particulars) (low : -32000 ≤ r.load)
    (high : r.load ≤ 32000) : judgePassThrough n (passThroughReplyMessage n r x) = some (r, x) := by
  rw [judgePassThrough, passThroughReplyMessage, checkedBody?_withCrc]
  simp only [u8, statusBytes, i16, be16, be32, List.cons_append, List.nil_append, toNat_connNumber, and_self, if_true,
    statusFields?_bytes low high, Option.map_some, half_be16, word_be32]

/-! ### What a status reply leaves of the bus (R93, R94, R104) -/

/-- Of the bus, only the verify polls have changed. -/
def State.BusKept (s t : State) : Prop := t.sbc = { s.sbc with verifyPolls := t.sbc.verifyPolls }

namespace State.BusKept

theorem of_eq (same : t.sbc = s.sbc) : s.BusKept t := by
  rw [State.BusKept, same]

theorem trans (h : s.BusKept t) (h' : t.BusKept u) : s.BusKept u := by
  rw [State.BusKept, h', h]

theorem setSlot {y : Option Slot} : s.BusKept (s.setSlot k y) := .of_eq rfl

theorem endRecord {res : Result} : s.BusKept (s.endRecord k res) :=
  ((State.SlotsTurned.refl s).endWith res).sbc

theorem flushAndTreat : s.BusKept s.flushAndTreat :=
  (of_eq (by simp)).trans ((State.SlotsTurned.refl (s.endAllQueued .halted)).foldl_treatSlot allSlots).sbc

theorem haltMode : s.BusKept s.haltMode := by
  unfold State.haltMode
  split
  case h_5 | h_6 | h_7 | h_8 => exact of_eq rfl
  all_goals exact (of_eq rfl).trans flushAndTreat

theorem haltEvent {h : HaltSource} : s.BusKept (s.haltEvent h) := by
  unfold State.haltEvent
  split
  · exact (of_eq (by simp)).trans haltMode
  · exact of_eq rfl

theorem setMapFault : s.BusKept s.setMapFault := by
  unfold State.setMapFault
  split
  · exact of_eq rfl
  · exact (of_eq rfl).trans haltEvent

theorem seenBySlot {closed : Option Phase} : s.BusKept (s.seenBySlot k sl closed) := by
  unfold State.seenBySlot
  dsimp only
  split
  · split
    · exact setSlot.trans endRecord
    · split
      · exact setSlot.trans endRecord
      · exact setSlot
  case h_9 | h_10 | h_11 | h_12 =>
    split
    · exact setSlot.trans endRecord
    · exact (setSlot.trans endRecord).trans setMapFault
  all_goals exact setSlot

end State.BusKept

/-! ### The reply to a pass-through query (R114, R118) -/

/-- A pass-through reply within its window is a status reply of its connection, and its figures answer the query. -/
theorem exec_passThroughReply {units : Nat}
    (txn : s.sbc.txn = some { conn := n, purpose := .passThrough, lastUnit := units })
    (inTime : s.now ≤ s.sbc.boundaryAt + units * s.sbc.unitLength) (low : -32000 ≤ r.load) (high : r.load ≤ 32000) :
    exec (.passThroughReply { late := false, bytes := passThroughReplyMessage n r x }) s
      = .next (((s.setTxn none).statusTaken n r).finishQuery n (0x00 :: moduleFigures r x)).settle := by
  refine settled_congr ?_
  simp only [State.takeMessage, State.takeReply, txn, State.windowEnd, inTime, Bool.false_eq_true, if_true, if_false,
    judgePassThrough_passThroughReplyMessage n x low high]
  rfl

/-- The record of a present connection shows the module as its reply gives it (R5 to R8). -/
theorem State.applyReply_present (present : (s.conn n).present = true) (replied : s.applyReply n r = t) :
    (t.conn n).link = .online ∧ (t.conn n).expected = r.counter ∧ (t.conn n).phase = Confirmed.ofClosed r.closed := by
  have conn : t.conn n = s.repliedConn n r := by
    rw [← replied, State.applyReply_eq present]
    exact s.conn_setConn_same n _
  rw [conn, State.repliedConn]
  cases s.tbs.endDue <;> exact ⟨rfl, rfl, rfl⟩

/-- The only query of the list, on the bus and awaited, leaves it and is answered. -/
theorem State.finishQuery_awaited {q : Query} {cmd tag : Byte} (list : s.sbc.queries = [q]) (conn : q.conn = n)
    (bus : q.onBus = true) (waits : q.answered = false) (port : (s.port q.link).answer = .answering cmd tag none)
    (reply : List Byte) :
    s.finishQuery n reply = ({ s with sbc := { s.sbc with queries := [] } } : State).setPort q.link
      { s.port q.link with answer := .answering cmd tag (some reply) } := by
  rw [State.finishQuery_alone list conn bus, waits]
  exact State.setReply_awaiting (s := { s with sbc := { s.sbc with queries := [] } }) port _

end Sys2Proof.Machine

open Sys2Proof Sys2Proof.Machine

/-- Settles O44: the status reply first, by the record's place, then the query that it answers. -/
theorem passThroughAnswered : Obligations.PassThroughAnswered := by
  refine ⟨fun s n u r x q cmd tag txn list conn bus waits port out low high inTime => ?_,
    fun s n u r x q cmd tag k sl txn list conn bus waits port own slot low high inTime => ?_⟩
  · have taken : (s.setTxn none).statusTaken n r = (s.setTxn none).applyReply n r := by
      rw [State.statusTaken, State.applyReply_slotOf, show (s.setTxn none).slotOf n = none from out]
    rw [exec_passThroughReply txn inTime low high, taken]
    obtain ⟨v, hv⟩ : ∃ v, (s.setTxn none).applyReply n r = v := ⟨_, rfl⟩
    have sbc : v.sbc = { s.sbc with txn := none } := by rw [← hv]; simp [State.setTxn]
    have ports : v.ports = s.ports := by rw [← hv]; simp
    have waiting : (v.port q.link).answer = .answering cmd tag none := by rw [State.port, ports]; exact port
    rw [hv, State.finishQuery_awaited (by rw [sbc]; exact list) conn bus waits waiting]
    refine ⟨_, rfl, rfl, congrArg Sbc.txn sbc, ?_, fun present => ?_, fun absent => ?_⟩
    · exact congrArg Port.answer (State.port_setPort_same _ _ _)
    · exact (State.applyReply_present (s := s.setTxn none) present hv :)
    · rw [← hv, State.applyReply_of_absent (s := s.setTxn none) absent]
      rfl
  · obtain ⟨v, hv⟩ : ∃ v, (s.setTxn none).applyReply n r = v := ⟨_, rfl⟩
    have held : v.slot k = some sl := by rw [← hv, State.applyReply_slot]; exact slot
    have taken : (s.setTxn none).statusTaken n r = v.seenBySlot k sl r.closed := by
      rw [State.statusTaken, State.applyReply_slotOf, show (s.setTxn none).slotOf n = some k from own, hv]
      exact State.statusToSlot_eq held r.closed
    have ports : (v.seenBySlot k sl r.closed).ports = s.ports := by
      rw [← State.statusToSlot_eq held, ← hv]
      simp
    have queries : (v.seenBySlot k sl r.closed).sbc.queries = [q] := by
      rw [State.BusKept.seenBySlot (s := v), ← hv]
      simpa [State.setTxn] using list
    have port' : (v.seenBySlot k sl r.closed).port q.link = s.port q.link := by rw [State.port, ports]; rfl
    dsimp only
    rw [exec_passThroughReply txn inTime low high, taken, hv,
      State.finishQuery_awaited queries conn bus waits (port'.symm ▸ port), port']
    rfl
end

section
/-! The four standing rules of the mode, the authority, the supply warning and the alignment (R110, R158, R163, R169): what
an operation has to leave for a rule to stand, and the operations on the queue, the slots and the halt. -/

namespace Sys2Proof.Machine

open Sys2Proof

/-- A rule of the whole machine: CONFIG is idle (R169), the key is obeyed (R163), RIDE_THROUGH goes with the supply
warning (R158, R172), the alignment phase is the first that is not LOST (R110). -/
inductive StandingRule where
  | idle
  | key
  | warning
  | alignment

/-- A state obeys a rule. -/
def State.Obeys (rule : StandingRule) (s : State) : Prop :=
  match rule with
  | .idle => s.configIdle
  | .key => s.keyObeyed
  | .warning => s.warningObeyed
  | .alignment => s.aligned

/-- The mode is CONFIG, or will be when the supply warning clears. -/
def State.inConfig (s : State) : Prop := s.mdc.mode = .base .config ∨ s.mdc.mode = .rideThrough .config

/-- Nothing is queued and every slot is free. -/
structure State.Vacant (s : State) : Prop where
  queue : s.mvq.queue = []
  slot : ∀ k, s.slot k = none

variable {s t : State} {rule : StandingRule} {k : SlotId} {x : Slot}

theorem State.configIdle_iff : s.configIdle ↔ (s.inConfig → s.Vacant) := by
  unfold State.configIdle State.inConfig
  rw [State.slotsEmpty_iff]
  exact ⟨fun h c => ⟨(h c).1, (h c).2⟩, fun h c => ⟨(h c).queue, (h c).slot⟩⟩

theorem State.Vacant.congr (v : s.Vacant) (queue : t.mvq.queue = s.mvq.queue) (txe : t.txe = s.txe) : t.Vacant :=
  ⟨queue.trans v.queue, fun k => by rw [State.slot, txe]; exact v.slot k⟩

theorem State.Vacant.not_some (v : s.Vacant) : s.slot k ≠ some x := by simp [v.slot k]

theorem State.not_inConfig_of_moving (mode : s.modeName = .manual ∨ s.modeName = .auto) : ¬ s.inConfig := by
  rintro (config | config) <;> simp [State.modeName, config, Mode.name, BaseMode.name] at mode

/-- The reference phase rests on the health of the phases alone. -/
theorem firstNotLost_congr {x y : PerPhase PhaseChannel} (health : ∀ p, (x.get p).health = (y.get p).health) :
    firstNotLost x = firstNotLost y := by
  simp only [firstNotLost, health]

theorem State.firstNotLost_setChan {p : Phase} {c : PhaseChannel} (health : c.health = s.health p) :
    firstNotLost (s.setChan p c).fmu.chan = firstNotLost s.fmu.chan :=
  firstNotLost_congr fun q => by
    change ((s.setChan p c).chan q).health = (s.chan q).health
    by_cases own : q = p
    · rw [own, State.chan_setChan_same, health, State.health]
    · rw [State.chan_setChan_ne s c own]

theorem firstNotLost_map {chan : PerPhase PhaseChannel} {f : PhaseChannel → PhaseChannel}
    (health : ∀ c, (f c).health = c.health) : firstNotLost (chan.map f) = firstNotLost chan :=
  firstNotLost_congr fun p => by rw [PerPhase.get_map, health]

namespace State.Obeys

/-! ### What a rule rests on -/

/-- With the Mode Controller and the Interlock Unit as they were, it is left to keep the alignment and to fill neither the
queue nor a slot in CONFIG. -/
theorem of_eq (h : s.Obeys rule) (aligned : s.aligned → t.aligned) (vacant : s.inConfig → s.Vacant → t.Vacant)
    (mdc : t.mdc = s.mdc := by simp) (ilu : t.ilu = s.ilu := by simp) : t.Obeys rule := by
  cases rule with
  | idle =>
    have idle := State.configIdle_iff.mp h
    exact State.configIdle_iff.mpr fun config =>
      have config : s.inConfig := by rwa [State.inConfig, ← mdc]
      vacant config (idle config)
  | key =>
    have key : s.keyObeyed := h
    change t.keyObeyed
    rwa [State.keyObeyed, State.keyLocal, mdc, ilu]
  | warning =>
    have warning : s.warningObeyed := h
    change t.warningObeyed
    rwa [State.warningObeyed, State.modeName, mdc, ilu]
  | alignment => exact aligned h

/-- The alignment phase and the health of the phases as they were. -/
theorem of_reference (h : s.Obeys rule) (vacant : s.inConfig → s.Vacant → t.Vacant)
    (alignment : t.sbc.alignment = s.sbc.alignment := by simp)
    (reference : firstNotLost t.fmu.chan = firstNotLost s.fmu.chan := by simp)
    (mdc : t.mdc = s.mdc := by simp) (ilu : t.ilu = s.ilu := by simp) : t.Obeys rule :=
  h.of_eq (fun aligned => alignment.trans (Eq.trans aligned reference.symm)) vacant mdc ilu

/-- Nothing that a rule rests on is touched. -/
theorem of_frame (h : s.Obeys rule) (queue : t.mvq.queue = s.mvq.queue := by simp) (txe : t.txe = s.txe := by simp)
    (alignment : t.sbc.alignment = s.sbc.alignment := by simp)
    (reference : firstNotLost t.fmu.chan = firstNotLost s.fmu.chan := by simp)
    (mdc : t.mdc = s.mdc := by simp) (ilu : t.ilu = s.ilu := by simp) : t.Obeys rule :=
  h.of_reference (fun _ vacant => vacant.congr queue txe) alignment reference mdc ilu

/-- Work on an occupied slot: a part in CONFIG has none. -/
theorem of_slot (h : s.Obeys rule) (slot : s.slot k = some x)
    (alignment : t.sbc.alignment = s.sbc.alignment := by simp)
    (reference : firstNotLost t.fmu.chan = firstNotLost s.fmu.chan := by simp)
    (mdc : t.mdc = s.mdc := by simp) (ilu : t.ilu = s.ilu := by simp) : t.Obeys rule :=
  h.of_reference (fun _ vacant => absurd slot vacant.not_some) alignment reference mdc ilu

/-- Work of a part that makes moves: it is not in CONFIG. -/
theorem of_moving (h : s.Obeys rule) (mode : s.modeName = .manual ∨ s.modeName = .auto)
    (alignment : t.sbc.alignment = s.sbc.alignment := by simp)
    (reference : firstNotLost t.fmu.chan = firstNotLost s.fmu.chan := by simp)
    (mdc : t.mdc = s.mdc := by simp) (ilu : t.ilu = s.ilu := by simp) : t.Obeys rule :=
  h.of_reference (fun config => absurd config (State.not_inConfig_of_moving mode)) alignment reference mdc ilu

/-- A fold keeps what each of its steps keeps. -/
theorem foldl {α : Type} {f : State → α → State} (hf : ∀ u a, u.Obeys rule → (f u a).Obeys rule) (h : s.Obeys rule)
    (l : List α) : (l.foldl f s).Obeys rule := by
  induction l generalizing s with
  | nil => exact h
  | cons a l ih => exact ih (hf _ _ h)

/-- A change of the mode and of the supply warning that keeps them together and does not come to CONFIG with work. -/
theorem setMode (h : s.Obeys rule) {m : Mode} {w : SupplyState} (rides : m.name = .rideThrough ↔ w ≠ .clear)
    (config : (m = .base .config ∨ m = .rideThrough .config) → s.inConfig ∨ s.Vacant) :
    ((s.setSupply w).setMode m).Obeys rule := by
  cases rule with
  | idle =>
    have idle := State.configIdle_iff.mp h
    refine State.configIdle_iff.mpr fun inConfig => ?_
    have vacant := (config inConfig).elim idle id
    exact ⟨vacant.queue, vacant.slot⟩
  | warning => exact rides
  | key => exact h
  | alignment => exact h

/-! ### The updates of one field -/

theorem raise (h : s.Obeys rule) {e : EventKind} : (s.raise e).Obeys rule := h.of_frame
theorem atInstant (h : s.Obeys rule) {i : Nat} : (s.atInstant i).Obeys rule := h.of_frame
theorem settle (h : s.Obeys rule) : s.settle.Obeys rule := h.of_frame rfl rfl rfl rfl rfl rfl
theorem setConn (h : s.Obeys rule) {n : ConnId} {c : Conn} : (s.setConn n c).Obeys rule := h.of_frame
theorem setPort (h : s.Obeys rule) {lk : Link} {p : Port} : (s.setPort lk p).Obeys rule := h.of_frame

theorem setTxn (h : s.Obeys rule) {x : Option Transaction} : (s.setTxn x).Obeys rule :=
  h.of_frame rfl rfl rfl rfl rfl rfl

theorem setStore (h : s.Obeys rule) {x : StoreState} : (s.setStore x).Obeys rule := h.of_frame rfl rfl rfl rfl rfl rfl

theorem setNeutral (h : s.Obeys rule) {n : Neutral} : (s.setNeutral n).Obeys rule := h.of_frame rfl rfl rfl rfl rfl rfl

/-! ### Slots and endings (R81, R86) -/

theorem setSlot (h : s.Obeys rule) (slot : s.slot k = some x) {y : Option Slot} : (s.setSlot k y).Obeys rule :=
  h.of_slot slot

theorem modSlot (h : s.Obeys rule) {f : Slot → Slot} : (s.modSlot k f).Obeys rule := by
  cases slot : s.slot k with
  | none => rwa [State.modSlot_of_free slot]
  | some x => rw [State.modSlot_eq slot]; exact h.setSlot slot

theorem endRecord (h : s.Obeys rule) {res : Result} : (s.endRecord k res).Obeys rule := by
  cases slot : s.slot k with
  | none => simpa [State.endRecord, slot] using h
  | some x => exact h.of_slot slot (by rw [State.endRecord_eq slot])

/-! ### The queue (R70, R75 to R77) -/

theorem endQueued (h : s.Obeys rule) {r : MoveRec} {res : Result} : (s.endQueued r res).Obeys rule := by
  refine h.of_reference fun _ vacant => ⟨?_, fun k => ?_⟩
  · rw [(s.endQueued_mvq r res).1, vacant.queue, List.filter_nil]
  · simpa [State.slot] using vacant.slot k

theorem endAllQueued (h : s.Obeys rule) {res : Result} : (s.endAllQueued res).Obeys rule :=
  h.foldl (fun _ _ hu => hu.endQueued) _

theorem expireQueued (h : s.Obeys rule) {e : Word} : (s.expireQueued e).Obeys rule :=
  h.foldl (fun _ _ hu => hu.endQueued) _

theorem trimQueue (h : s.Obeys rule) {fuel : Nat} : (State.trimQueue fuel s).Obeys rule := by
  induction fuel generalizing s with
  | zero => exact h
  | succ fuel ih =>
    unfold State.trimQueue
    split
    · exact h
    · split
      · exact ih h.endQueued
      · exact h

theorem returnToQueue (h : s.Obeys rule) : (s.returnToQueue k).Obeys rule := by
  cases slot : s.slot k with
  | none => simpa [State.returnToQueue, slot] using h
  | some x => exact h.of_slot slot (by rw [State.returnToQueue_eq slot]; rfl)

theorem handBack (h : s.Obeys rule) : (s.handBack k).Obeys rule := h.returnToQueue.trimQueue

theorem handBackAll (h : s.Obeys rule) : s.handBackAll.Obeys rule := by
  refine trimQueue (h.foldl (fun u k hu => ?_) allSlots)
  split
  · exact hu.returnToQueue
  · exact hu

/-! ### Admission (R78 to R80, R165) -/

theorem takeAdmission (h : s.Obeys rule) : s.takeAdmission.Obeys rule :=
  s.takeAdmission_keeps (Obeys rule) (fun _ _ _ _ ht allowed _ _ => ht.of_moving (State.movesAllowed_iff.mp allowed)) h

/-- A part that does not ride through goes to MANUAL or AUTO. -/
theorem enterMode (h : s.Obeys rule) {m : BaseMode} (base : s.modeName ≠ .rideThrough) (runs : m ≠ .config) :
    (s.enterMode m).Obeys rule := by
  refine takeAdmission ?_
  cases rule with
  | idle =>
    refine State.configIdle_iff.mpr fun inConfig => ?_
    rcases inConfig with config | config
    · exact absurd (Mode.base.inj config) runs
    · cases config
  | warning =>
    have warning : s.warningObeyed := h
    have other : (Mode.base m).name ≠ .rideThrough := by cases m <;> nofun
    exact iff_of_false other (mt warning.mpr base)
  | key => exact h
  | alignment => exact h

/-! ### The stages of a transfer (R87, R88, R95 to R101) -/

theorem enterOrphaned (h : s.Obeys rule) : (s.enterOrphaned k).Obeys rule := by
  unfold State.enterOrphaned
  split
  · next slot =>
    dsimp only
    split
    · exact (h.setSlot slot).endRecord
    · exact h.setSlot slot
  · exact h

theorem holdWaitReturn (h : s.Obeys rule) : (s.holdWaitReturn k).Obeys rule := by
  unfold State.holdWaitReturn
  split
  · split
    · exact h.enterOrphaned
    · exact h
  · exact h

theorem enterWaitReturn (h : s.Obeys rule) : (s.enterWaitReturn k).Obeys rule := h.modSlot.holdWaitReturn

theorem enterWaitMake (h : s.Obeys rule) : (s.enterWaitMake k).Obeys rule := by
  unfold State.enterWaitMake
  split
  · next slot =>
    dsimp only
    split
    · exact (h.setSlot slot).enterWaitReturn
    · split
      · exact (h.setSlot slot).enterOrphaned
      · exact h.setSlot slot
  · exact h

theorem enterGap (h : s.Obeys rule) : (s.enterGap k).Obeys rule := by
  unfold State.enterGap
  dsimp only
  split
  · split
    · exact h.modSlot.enterWaitMake
    · exact h.modSlot
  · exact h.modSlot

theorem backToWaitBreak (h : s.Obeys rule) : (s.backToWaitBreak k).Obeys rule := by
  unfold State.backToWaitBreak
  split
  · next slot =>
    split
    · exact h.endRecord
    · split
      · exact h.handBack
      · exact h.setSlot slot
  · exact h

theorem cancelSlot (h : s.Obeys rule) : (s.cancelSlot k).Obeys rule := by
  have flagged : (s.requestCancel k).Obeys rule := h.modSlot
  unfold State.cancelSlot
  dsimp only
  split
  case h_1 => exact flagged.endRecord
  case h_2 | h_3 => exact flagged.enterWaitReturn
  all_goals exact flagged

theorem treatSlot (h : s.Obeys rule) : (s.treatSlot k).Obeys rule := by
  unfold State.treatSlot
  split
  case h_1 => exact h.endRecord
  case h_2 | h_3 => exact h.modSlot
  case h_4 | h_5 => exact h.enterWaitReturn
  all_goals exact h

theorem recheckSlot (h : s.Obeys rule) : (s.recheckSlot k).Obeys rule := by
  unfold State.recheckSlot
  split
  · split
    · split
      · exact h.enterWaitReturn
      · exact h
    · exact h.holdWaitReturn
    all_goals exact h
  · exact h

theorem recheckSlots (h : s.Obeys rule) : s.recheckSlots.Obeys rule := h.foldl (fun _ _ hu => hu.recheckSlot) _

/-! ### The halt (R153, R155, R157, R171) -/

theorem flushAndTreat (h : s.Obeys rule) : s.flushAndTreat.Obeys rule :=
  h.endAllQueued.foldl (fun _ _ hu => hu.treatSlot) _

/-- A halt stops the part where it stands: a part that rides through goes on riding through. -/
theorem stop (h : s.Obeys rule) {m : Mode} (rides : m.name = .rideThrough ↔ s.modeName = .rideThrough)
    (halted : m = .base .halted ∨ m = .rideThrough .halted) : (s.setMode m).Obeys rule := by
  cases rule with
  | idle =>
    refine State.configIdle_iff.mpr fun inConfig => ?_
    rcases halted with rfl | rfl <;> rcases inConfig with config | config <;> cases config
  | warning => exact rides.trans h
  | key => exact h
  | alignment => exact h

theorem haltMode (h : s.Obeys rule) : s.haltMode.Obeys rule := by
  unfold State.haltMode
  split
  case h_1 mode | h_2 mode =>
    refine (h.stop ?_ (.inl rfl)).flushAndTreat
    simp [State.modeName, mode, Mode.name, BaseMode.name]
  case h_3 mode | h_4 mode =>
    refine (h.stop ?_ (.inr rfl)).flushAndTreat
    simp [State.modeName, mode, Mode.name]
  all_goals exact h

/-- A change of the Interlock Unit that leaves the debounced level of the key and the supply warning. -/
theorem setIlu (h : s.Obeys rule) {u : Ilu} (key : rule = .key → u.inputs.keyLocal.debounced = s.keyLocal)
    (supply : u.supply = s.ilu.supply) : State.Obeys rule { s with ilu := u } := by
  cases rule with
  | idle => exact h
  | key =>
    have held : s.keyObeyed := h
    change s.mdc.authority = if u.inputs.keyLocal.debounced then .service else .operator
    rw [key rfl]
    exact held
  | warning =>
    have held : s.warningObeyed := h
    change s.modeName = .rideThrough ↔ u.supply ≠ .clear
    rw [supply]
    exact held
  | alignment => exact h

theorem haltEvent (h : s.Obeys rule) {x : HaltSource} : (s.haltEvent x).Obeys rule := by
  have entered : (s.enterHalt x).Obeys rule := by
    unfold State.enterHalt
    split
    · exact h
    · exact h.setIlu (fun _ => rfl) rfl
  unfold State.haltEvent
  split
  · exact entered.haltMode
  · exact h

theorem setMapFault (h : s.Obeys rule) : s.setMapFault.Obeys rule := by
  unfold State.setMapFault
  split
  · exact h
  · exact haltEvent (h.setIlu (u := { s.ilu with mapFault := true }) (fun _ => rfl) rfl)

theorem endTransfer (h : s.Obeys rule) {res : Result} : (s.endTransfer k res).Obeys rule := by
  unfold State.endTransfer
  split
  · exact h.endRecord.setMapFault
  · exact h.endRecord

/-! ### The inputs (R147, R149, R150) -/

/-- An input is written; the debounced level of the key only where the rule is not about it. -/
theorem setInput (h : s.Obeys rule) {i : InputLine} {r : InputRec}
    (key : rule = .key → i = .keyLocal → r.debounced = (s.input i).debounced) : (s.setInput i r).Obeys rule := by
  refine h.setIlu (fun own => ?_) rfl
  cases i with
  | keyLocal => exact key own rfl
  | rlyBlock | rlyTrip | door | supplyWarn | aux1 | aux2 => rfl

theorem setStatus (h : s.Obeys rule) {i : InputLine} {v : Bool} : (s.setStatus i v).Obeys rule := by
  have set : (s.setInput i { s.input i with status := v }).Obeys rule := h.setInput fun _ _ => rfl
  unfold State.setStatus
  dsimp only
  split
  · split
    · exact set.haltEvent
    · exact set
  · exact set

theorem followLevel (h : s.Obeys rule) {i : InputLine} : (s.followLevel i).Obeys rule := by
  unfold State.followLevel
  dsimp only
  split
  · exact h.setStatus
  · split
    · exact h.setStatus
    · exact h

/-- The authority passes to the link that the key selects, wherever it was (R163). -/
theorem keyChanged (h : rule ≠ .key → s.Obeys rule) : s.keyChanged.Obeys rule := by
  cases rule with
  | key => rfl
  | idle => exact h nofun
  | warning => exact h nofun
  | alignment => exact h nofun

theorem supplyStart (h : s.Obeys rule) {w : SupplyState} (warned : w ≠ .clear) :
    (s.setSupply w).supplyStart.Obeys rule := by
  unfold State.supplyStart
  split
  · next m mode =>
    refine (h.setMode (m := .rideThrough m) (iff_of_true rfl warned) fun config => .inl ?_).handBackAll
    rcases config with config | config
    · cases config
    · exact .inl (mode.trans (congrArg Mode.base (Mode.rideThrough.inj config)))
  · next m mode =>
    have same : (s.setSupply w).setMode (.rideThrough m) = s.setSupply w := by rw [← mode]; rfl
    refine same ▸ h.setMode (iff_of_true rfl warned) fun config => .inl (.inr ?_)
    exact mode.trans (config.resolve_left nofun)

theorem supplyChanged (h : s.Obeys rule) {b : Bool} : (s.supplyChanged b).Obeys rule := by
  have still {w : SupplyState} (warned : w ≠ .clear) (before : s.ilu.supply ≠ .clear) : (s.setSupply w).Obeys rule := by
    cases rule with
    | warning =>
      have held : s.warningObeyed := h
      exact iff_of_true (held.mpr before) warned
    | idle => exact h
    | key => exact h
    | alignment => exact h
  unfold State.supplyChanged
  split
  · exact h.supplyStart nofun
  · next warning => exact still nofun (by simp [warning])
  · next clearing => exact still nofun (by simp [clearing])
  all_goals exact h

theorem debouncedChanged {i : InputLine} (h : (rule = .key → i ≠ .keyLocal) → s.Obeys rule) :
    (s.debouncedChanged i).Obeys rule := by
  unfold State.debouncedChanged
  dsimp only
  split
  · exact keyChanged fun other => (h fun own => absurd own other).followLevel
  · exact (h fun _ => nofun).followLevel.supplyChanged
  all_goals exact (h fun _ => nofun).followLevel

theorem sampleInput (h : s.Obeys rule) {i : InputLine} {b : Bool} : (s.sampleInput i b).Obeys rule := by
  unfold State.sampleInput
  dsimp only
  split
  · exact h.atInstant.setInput fun _ _ => rfl
  · split
    · exact debouncedChanged fun other => h.atInstant.setInput fun own line => absurd line (other own)
    · exact h.atInstant.setInput fun _ _ => rfl

/-- The clearing timer has run out: the saved mode is the mode again (R158, R172). -/
theorem qualifiedClear (h : s.Obeys rule) (warned : s.ilu.supply ≠ .clear) :
    (s.setSupply .clear).qualifiedClear.Obeys rule := by
  unfold State.qualifiedClear
  split
  · next m mode =>
    refine (h.setMode (m := .base m) ?_ fun config => .inl (.inr ?_)).takeAdmission
    · exact iff_of_false (by cases m <;> nofun) (by simp)
    · exact mode.trans (congrArg Mode.rideThrough (Mode.base.inj (config.resolve_right nofun)))
  · next m mode =>
    cases rule with
    | warning =>
      have held : s.warningObeyed := h
      have rides := held.mpr warned
      rw [State.modeName, show s.mdc.mode = .base m from mode] at rides
      cases m <;> cases rides
    | idle => exact h
    | key => exact h
    | alignment => exact h

end State.Obeys
end Sys2Proof.Machine
end

section
/-! The four standing rules, operation by operation: replies and misses, frames and units, the planner, the feeder and the
time base (chapters 2, 3, 5 and 6). -/

namespace Sys2Proof.Machine

open Sys2Proof

variable {s t : State} {rule : StandingRule} {k : SlotId} {x : Slot}

namespace State.Obeys

/-! ### What the Transfer Engine does with replies (R91 to R95, R98, R100, R101) -/

theorem verifyBreaking (h : s.Obeys rule) {c : Option Phase} : (s.verifyBreaking k x c).Obeys rule := by
  have confirmed : (s.confirmBreak k).Obeys rule := h.modSlot
  unfold State.verifyBreaking
  split
  · split
    · exact confirmed.enterWaitReturn
    · exact confirmed.enterGap
  · split
    · split
      · exact h.endTransfer
      · split
        · exact h.backToWaitBreak
        · exact h.endTransfer
    · exact h.endTransfer

theorem verifyMaking (h : s.Obeys rule) {c : Option Phase} : (s.verifyMaking k x c).Obeys rule := by
  unfold State.verifyMaking
  split
  · split
    · exact h.enterWaitMake
    · exact h.enterWaitReturn
  · split <;> exact h.endTransfer

theorem verifyReturning (h : s.Obeys rule) {c : Option Phase} : (s.verifyReturning k x c).Obeys rule := by
  unfold State.verifyReturning
  split
  · split
    · exact h.enterWaitReturn
    · exact h.endTransfer
  · split <;> exact h.endTransfer

theorem seeClosed (h : s.Obeys rule) {c : Option Phase} : (s.seeClosed k x c).Obeys rule := by
  unfold State.seeClosed
  split
  · exact h
  · exact h.endTransfer

theorem statusAtWaitBreak (h : s.Obeys rule) {c : Option Phase} : (s.statusAtWaitBreak k x c).Obeys rule := by
  unfold State.statusAtWaitBreak
  split
  · exact h.endTransfer
  · split
    · exact h.endTransfer
    · exact h

theorem statusToSlot (h : s.Obeys rule) {c : Option Phase} : (s.statusToSlot k c).Obeys rule := by
  have cleared : (s.clearMisses k).Obeys rule := h.modSlot
  unfold State.statusToSlot
  dsimp only
  split
  · split
    case h_1 => exact cleared.statusAtWaitBreak
    case h_2 | h_3 | h_4 => exact cleared
    all_goals exact cleared.seeClosed
  · exact cleared

theorem verifyDecision (h : s.Obeys rule) {c : Option Phase} : (s.verifyDecision k c).Obeys rule := by
  have cleared : (s.clearMisses k).Obeys rule := h.modSlot
  unfold State.verifyDecision
  dsimp only
  split
  · next slot =>
    split
    case h_1 => exact cleared.verifyBreaking
    case h_2 => exact cleared.verifyMaking
    case h_3 => exact cleared.verifyReturning
    case h_4 => exact (cleared.setSlot slot).seeClosed
    case h_5 => exact cleared.statusAtWaitBreak
    all_goals exact cleared.seeClosed
  · exact cleared

theorem verifyMissed (h : s.Obeys rule) : (s.verifyMissed k).Obeys rule := by
  unfold State.verifyMissed
  split
  · next slot =>
    split
    · exact h.endTransfer
    · exact h.setSlot slot
  · exact h

theorem slotOutcome (h : s.Obeys rule) {a : ActKind} {f : Word} {o : ActOutcome} :
    (s.slotOutcome k a f o).Obeys rule := by
  have due : (s.setVerifyDue k f).Obeys rule := h.modSlot
  unfold State.slotOutcome
  split
  · exact h
  · split
    case h_1 | h_2 | h_5 | h_8 => exact due
    case h_3 | h_4 => exact h.endTransfer
    case h_6 =>
      split
      · exact h.enterWaitMake
      · exact h.enterWaitReturn
    case h_7 => exact h.enterWaitReturn
    case h_9 =>
      split
      · exact h.enterWaitReturn
      · exact h.endTransfer

/-! ### The Selector Bus Controller (R109 to R120) -/

theorem finishQuery (h : s.Obeys rule) {n : ConnId} {b : List Byte} : (s.finishQuery n b).Obeys rule := by
  refine h.of_frame (alignment := ?_)
  unfold State.finishQuery
  split
  · dsimp only
    split <;> rfl
  · rfl

theorem pollMissed (h : s.Obeys rule) {n : ConnId} : (s.pollMissed n).Obeys rule := by
  refine h.of_frame (alignment := ?_)
  unfold State.pollMissed
  dsimp only
  split
  · split <;> rfl
  · rfl

theorem applyReply (h : s.Obeys rule) {n : ConnId} {r : StatusReport} : (s.applyReply n r).Obeys rule := by
  refine h.of_frame (reference := ?_)
  unfold State.applyReply State.uncommanded
  dsimp only
  split
  · split <;> simp
  · rfl

theorem statusTaken (h : s.Obeys rule) {n : ConnId} {r : StatusReport} : (s.statusTaken n r).Obeys rule := by
  unfold State.statusTaken
  dsimp only
  split
  · exact h.applyReply.statusToSlot
  · exact h.applyReply

theorem verifyTaken (h : s.Obeys rule) {o : Nat} {n : ConnId} {r : StatusReport} :
    (s.verifyTaken k o n r).Obeys rule := by
  unfold State.verifyTaken
  split
  · exact h.applyReply.verifyDecision
  · exact h.statusTaken

theorem actuationOutcome (h : s.Obeys rule) {n : ConnId} {w : Nat} {a : ActKind} {b i : Confirmed} {o : ActOutcome} :
    (s.actuationOutcome n k w a b i o).Obeys rule := by
  have taken : (s.ctbOutcome n b i o).Obeys rule := h.of_frame
  have stored {u : State} (hu : u.Obeys rule) : (u.storeOutcome n u.sbc.frame o).Obeys rule := hu.of_frame
  unfold State.actuationOutcome
  refine stored ?_
  split
  · exact taken.slotOutcome
  · exact taken

theorem missTransaction (h : s.Obeys rule) : s.missTransaction.Obeys rule := by
  unfold State.missTransaction
  split
  · exact h
  · dsimp only
    split
    · exact h.setTxn.pollMissed
    · exact h.setTxn.pollMissed
    · split
      · exact h.setTxn.verifyMissed
      · exact h.setTxn
    · exact h.setTxn.actuationOutcome
    · exact h.setTxn.finishQuery

theorem takeReply (h : s.Obeys rule) {x : Transaction} {m : List Byte} : (s.takeReply x m).Obeys rule := by
  unfold State.takeReply
  dsimp only
  split
  case h_1 | h_2 =>
    split
    · exact h.setTxn.statusTaken
    · exact h.missTransaction
  case h_3 =>
    split
    · exact h.setTxn.verifyTaken
    · exact h.missTransaction
  case h_4 =>
    split
    · exact h.setTxn.actuationOutcome
    · exact h.missTransaction
  case h_5 =>
    split
    · exact h.setTxn.statusTaken.finishQuery
    · exact h.missTransaction

theorem takeMessage (h : s.Obeys rule) {m : Arrival} : (s.takeMessage m).Obeys rule := by
  unfold State.takeMessage
  split
  · exact h
  · split
    · exact h
    · split
      · exact h.takeReply
      · exact h.missTransaction

/-- A grant falls on an occupied slot (R138). -/
theorem grantStep (h : s.Obeys rule) : s.grantStep.Obeys rule := by
  unfold State.grantStep
  split
  · split
    · next slot => exact h.of_slot slot rfl rfl
    · exact h
  · exact h

theorem frameBoundary (h : s.Obeys rule) : s.frameBoundary.Obeys rule := by
  have noted : s.missTransaction.noteFrameEnds.Obeys rule := h.missTransaction.foldl (fun _ _ hu => hu.modSlot) _
  have opened : s.missTransaction.noteFrameEnds.recoveryTick.openFrame.Obeys rule :=
    noted.of_frame (alignment := by simp [State.openFrame])
  exact opened.grantStep

theorem beginUnit (h : s.Obeys rule) : s.beginUnit.Obeys rule := by
  have begun {u : State} (hu : u.Obeys rule) {n : Nat} :
      State.Obeys rule { u with sbc := { u.sbc with unit := n, sent := [] } } := hu.of_frame rfl rfl rfl rfl rfl rfl
  unfold State.beginUnit
  dsimp only
  refine begun ?_
  split
  · split
    · exact h.atInstant.missTransaction
    · exact h.atInstant
  · exact h.atInstant

theorem arbitrate (h : s.Obeys rule) {u : Nat} : (s.arbitrate u).Obeys rule := by
  refine h.of_frame (alignment := ?_)
  unfold State.arbitrate
  split
  case h_4 =>
    unfold State.startSurvey
    split <;> rfl
  all_goals rfl

/-! ### The Balancing Planner (R46, R59) -/

/-- A run hands records over only in AUTO. -/
theorem plannerRun (h : s.Obeys rule) {e : Word} {d : Bool} : (s.plannerRun e d).Obeys rule := by
  by_cases auto : s.modeName = .auto
  · exact h.of_moving (.inr auto)
  · have none_made : s.plannerRun e d = s.setPlan (planStatus e .notAuto none none []) := if_pos auto
    rw [none_made]
    exact h.of_frame

/-- A rescue pass is made only in AUTO. -/
theorem rescuePass (h : s.Obeys rule) (allowed : s.rescueAllowed = true) {c : RescueCause} :
    (s.rescuePass c).Obeys rule :=
  h.of_moving (.inr (s.rescueAllowed_iff.mp allowed).1)

theorem epochRescue (h : s.Obeys rule) : s.epochRescue.Obeys rule := by
  unfold State.epochRescue
  split
  · next pass => exact h.rescuePass (Bool.and_eq_true_iff.mp pass).1
  · exact h

theorem signalEnd (h : s.Obeys rule) {e : Word} {d : Bool} {x : ExpiryPlace} : (s.signalEnd e d x).Obeys rule := by
  unfold State.signalEnd
  split
  · exact h.expireQueued.plannerRun.epochRescue
  · exact h.plannerRun.expireQueued.epochRescue
  · exact h.plannerRun.epochRescue.expireQueued

/-! ### The Feeder Measurement Unit (R28 to R35, R110) -/

/-- A channel is written with the health of its phase as it was. -/
theorem setChan (h : s.Obeys rule) {p : Phase} {c : PhaseChannel} (health : c.health = s.health p) :
    (s.setChan p c).Obeys rule :=
  h.of_frame (reference := State.firstNotLost_setChan health)

theorem told (h : s.Obeys rule) {p : Phase} : (s.told p).Obeys rule := by
  unfold State.told
  split
  · split
    · unfold State.reportLoss
      split
      · next allowed => exact h.rescuePass allowed
      · exact h
    · exact h
  · unfold State.enteredHealthy
    split
    · exact h.raise
    · exact h.setChan rfl
  all_goals exact h

/-- A change of health works the alignment phase out again (R35, R110), so it need not have stood before. -/
theorem healthChanged {p : Phase} {c : PhaseChannel} (h : s.Obeys rule) :
    ((s.setChan p c).healthChanged p (s.health p)).Obeys rule := by
  have now : (s.setChan p c).health p = c.health := by simp [State.health]
  by_cases same : c.health = s.health p
  · rw [State.healthChanged_of_same (now.trans same)]
    exact h.setChan same
  · rw [State.healthChanged_of_changed (now ▸ same)]
    obtain ⟨n, realigned⟩ := (((s.setChan p c).leaving (s.health p)).told p).realign_eq
    refine recheckSlots ?_
    rw [realigned]
    cases rule with
    | alignment => rfl
    | idle =>
      have changed : ((s.setChan p c).leaving (s.health p)).Obeys .idle := h
      exact changed.told
    | key =>
      have changed : ((s.setChan p c).leaving (s.health p)).Obeys .key := h
      exact changed.told
    | warning =>
      have changed : ((s.setChan p c).leaving (s.health p)).Obeys .warning := h
      exact changed.told

theorem completeCycle (h : s.Obeys rule) {p : Phase} {x : Sums} : (s.completeCycle p x).Obeys rule := h.healthChanged

theorem positiveCrossing (h : s.Obeys rule) {p : Phase} {x : Nat} {y : Sums} :
    (s.positiveCrossing p x y).Obeys rule := by
  have reported {u : State} (hu : u.Obeys rule) : ((u.openNeutralWindow p x).reportCrossing p).Obeys rule := by
    obtain ⟨n, opened⟩ := u.openNeutralWindow_eq p x
    rw [opened]
    unfold State.reportCrossing
    split
    · exact hu.setNeutral.of_frame rfl rfl rfl rfl rfl rfl
    · exact hu.setNeutral
  obtain ⟨n, closed⟩ := s.closeNeutralWindow_eq p (completedCycle s.period (s.chan p).cycle x)
  unfold State.positiveCrossing
  dsimp only
  rw [closed]
  refine reported ?_
  split
  · exact completeCycle (h.setNeutral.setChan (by rfl))
  · exact h.setNeutral.setChan (by rfl)

theorem takeSample (h : s.Obeys rule) {p : Phase} {v i : Int} : (s.takeSample p v i).Obeys rule := by
  have sampled {c : PhaseChannel} (health : c.health = s.health p) :
      ((s.atInstant ((s.chan p).sampledAt + (s.chan p).interval)).setChan p c).Obeys rule := h.atInstant.setChan health
  unfold State.takeSample
  dsimp only
  split
  · split <;> split <;> exact sampled (by rfl)
  · split
    · exact sampled (by rfl)
    · split
      · split
        · exact positiveCrossing (sampled (by rfl))
        · exact sampled (by rfl)
      · exact sampled (by rfl)

theorem neutralWindow (h : s.Obeys rule) {x : Nat} : (s.neutralWindow x).Obeys rule := by
  unfold State.neutralWindow
  dsimp only
  split
  · exact h.setNeutral.haltEvent
  · exact h.setNeutral

theorem takeWindow (h : s.Obeys rule) : s.takeWindow.Obeys rule := by
  unfold State.takeWindow
  dsimp only
  split
  · exact h.setNeutral
  · exact h.atInstant.setNeutral

/-! ### The Energy Store Monitor (R135) -/

theorem enterCharging (h : s.Obeys rule) : s.enterCharging.Obeys rule := h.of_frame

/-! ### Epochs and the day (R37, R39 to R42) -/

theorem endEpoch (h : s.Obeys rule) : s.endEpoch.Obeys rule := by
  have closed : State.Obeys rule { s.closeAverages.closeLoads.advanceEpoch with free := s.free + 1 } :=
    h.of_frame rfl rfl rfl (firstNotLost_map fun _ => rfl) rfl rfl
  exact closed.signalEnd

theorem takeOwedEnd (h : s.Obeys rule) : s.takeOwedEnd.Obeys rule := by
  unfold State.takeOwedEnd
  split
  · exact h.endEpoch
  · exact h

theorem tick (h : s.Obeys rule) : s.tick.Obeys rule := by
  have timed {x : Nat} :
      State.Obeys rule { s.takeOwedEnd.atInstant x with tbs := { s.takeOwedEnd.tbs with tickAt := x } } :=
    h.takeOwedEnd.of_frame rfl rfl rfl rfl rfl rfl
  have second {u : State} (hu : u.Obeys rule) : u.nextSecond.markEnd.Obeys rule := hu.of_frame
  exact second timed

theorem setTime (h : s.Obeys rule) {time : Nat} {day : Half} : (s.setTime time day).Obeys rule := by
  have disturbed : s.takeOwedEnd.disturb.Obeys rule := h.takeOwedEnd.of_frame rfl rfl rfl rfl rfl rfl
  exact disturbed.endEpoch.of_frame rfl rfl rfl rfl rfl rfl

end State.Obeys
end Sys2Proof.Machine
end

section
/-! The four standing rules, command by command (R110, R158, R163, R165 to R173). -/

namespace Sys2Proof.Machine

open Sys2Proof

variable {s t : State} {rule : StandingRule} {k : SlotId}

/-! ### The gates of the mode check (R71, R166) -/

/-- What the effect of a gated request keeps where the gate lets it pass is kept by its answer. -/
theorem gated_keeps_of_open {kept : State → Prop} {α : Type} {lk : Link} {arg : Option α} {gate : State → Option Status}
    {effect : α → State → Answered} (h : kept s) (effects : gate s = none → ∀ a, kept (effect a s).1) :
    kept (gated lk gate arg effect s).1 := by
  unfold gated
  split
  · split
    · exact h
    · next passed =>
      split
      · exact effects passed _
      · exact h
  · exact h

theorem moving_of_moveGate (passed : moveGate s = none) : s.modeName = .manual ∨ s.modeName = .auto := by
  cases mode : s.modeName <;> simp [moveGate, mode] at passed ⊢

/-- No mode command is taken while the part rides through. -/
theorem not_riding_of_gate (passed : startGate s = none ∨ autoOnGate s = none ∨ autoOffGate s = none
    ∨ configureGate s = none ∨ resumeGate s = none) : s.modeName ≠ .rideThrough := by
  intro rides
  simp [startGate, autoOnGate, autoOffGate, configureGate, resumeGate, rides] at passed

namespace State.Obeys

/-! ### Requests that reach the queue, the slots or the mode -/

theorem doMove (h : s.Obeys rule) (lk : Link) (payload : List Byte) : (doMove lk payload s).1.Obeys rule :=
  gated_keeps_of_open h fun passed a => by
    split
    · exact h
    · exact h.of_moving (moving_of_moveGate passed) (by simp [acceptMove, okWith]) (by simp [acceptMove, okWith])
        (by simp [acceptMove, okWith]) (by simp [acceptMove, okWith])
    · exact h

theorem doCancel (h : s.Obeys rule) (lk : Link) (payload : List Byte) : (doCancel lk payload s).1.Obeys rule :=
  controlled_keeps h fun q => by
    split
    · next r _ => exact h.endQueued (r := r) (res := .cancelled)
    · split
      · exact h.cancelSlot
      · exact h

/-- The halt record is emptied and the part goes to MANUAL (R157, R167, R170). -/
theorem begin (h : s.Obeys rule) (base : s.modeName ≠ .rideThrough) : (s.emptyHaltRecord.enterMode .manual).Obeys rule :=
  enterMode (h.setIlu (u := { s.ilu with haltRecord := [] }) (fun _ => rfl) rfl) base nofun

/-- CONFIGURE is taken by a part without work (R169). -/
theorem configure (h : s.Obeys rule) (base : s.modeName ≠ .rideThrough) (vacant : s.Vacant) :
    (s.setMode (.base .config)).Obeys rule := by
  cases rule with
  | idle => exact State.configIdle_iff.mpr fun _ => ⟨vacant.queue, vacant.slot⟩
  | warning =>
    have held : s.warningObeyed := h
    exact iff_of_false nofun (mt held.mpr base)
  | key => exact h
  | alignment => exact h

/-- RESTART leaves no work, and the mode as the supply warning says (R173). -/
theorem restart (h : s.Obeys rule) : s.restart.Obeys rule := by
  obtain ⟨v, abandoned, restarted⟩ := s.restart_eq
  have ilu : v.ilu = s.ilu := by rw [abandoned.rest]; rfl
  have alignment : v.sbc.alignment = s.sbc.alignment := by rw [abandoned.rest]; rfl
  rw [restarted]
  cases rule with
  | idle =>
    exact State.configIdle_iff.mpr fun _ => ⟨rfl, fun k => (abandoned.slot k).trans (if_pos (mem_allSlots k))⟩
  | key =>
    have held : s.keyObeyed := h
    change s.mdc.authority = if v.ilu.inputs.keyLocal.debounced then .service else .operator
    rw [ilu]
    exact held
  | warning =>
    change (restartMode s.ilu.supply).name = .rideThrough ↔ v.ilu.supply ≠ .clear
    rw [ilu, restartMode]
    split
    · next clear => exact iff_of_false nofun (not_not.mpr clear)
    · next warned => exact iff_of_true rfl warned
  | alignment =>
    have held : s.aligned := h
    change v.sbc.alignment = firstNotLost (s.fmu.chan.map clearAccumulator)
    rw [alignment, firstNotLost_map (f := clearAccumulator) fun _ => rfl]
    exact held

theorem clearInputs (h : s.Obeys rule) {x : Byte} : (s.clearInputs x).Obeys rule := by
  have cleared : (sourceInputs.foldl (fun s i => s.clearEdge x i) s).Obeys rule := h.foldl (fun u i hu => by
    unfold State.clearEdge
    split
    · split
      · exact hu.setInput fun _ _ => rfl
      · exact hu
    · exact hu) _
  unfold State.clearInputs
  dsimp only
  split
  · exact cleared.setIlu (fun _ => rfl) rfl
  · exact cleared

theorem writeType (h : s.Obeys rule) {i : InputLine} {level : Bool} : (s.writeType i level).Obeys rule := by
  have typed : (s.setInput i { s.input i with level := level }).Obeys rule := h.setInput fun _ _ => rfl
  unfold State.writeType
  dsimp only
  split
  · exact typed.setStatus
  · exact typed

/-- The nominal frequency moves the sample interval of a channel, not its health (R27). -/
theorem writeNominal (h : s.Obeys rule) {x : Nominal} : (s.writeNominal x).Obeys rule :=
  h.of_frame rfl rfl rfl (firstNotLost_map fun c => by split <;> rfl) rfl rfl

theorem writeParam (h : s.Obeys rule) {p : Param} {v : Int} (written : s.writeParam p v = some t) : t.Obeys rule := by
  have mapped {α : Type} {x : Option α} {f : α → State} (e : x.map f = some t) (hf : ∀ a, (f a).Obeys rule) :
      t.Obeys rule := by
    obtain ⟨a, -, rfl⟩ := Option.map_eq_some_iff.mp e
    exact hf a
  cases p with
  | nominal => exact mapped written fun _ => h.writeNominal
  | chatterHold | rescue => exact mapped written fun _ => h.of_frame rfl rfl rfl rfl rfl rfl
  | polarity => exact mapped written fun _ => h.setInput fun _ _ => rfl
  | inputType i =>
    obtain ⟨level, rfl⟩ := State.writeParam_inputType written
    exact h.writeType
  | debounce => exact Option.some.inj written ▸ h.setInput fun _ _ => rfl
  | _ => exact Option.some.inj written ▸ h.of_frame rfl rfl rfl rfl rfl rfl

theorem doSetParam (h : s.Obeys rule) (lk : Link) (payload : List Byte) : (doSetParam lk payload s).1.Obeys rule :=
  controlled_keeps h fun p => answered_ite_keeps h <| by
    unfold storeValue
    split
    · split
      · next written => exact h.writeParam written
      · exact h
    · exact h

theorem doQueryModule (h : s.Obeys rule) (lk : Link) (payload : List Byte) :
    (doQueryModule lk payload s).1.Obeys rule := by
  unfold Machine.doQueryModule
  split
  · exact h
  · exact answered_ite_keeps h (h.of_frame rfl rfl rfl rfl rfl rfl)

theorem doGetParam (h : s.Obeys rule) (payload : List Byte) : (doGetParam payload s).1.Obeys rule := by
  unfold Machine.doGetParam
  split
  · split <;> exact h
  · exact h

theorem doUnpin (h : s.Obeys rule) (lk : Link) (payload : List Byte) : (doUnpin lk payload s).1.Obeys rule := by
  refine answered_ite_keeps ?_ h
  split
  · exact answered_ite_keeps h.setConn h
  · exact h

/-- Every request of the catalogue. -/
theorem commandBody (h : s.Obeys rule) (lk : Link) (payload : List Byte) (c : Command) :
    (commandBody lk payload c s).1.Obeys rule := by
  have either {P : Prop} [Decidable P] {x y : Answered} (hx : P → x.1.Obeys rule) (hy : ¬ P → y.1.Obeys rule) :
      (if P then x else y).1.Obeys rule := by
    split
    · exact hx ‹_›
    · exact hy ‹_›
  have moded (P : Prop) [Decidable P] {m : BaseMode} (base : s.modeName ≠ .rideThrough) (runs : m ≠ .config) :
      (if P then s else s.enterMode m).Obeys rule := by
    split
    · exact h
    · exact h.enterMode base runs
  cases c with
  | status | readConn | readTable | readPhases | readPlan | readQueue | readSlots | readHistory | readEvents
  | readInputs => exact readWith_keeps h
  | getParam => exact h.doGetParam payload
  | queryModule => exact h.doQueryModule lk payload
  | move => exact h.doMove lk payload
  | cancel => exact h.doCancel lk payload
  | pin | hold | release =>
    exact perConnection_keeps h fun _ => unlessInSlot_keeps h h.setConn
  | setAllowance => exact controlled_keeps h fun _ => either (fun _ => h.setConn) fun _ => h
  | configConn => exact gated_keeps h fun _ => h.setConn
  | setClass => exact gated_keeps h fun _ => h.of_frame rfl rfl rfl rfl rfl rfl
  | setParam => exact h.doSetParam lk payload
  | start =>
    exact gated_keeps_of_open h fun passed _ =>
      either (fun _ => h) fun _ => either (fun _ => h) fun _ => h.begin (not_riding_of_gate (.inl passed))
  | autoOn =>
    exact gated_keeps_of_open h fun passed _ =>
      moded _ (not_riding_of_gate (.inr (.inl passed))) nofun
  | autoOff =>
    exact gated_keeps_of_open h fun passed _ =>
      moded _ (not_riding_of_gate (.inr (.inr (.inl passed)))) nofun
  | configure =>
    refine gated_keeps_of_open h fun passed _ =>
      either (fun _ => h) fun _ => either (fun empty => ?_) fun _ => h
    rw [Bool.and_eq_true, List.isEmpty_iff, State.slotsEmpty_iff] at empty
    exact h.configure (not_riding_of_gate (.inr (.inr (.inr (.inl passed))))) ⟨empty.1, empty.2⟩
  | resume =>
    exact gated_keeps_of_open h fun passed _ =>
      either (fun _ => h) fun _ => h.begin (not_riding_of_gate (.inr (.inr (.inr (.inr passed)))))
  | esRetry =>
    refine controlled_keeps h fun _ => ?_
    dsimp only [okWith]
    split
    · exact h.enterCharging
    · exact h
  | clearEvents => exact controlled_keeps h fun _ => h.of_frame rfl rfl rfl rfl rfl rfl
  | clearInputs => exact controlled_keeps h fun _ => h.clearInputs
  | setTime => exact controlled_keeps h fun _ => h.setTime
  | restart => exact controlled_keeps h fun _ => h.restart
  | unpin => exact h.doUnpin lk payload

theorem takeRequest (h : s.Obeys rule) {lk : Link} {code tag : Byte} {body : State → Answered}
    (bodies : ∀ u : State, u.Obeys rule → (body u).1.Obeys rule) : (takeRequest lk code tag body s).Obeys rule :=
  takeRequest_keeps (fun _ _ hu => hu.setPort) bodies h

theorem takeFrame (h : s.Obeys rule) (lk : Link) (code tag : Byte) (payload : List Byte) :
    (takeFrame lk code tag payload s).Obeys rule :=
  h.takeRequest fun u hu => by
    unfold requestBody
    split
    · exact hu.commandBody lk payload _
    · exact hu

theorem takeByte (h : s.Obeys rule) (lk : Link) (b : Byte) : (s.takeByte lk b).Obeys rule := by
  unfold State.takeByte
  split
  · exact h.setPort
  · exact h.takeFrame lk _ _ _

theorem takeGap (h : s.Obeys rule) (lk : Link) (b : Bool) : (s.takeGap lk b).Obeys rule := by
  unfold State.takeGap
  split
  · exact h
  · split
    · exact h.setPort
    · exact h.atInstant.setPort

/-! ### Events -/

/-- Power-on finds no work and every phase LOST; the key and the supply warning decide the authority and the mode (R148). -/
theorem powerOn (lines : PerInput Bool) (mV : Nat) (low : Bool) (s : State) : (powerOn lines mV low s).Obeys rule := by
  cases rule with
  | idle => exact State.configIdle_iff.mpr fun _ => ⟨rfl, State.reset_slot⟩
  | key => rfl
  | alignment => rfl
  | warning =>
    obtain ⟨u, inputs⟩ : ∃ u, powerOnInputs lines = u := ⟨_, rfl⟩
    have found : u.supply = .warning ∨ u.supply = .clear := by
      rw [← inputs]
      exact ite_eq_or_eq _ _ _
    change (powerOnMode (powerOnInputs lines)).mode.name = .rideThrough ↔ (powerOnInputs lines).supply ≠ .clear
    rw [inputs]
    rcases found with warned | clear
    · simp [powerOnMode, warned, Mode.name]
    · simp [powerOnMode, clear, Mode.name, BaseMode.name]

theorem toSlotInstant (h : s.Obeys rule) {instant : State → MoveRec → Option Nat} :
    (s.toSlotInstant k instant).Obeys rule := by
  unfold State.toSlotInstant
  split
  · exact h.atInstant
  · exact h

theorem select (h : s.Obeys rule) : s.select.Obeys rule := by
  unfold State.select
  split
  · exact h
  · exact h.of_frame rfl rfl rfl rfl rfl rfl

theorem clockFall (h : s.Obeys rule) : s.clockFall.Obeys rule := by
  unfold State.clockFall
  split
  · exact h.of_frame rfl rfl rfl rfl rfl rfl
  · exact h

/-- A command that answers a state it has settled. -/
theorem of_next {x : State} (h : x.Obeys rule)
    (e : (.next x.settle : Host.Outcome State Fault Refusal) = .next t) : t.Obeys rule := by
  cases e
  exact h.settle

/-- A command that settles one of two states, as its condition says. -/
theorem of_ite {P : Prop} [Decidable P] {x y : State} (hx : x.Obeys rule) (hy : y.Obeys rule)
    (e : (if P then .next x.settle else .next y.settle : Host.Outcome State Fault Refusal) = .next t) :
    t.Obeys rule := by
  split at e
  · exact hx.of_next e
  · exact hy.of_next e

end State.Obeys

/-- Every command keeps each of the standing rules, whatever becomes of the others. -/
theorem exec_obeys (c : Instr) (h : s.Obeys rule) (e : exec c s = .next t) : t.Obeys rule := by
  have request {lk : Link} {tag : Byte} {payload : List Byte} (c : Command)
      (e : (.next (takeRequest lk c.code tag (commandBody lk payload c) s).settle : Host.Outcome State Fault Refusal)
        = .next t) : t.Obeys rule := (h.takeRequest fun _ hu => hu.commandBody lk payload c).of_next e
  have message (m : Arrival) (e : (.next (s.takeMessage m).settle : Host.Outcome State Fault Refusal) = .next t) :
      t.Obeys rule := h.takeMessage.of_next e
  have byte (lk : Link) (b : Byte) (e : (.next (s.takeByte lk b).settle : Host.Outcome State Fault Refusal) = .next t) :
      t.Obeys rule := (h.takeByte lk b).of_next e
  have sample (p : Phase) (v i : Int)
      (e : (.next (s.takeSample p v i).settle : Host.Outcome State Fault Refusal) = .next t) :
      t.Obeys rule := h.takeSample.of_next e
  have line (i : InputLine) (b : Bool)
      (e : (.next (s.sampleInput i b).settle : Host.Outcome State Fault Refusal) = .next t) :
      t.Obeys rule := h.sampleInput.of_next e
  cases c with
  | powerOnReset lines mV low => exact (State.Obeys.powerOn lines mV low s).of_next e
  | status => exact request .status e
  | readConn => exact request .readConn e
  | readTable => exact request .readTable e
  | readPhases => exact request .readPhases e
  | readPlan => exact request .readPlan e
  | readQueue => exact request .readQueue e
  | readSlots => exact request .readSlots e
  | readHistory => exact request .readHistory e
  | readEvents => exact request .readEvents e
  | readInputs => exact request .readInputs e
  | getParam => exact request .getParam e
  | queryModule => exact request .queryModule e
  | move => exact request .move e
  | cancel => exact request .cancel e
  | pin => exact request .pin e
  | unpin => exact request .unpin e
  | hold => exact request .hold e
  | release => exact request .release e
  | setAllowance => exact request .setAllowance e
  | configConn => exact request .configConn e
  | setClass => exact request .setClass e
  | setParam => exact request .setParam e
  | start => exact request .start e
  | autoOn => exact request .autoOn e
  | autoOff => exact request .autoOff e
  | configure => exact request .configure e
  | resume => exact request .resume e
  | esRetry => exact request .esRetry e
  | clearEvents => exact request .clearEvents e
  | clearInputs => exact request .clearInputs e
  | setTime => exact request .setTime e
  | restart => exact request .restart e
  | linkFrameDiscarded lk b => exact byte lk b e
  | linkByteReceived lk b => exact byte lk b e
  | linkGapTimeout lk b => exact (h.takeGap lk b).of_next e
  | unknownCommand lk code tag payload => exact (h.takeFrame lk code tag payload).of_next e
  | replySent lk => exact h.setPort.of_next e
  | acceptedCrossing p v i => exact sample p v i e
  | samplePair p v i => exact sample p v i e
  | noCrossingLoss p => exact h.of_ite h.atInstant.healthChanged e
  | neutralWindowEnd samples => exact h.takeWindow.neutralWindow.of_ite h e
  | secondTick => exact h.tick.of_next e
  | dayRollover => exact h.tick.of_ite h e
  | epochEnd => exact h.takeOwedEnd.of_next e
  | debounceComplete i b => exact line i b e
  | inputSample i b => exact line i b e
  | supplyClearingTimeout =>
    simp only [exec, execSupplyClearingTimeout] at e
    split at e
    · next since clearing => exact (h.atInstant.qualifiedClear (by simp [clearing])).of_next e
    all_goals exact h.of_next e
  | storeVoltageRenewal mV => exact h.of_frame.of_next e
  | chargeTimeout =>
    simp only [exec, execChargeTimeout] at e
    split at e
    · exact h.atInstant.setStore.haltEvent.of_next e
    all_goals exact h.of_next e
  | recoveryEnd =>
    simp only [exec, execRecoveryEnd] at e
    split at e
    · exact h.atInstant.enterCharging.of_ite h e
    · exact h.of_next e
  | frameBoundary =>
    simp only [exec, execFrameBoundary] at e
    split at e
    · exact h.atInstant.frameBoundary.of_next e
    · exact h.of_next e
  | unitStart =>
    simp only [exec, execUnitStart] at e
    split at e
    · exact h.beginUnit.of_ite h.beginUnit.arbitrate e
    · exact h.of_next e
  | pollReply m => exact message m e
  | actuationReply m => exact message m e
  | passThroughReply m => exact message m e
  | transactionMissed => exact h.missTransaction.of_next e
  | gapPoint k =>
    simp only [exec, execGapPoint] at e
    split at e
    · exact h.toSlotInstant.enterWaitMake.of_ite h.toSlotInstant e
    · exact h.toSlotInstant.of_next e
  | orphanDeadline k =>
    simp only [exec, execOrphanDeadline] at e
    split at e
    · exact h.toSlotInstant.enterOrphaned.of_ite h.toSlotInstant e
    · exact h.toSlotInstant.of_next e
  | darkDeadline k =>
    simp only [exec, execDarkDeadline] at e
    split at e
    · exact h.toSlotInstant.endRecord.of_ite h.toSlotInstant e
    · exact h.toSlotInstant.of_next e
  | admission => exact h.takeAdmission.of_next e
  | summarySelect => exact h.select.of_next e
  | summaryDeselect => exact (h.of_frame (t := s.deselect) rfl rfl rfl rfl rfl rfl).of_next e
  | summaryClockFallingEdge => exact h.clockFall.of_next e

end Sys2Proof.Machine

open Sys2Proof Sys2Proof.Machine

/-- Settles O9: each of the four is one standing rule, kept operation by operation. -/
theorem modesAuthorityAndAlignmentKept : Obligations.ModesAuthorityAndAlignmentKept :=
  have kept (rule : StandingRule) : keptByEveryCommand (State.Obeys rule) := fun c _ _ h e => exec_obeys c h e
  ⟨kept .idle, kept .key, kept .warning, kept .alignment⟩
end

section
/-! QUERY_MODULE (R118), and the replies of the modules read back (R121, R124, R190). -/

namespace Sys2Proof.Machine

open Sys2Proof

variable {s : State} {lk : Link} {tag : Byte} {n : ConnId}

/-- A request whose result is not known yet leaves its port answering, without a reply (R176). -/
theorem takeRequest_awaited {code : Byte} {body : State → Answered} {u : State} (free : s.portFree lk)
    (result : body (s.asking lk code tag) = (u, none)) : takeRequest lk code tag body s = u := by
  rw [takeRequest_of_free _ _ _ _ _ free, result]

/-- A query that finds the list full, or one of its connection there, is refused (R118). -/
theorem doQueryModule_refused (pending : 2 ≤ s.sbc.queries.length ∨ ∃ q ∈ s.sbc.queries, q.conn = n) :
    doQueryModule lk (u8 (connNumber n)) s = refuse .retry s := by
  have barred : 2 ≤ s.sbc.queries.length ∨ (s.sbc.queries.any fun q => q.conn == n) = true := by
    simpa only [List.any_eq_true, beq_iff_eq] using pending
  simp only [doQueryModule, argConn_connNumber]
  exact if_pos barred

/-- Any other query joins the list behind those that wait, its result not known yet (R118). -/
theorem doQueryModule_joins (room : s.sbc.queries.length < 2) (other : ∀ q ∈ s.sbc.queries, q.conn ≠ n) :
    doQueryModule lk (u8 (connNumber n)) s = ({ s with sbc := { s.sbc with
      queries := s.sbc.queries ++ [{ link := lk, conn := n, onBus := false, answered := false }] } }, none) := by
  have free : ¬ (2 ≤ s.sbc.queries.length ∨ (s.sbc.queries.any fun q => q.conn == n) = true) := by
    simp only [List.any_eq_true, beq_iff_eq, not_or, Nat.not_le, not_exists, not_and]
    exact ⟨room, other⟩
  simp only [doQueryModule, argConn_connNumber]
  exact if_neg free

end Sys2Proof.Machine

open Sys2Proof Sys2Proof.Machine

/-- Settles O37: refused or joining in the asking state, whose list is that of the state before. -/
theorem queryModuleJoinsTheList : Obligations.QueryModuleJoinsTheList := by
  intro s lk tag n free
  refine ⟨fun pending => ?_, fun room other => ?_⟩
  · exact settled_congr (takeRequest_refuse .retry free (doQueryModule_refused (s := s.asking lk 0x0C tag) pending))
  · exact settled_congr (takeRequest_awaited free (doQueryModule_joins (s := s.asking lk 0x0C tag) room other))

/-- Settles O38: each message's own reading back. -/
theorem busRepliesRoundTrip : Obligations.BusRepliesRoundTrip :=
  ⟨fun n _ low high => judgePoll_pollReplyMessage n low high,
    fun n _ x low high => judgePassThrough_passThroughReplyMessage n x low high,
    fun n isBreak _ closed fits => judgeActuation_actuationReplyMessage n isBreak closed fits⟩
end

section
/-! The unit arbiter (R111, R115 to R120): the start of a unit, the claim it goes to, and the two rotations. -/

namespace Sys2Proof.Machine

open Sys2Proof

variable {s : State} {k : SlotId} {x : Slot} {n m : ConnId} {u : Nat}

/-! ### The claims in their order (R115) -/

theorem State.claimVerify_nil (none_due : s.sbc.verifyPolls = []) : s.claimVerify = none := by
  rw [State.claimVerify, none_due, List.findSome?_nil]

theorem State.claimVerify_cons {ks : List SlotId} (due : s.sbc.verifyPolls = k :: ks) (slot : s.slot k = some x) :
    s.claimVerify = some (k, x) := by
  rw [State.claimVerify, due, List.findSome?_cons, slot, Option.map_some]

theorem State.claimQuery_nil (none_waits : s.sbc.queries = []) : s.claimQuery u = none := by
  rw [State.claimQuery, none_waits]
  split <;> rfl

theorem State.claimQuery_cons {q : Query} {qs : List Query} (queries : s.sbc.queries = q :: qs) (waits : q.onBus = false)
    (fits : u + 1 ≤ 12) : s.claimQuery u = some q := by
  rw [State.claimQuery, if_pos fits, queries, List.find?_cons_of_pos (by simp [waits])]

theorem State.arbitrate_verify (verify : s.claimVerify = some (k, x)) : s.arbitrate u = s.startVerify u k x := by
  simp only [State.arbitrate, verify]

section Arbitrate
variable (verify : s.claimVerify = none) (query : s.claimQuery u = none)

include verify

theorem State.arbitrate_query {q : Query} (query : s.claimQuery u = some q) : s.arbitrate u = s.startQuery u q := by
  simp only [State.arbitrate, verify, query]

include query

theorem State.arbitrate_probe (probe : s.claimProbe = some n) : s.arbitrate u = s.startProbe u n := by
  simp only [State.arbitrate, verify, query, probe]

theorem State.arbitrate_survey (probe : s.claimProbe = none) (survey : s.claimSurvey = some n) :
    s.arbitrate u = s.startSurvey u n := by
  simp only [State.arbitrate, verify, query, probe, survey]

theorem State.arbitrate_none (probe : s.claimProbe = none) (survey : s.claimSurvey = none) : s.arbitrate u = s := by
  simp only [State.arbitrate, verify, query, probe, survey]

end Arbitrate

theorem State.startSurvey_of_new (new : n ∉ s.sbc.surveyed) : s.startSurvey u n =
    ({ s with sbc := { s.sbc with surveyPos := connNumber n, surveyed := s.sbc.surveyed ++ [n] } } : State).startTxn u 1 n
      .survey (pollRequest n) :=
  if_neg (by simpa using new)

theorem State.startSurvey_of_surveyed (again : n ∈ s.sbc.surveyed) :
    s.startSurvey u n = { s with sbc := { s.sbc with surveyStopped := true } } :=
  if_pos (by simpa using again)

/-- Whatever is started, the unit is the one begun. -/
theorem State.arbitrate_unit (s : State) (u : Nat) : (s.arbitrate u).sbc.unit = s.sbc.unit := by
  unfold State.arbitrate
  split
  case h_4 =>
    unfold State.startSurvey
    split <;> rfl
  all_goals rfl

/-! ### A unit in which no transaction runs (R111, R115) -/

/-- The state in which the arbiter of a unit decides: the clock at the start of the unit, nothing sent in it. -/
def State.unitBegun (s : State) : State :=
  { s.atInstant (s.sbc.boundaryAt + s.sbc.unit * s.sbc.unitLength) with
    sbc := { s.sbc with unit := s.sbc.unit + 1, sent := [] } }

/-- With no transaction in progress there is none whose window could end. -/
theorem State.beginUnit_of_idle (idle : s.sbc.txn = none) : s.beginUnit = s.unitBegun := by
  simp only [State.beginUnit, State.unitBegun, State.atInstant_sbc, idle]

theorem exec_unitStart_idle (idle : s.sbc.txn = none) (left : s.sbc.unit < 12) (free : s.sbc.busyThrough ≤ s.sbc.unit) :
    exec .unitStart s = .next (s.unitBegun.arbitrate (s.sbc.unit + 1)).settle := by
  have beyond : ¬ s.unitBegun.sbc.unit ≤ s.unitBegun.sbc.busyThrough := Nat.not_le.mpr (Nat.lt_succ_of_le free)
  simp only [exec, execUnitStart]
  rw [if_pos left, State.beginUnit_of_idle idle, if_neg beyond]
  rfl

/-! ### The rotations (R119, R120) -/

theorem turnsAway_inj {position : Nat} (range : position ≤ 96) (same : turnsAway position n = turnsAway position m) :
    n = m := by
  have n_range := n.isLt
  have m_range := m.isLt
  simp only [turnsAway] at same
  exact Fin.ext (by omega)

theorem mem_rotation (position : Nat) (n : ConnId) : n ∈ rotation position := by
  rw [rotation, List.mem_append, or_comm, ← List.mem_append, List.take_append_drop]
  exact List.mem_finRange n

theorem position_le_of_mem_drop {position : Nat} (h : n ∈ allConns.drop position) : position ≤ n.val := by
  obtain ⟨i, bound, rfl⟩ := List.mem_iff_getElem.mp h
  simp [allConns]

theorem lt_position_of_mem_take {position : Nat} (h : n ∈ allConns.take position) : n.val < position := by
  obtain ⟨i, bound, rfl⟩ := List.mem_iff_getElem.mp h
  rw [List.length_take] at bound
  simp [allConns]
  omega

/-- The rotation goes from the connection after the position round to the one at it. -/
theorem rotation_sorted {position : Nat} (range : position ≤ 96) :
    (rotation position).Pairwise fun x y => turnsAway position x < turnsAway position y := by
  have ascending : allConns.Pairwise (· < ·) := List.pairwise_lt_finRange 96
  refine List.pairwise_append.mpr ⟨?_, ?_, fun x behind y before => ?_⟩
  · refine (ascending.drop).imp_of_mem fun {x y} hx hy less => ?_
    rw [Fin.lt_def] at less
    have x_behind := position_le_of_mem_drop hx
    have y_behind := position_le_of_mem_drop hy
    simp only [turnsAway]
    omega
  · refine (ascending.take).imp_of_mem fun {x y} hx hy less => ?_
    rw [Fin.lt_def] at less
    have x_before := lt_position_of_mem_take hx
    have y_before := lt_position_of_mem_take hy
    simp only [turnsAway]
    omega
  · have x_behind := position_le_of_mem_drop behind
    have y_before := lt_position_of_mem_take before
    simp only [turnsAway]
    omega

/-- The rotation finds the connection with a property that is the fewest turns away. -/
theorem find?_rotation {position : Nat} (range : position ≤ 96) {p : ConnId → Bool} :
    (rotation position).find? p = some n
      ↔ p n = true ∧ ∀ m, p m = true → turnsAway position n ≤ turnsAway position m := by
  have first {n : ConnId} (found : (rotation position).find? p = some n) (m : ConnId) (also : p m = true) :
      turnsAway position n ≤ turnsAway position m := by
    obtain ⟨-, before, after, parts, passed⟩ := List.find?_eq_some_iff_append.mp found
    have sorted := rotation_sorted range
    have mem := mem_rotation position m
    rw [parts] at sorted mem
    rcases List.mem_append.mp mem with mem | mem
    · have not_also := passed m mem
      simp [also] at not_also
    · rcases List.mem_cons.mp mem with rfl | mem
      · exact le_rfl
      · exact ((List.pairwise_cons.mp (List.pairwise_append.mp sorted).2.1).1 m mem).le
  refine ⟨fun found => ⟨List.find?_some found, first found⟩, fun ⟨own, least⟩ => ?_⟩
  obtain ⟨m, found⟩ := Option.isSome_iff_exists.mp (List.find?_isSome.mpr ⟨n, mem_rotation position n, own⟩)
  rw [found, turnsAway_inj range (le_antisymm (first found n own) (least m (List.find?_some found)))]

theorem find?_rotation_eq_none {position : Nat} {p : ConnId → Bool} :
    (rotation position).find? p = none ↔ ∀ m, ¬ p m = true := by
  rw [List.find?_eq_none]
  exact ⟨fun h m => h m (mem_rotation position m), fun h m _ => h m⟩

/-! ### Which connection is surveyed or probed (R119, R120) -/

theorem State.pollable_iff : s.pollable n = true
    ↔ (s.conn n).present = true ∧ (s.stageOf n = none ∨ s.stageOf n = some .waitBreak) := by
  rw [State.pollable, Bool.and_eq_true]
  refine and_congr_right fun _ => ?_
  cases s.stageOf n with
  | none => simp
  | some stage => cases stage <;> simp

theorem State.surveyable_iff : s.surveyable n = true ↔ ((s.conn n).present = true
    ∧ (s.stageOf n = none ∨ s.stageOf n = some .waitBreak)) ∧ (s.conn n).link ≠ .offline := by
  rw [State.surveyable, Bool.and_eq_true, State.pollable_iff, bne_iff_ne]

theorem State.probeDue_iff : s.probeDue n = true ↔ ((s.conn n).present = true
    ∧ (s.stageOf n = none ∨ s.stageOf n = some .waitBreak)) ∧ (s.conn n).link = .offline
    ∧ ∀ f, s.sbc.lastProbe[n] = some f → 50 ≤ (s.sbc.frame - f).toNat := by
  rw [State.probeDue, Bool.and_eq_true, Bool.and_eq_true, State.pollable_iff, beq_iff_eq, and_assoc]
  refine and_congr_right fun _ => and_congr_right fun _ => ?_
  cases s.sbc.lastProbe[n] <;> simp

theorem State.claimSurvey_eq : s.claimSurvey
    = if s.sbc.surveyStopped = true then none else (rotation s.sbc.surveyPos).find? s.surveyable := rfl

theorem State.claimProbe_eq : s.claimProbe
    = if s.sbc.probed = true then none else (rotation s.sbc.probePos).find? s.probeDue := rfl

/-- A claim that is dropped once its frame has had enough of it. -/
theorem claim_eq_some {dropped : Bool} {o : Option ConnId} :
    (if dropped = true then none else o) = some n ↔ dropped = false ∧ o = some n := by
  cases dropped <;> simp

theorem claim_eq_none {dropped : Bool} {o : Option ConnId} :
    (if dropped = true then none else o) = none ↔ dropped = true ∨ o = none := by
  cases dropped <;> simp

end Sys2Proof.Machine

open Sys2Proof Sys2Proof.Machine

/-- Settles O47: the unit begun, then claim by claim; the rotations by the connection the fewest turns away. -/
theorem unitGoesToTheFirstClaim : Obligations.UnitGoesToTheFirstClaim := by
  refine ⟨fun s idle left free => ?_, fun s surveyPos probePos => ?_⟩
  · refine ⟨_, exec_unitStart_idle idle left free, (State.arbitrate_unit _ _ :), ?_, ?_, fun k ks sl due slot => ?verify,
      fun q qs polls queries waits two => ?query, fun n polls queries probe => ?probe,
      fun n polls queries probe survey new => ?survey, fun n polls queries probe survey again => ?stopped,
      fun polls queries probe survey => ?none⟩
    case verify =>
      rw [State.arbitrate_verify (s := s.unitBegun) (State.claimVerify_cons due slot)]
      exact ⟨rfl, rfl⟩
    case query =>
      rw [State.arbitrate_query (s := s.unitBegun) (State.claimVerify_nil polls)
        (State.claimQuery_cons queries waits (by omega))]
      exact ⟨rfl, rfl⟩
    case probe =>
      rw [State.arbitrate_probe (s := s.unitBegun) (State.claimVerify_nil polls) (State.claimQuery_nil queries) probe]
      exact ⟨rfl, rfl, rfl, Vector.getElem_set_self _⟩
    case survey =>
      rw [State.arbitrate_survey (s := s.unitBegun) (State.claimVerify_nil polls) (State.claimQuery_nil queries) probe
        survey, State.startSurvey_of_new (s := s.unitBegun) new]
      exact ⟨rfl, rfl, rfl⟩
    case stopped =>
      rw [State.arbitrate_survey (s := s.unitBegun) (State.claimVerify_nil polls) (State.claimQuery_nil queries) probe
        survey, State.startSurvey_of_surveyed (s := s.unitBegun) again]
      exact ⟨idle, rfl, rfl, rfl⟩
    case none =>
      rw [State.arbitrate_none (s := s.unitBegun) (State.claimVerify_nil polls) (State.claimQuery_nil queries) probe
        survey]
      exact ⟨idle, rfl⟩
    · simp [State.settle, State.unitBegun]
    · simp [State.settle, State.unitBegun]
  · refine ⟨fun n => ?_, fun n => ?_, ?_, ?_⟩
    · simp only [State.claimSurvey_eq, claim_eq_some, find?_rotation surveyPos, State.surveyable_iff]
    · simp only [State.claimProbe_eq, claim_eq_some, find?_rotation probePos, State.probeDue_iff]
    · simp only [State.claimSurvey_eq, claim_eq_none, find?_rotation_eq_none, State.surveyable_iff]
    · simp only [State.claimProbe_eq, claim_eq_none, find?_rotation_eq_none, State.probeDue_iff]
end

section
/-! The Energy Store Monitor (R134 to R137, R140, R141): charging entered afresh, a renewal judged by the store's state,
the charge timeout and the end of a recovery. -/

namespace Sys2Proof.Machine

open Sys2Proof

variable {s : State} {lk : Link} {code tag : Byte} {e : EventKind} {h : HaltSource} {i mV : Nat}

/-! ### CHARGING entered afresh (R135) -/

theorem State.enterCharging_of_ready (charged : s.params.readyLevel ≤ s.esm.voltage) :
    s.enterCharging = s.setStore .ready := if_pos charged

theorem State.enterCharging_of_low (low : s.esm.voltage < s.params.readyLevel) :
    s.enterCharging = s.setStore (.charging s.now (s.params.chargeTimeout * 1000)) := if_neg (Nat.not_le.mpr low)

/-! ### ES_RETRY (R141) -/

/-- ES_RETRY of the link in control is accepted in every state, and acts on a store in FAULT alone. -/
theorem doEsRetry_asking (auth : s.mdc.authority = lk) : doEsRetry lk [] (s.asking lk code tag) =
    okWith [] (if s.esm.store = .fault then (s.asking lk code tag).enterCharging else s.asking lk code tag) :=
  controlled_inControl _ _ _ _ auth

/-- A retry whose effect sets the store alone leaves the store so set, answering OK. -/
theorem exec_esRetry_fault {x : StoreState} (free : s.portFree lk) (auth : s.mdc.authority = lk)
    (fault : s.esm.store = .fault)
    (entered : (s.asking lk 0x2E tag).enterCharging = (s.asking lk 0x2E tag).setStore x) :
    exec (.esRetry lk tag []) s = .next ((s.setStore x).answering lk 0x2E tag [0x00]).settle := by
  refine settled_congr (takeRequest_effect _ _ _ _ free rfl ((doEsRetry_asking auth).trans ?_))
  exact congrArg (okWith []) ((if_pos fault).trans entered)

/-! ### A renewal of the voltage (R134 to R136) -/

/-- The state a renewal is judged in: the clock at the renewal's instant, the new reading stored. -/
def State.voltageRead (s : State) (mV : Nat) : State :=
  { s with
    now := max s.now (s.esm.renewedAt + Config.ticksPerMs)
    esm := { s.esm with voltage := storeReading mV, renewedAt := s.esm.renewedAt + Config.ticksPerMs } }

theorem exec_storeVoltageRenewal :
    exec (.storeVoltageRenewal mV) s = .next (s.voltageRead mV).judgeVoltage.settle := rfl

theorem State.judgeVoltage_charging {since timeout : Nat} (store : s.esm.store = .charging since timeout) :
    s.judgeVoltage = if s.params.readyLevel ≤ s.esm.voltage then s.setStore .ready else s := by
  simp only [State.judgeVoltage, store]

theorem State.judgeVoltage_ready (store : s.esm.store = .ready) :
    s.judgeVoltage = if s.esm.voltage + 20 < s.params.readyLevel
      then s.setStore (.charging s.now (s.params.chargeTimeout * 1000)) else s := by
  simp only [State.judgeVoltage, store]

theorem State.judgeVoltage_kept (store : s.esm.store = .fault ∨ ∃ count g, s.esm.store = .recovery count g) :
    s.judgeVoltage = s := by
  rcases store with store | ⟨count, g, store⟩ <;> simp only [State.judgeVoltage, store]

/-! ### CHARGE_TIMEOUT (R135, R137, R155, R171) -/

/-- The store at FAULT at the instant its charge timer runs out, before the halt event. -/
def State.timedOut (s : State) (since timeout : Nat) : State :=
  (s.atInstant (since + msToTicks timeout)).setStore .fault

theorem exec_chargeTimeout {since timeout : Nat} (store : s.esm.store = .charging since timeout) :
    exec .chargeTimeout s = .next ((s.timedOut since timeout).haltEvent .esFault).settle := by
  simp only [exec, execChargeTimeout, store]
  rfl

/-- The status of a condition kind is set in a settled state exactly while its condition holds (R191). -/
theorem State.settle_condition (s : State) (kind : e ∈ conditionKinds) :
    s.settle.evu.statuses.getLsbD e.bit = s.condition e := by
  have member : ∀ e ∈ conditionKinds, conditionMask.getLsbD e.bit = true := by decide
  have own (e x : EventKind) : x.mask.getLsbD e.bit = decide (x = e) := by cases e <;> cases x <;> decide
  rw [State.settle_statuses, State.statusesNow, BitVec.getLsbD_or, BitVec.getLsbD_and, BitVec.getLsbD_not,
    member e kind]
  simp only [State.conditionBits, BitVec.getLsbD_or, apply_ite (fun w : Half => w.getLsbD e.bit), own]
  simp only [conditionKinds, List.mem_cons, List.not_mem_nil, or_false] at kind
  rcases kind with rfl | rfl | rfl | rfl | rfl | rfl | rfl <;> simp

/-- A halt event of a masked source in MANUAL or AUTO leaves the part HALTED and its queue flushed (R76, R171). -/
theorem State.haltEvent_halts (masked : s.masked h = true) (mode : s.modeName = .manual ∨ s.modeName = .auto) :
    (s.haltEvent h).mdc.mode = .base .halted ∧ (s.haltEvent h).mvq.queue = [] := by
  obtain ⟨b, base, running⟩ : ∃ b, s.mdc.mode = .base b ∧ (b = .manual ∨ b = .auto) := by
    cases stands : s.mdc.mode with
    | base b => cases b <;> simp [State.modeName, stands, Mode.name, BaseMode.name] at mode ⊢
    | rideThrough b => simp [State.modeName, stands, Mode.name] at mode
  have through : s.modeName ≠ .rideThrough := by rcases mode with mode | mode <;> simp [mode]
  obtain ⟨queue, -, mdc, -⟩ := (s.stopping h).flushAndTreat_spec
  rw [State.haltEvent_running masked (.inl base) running]
  exact ⟨(congrArg Mdc.mode mdc).trans (if_neg through), queue⟩

/-! ### RECOVERY_END (R140) -/

/-- At a due boundary that reaches the recovery frames the store charges afresh, at the boundary's instant. -/
theorem exec_recoveryEnd {count : Nat} {g : Grant} (store : s.esm.store = .recovery count g)
    (last : g.recovery ≤ count + 1) (due : s.boundaryInstant = some i) :
    exec .recoveryEnd s = .next (s.atInstant i).enterCharging.settle := by
  simp only [exec, execRecoveryEnd, due, State.recoveryEnds, store, decide_eq_true last, if_true]

end Sys2Proof.Machine

open Sys2Proof Sys2Proof.Machine

/-- Settles O33: accepted from the link in control only, and a store in FAULT enters CHARGING by its voltage. -/
theorem esRetryTaken : Obligations.EsRetryTaken := by
  refine fun s lk tag free => ⟨fun barred => ?_, fun auth fault low => ?_, fun auth fault charged => ?_,
    fun auth store => ?_⟩
  · exact settled_congr (takeRequest_refuse .notInControl free (controlled_otherLink _ _ _ _ barred))
  · exact exec_esRetry_fault free auth fault (State.enterCharging_of_low (s := s.asking lk 0x2E tag) low)
  · exact exec_esRetry_fault free auth fault (State.enterCharging_of_ready (s := s.asking lk 0x2E tag) charged)
  · exact settled_congr (takeRequest_ok free ((doEsRetry_asking auth).trans (congrArg (okWith []) (if_neg store))))

/-- Settles O48: a renewal by the state of the store, the timeout by the halt event of ES_FAULT, and the end of a
recovery by CHARGING entered afresh. -/
theorem storeEventsTaken : Obligations.StoreEventsTaken := by
  refine ⟨fun s mV => ?renewal,
    fun s => ⟨fun since timeout store => ?timeout, fun i count g store last due => ?recovery⟩⟩
  case renewal =>
    dsimp only
    refine ⟨fun a b store charged => ?_, fun a b store low => ?_, fun store low => ?_, fun store charged => ?_,
      fun store => ?_⟩
    · exact settled_congr ((State.judgeVoltage_charging (s := s.voltageRead mV) store).trans (if_pos charged))
    · exact settled_congr ((State.judgeVoltage_charging (s := s.voltageRead mV) store).trans
        (if_neg (Nat.not_le.mpr low)))
    · exact settled_congr ((State.judgeVoltage_ready (s := s.voltageRead mV) store).trans (if_pos low))
    · exact settled_congr ((State.judgeVoltage_ready (s := s.voltageRead mV) store).trans
        (if_neg (Nat.not_lt.mpr charged)))
    · exact settled_congr (State.judgeVoltage_kept (s := s.voltageRead mV) store)
  case timeout =>
    have esm : ((s.timedOut since timeout).haltEvent .esFault).esm = { s.esm with store := .fault } := by
      simp [State.timedOut]
    refine ⟨_, exec_chargeTimeout store, congrArg Esm.store esm, by simp [State.timedOut], ?status,
      by simp [State.timedOut], fun unmasked => ?quiet, fun masked mode => ?halts⟩
    case status =>
      refine (State.settle_condition (e := .esFault) _ (by decide)).trans ?_
      rw [State.condition, esm]
      rfl
    case quiet =>
      rw [State.haltEvent_unmasked (s := s.timedOut since timeout) (h := .esFault) unmasked]
      exact ⟨rfl, rfl, rfl, rfl⟩
    case halts => exact State.haltEvent_halts (s := s.timedOut since timeout) masked mode
  case recovery =>
    refine ⟨fun low => ?_, fun charged => ?_⟩
    · exact (exec_recoveryEnd store last due).trans
        (settled_congr (State.enterCharging_of_low (s := s.atInstant i) low))
    · exact (exec_recoveryEnd store last due).trans
        (settled_congr (State.enterCharging_of_ready (s := s.atInstant i) charged))
end

section
/-! CLEAR_INPUTS (R151): the interlock record it leaves, and the answer at a free port. -/

namespace Sys2Proof.Machine

open Sys2Proof

variable {s : State} {lk : Link} {tag sel : Byte} {i : InputLine} {r : InputRec}

/-! ### One input -/

/-- The halt source an input asserts is selected. -/
def inputSelected (sel : Byte) (i : InputLine) : Bool :=
  match haltSourceOf i with
  | some h => sel.getLsbD h.bit
  | none => false

/-- The record of an input after CLEAR_INPUTS: a selected status of type EDGE is clear. -/
def clearedInput (sel : Byte) (i : InputLine) (r : InputRec) : InputRec :=
  { r with status := r.status && !(!r.level && inputSelected sel i) }

theorem clearedInput_of_selected (edge : r.level = false) (selected : inputSelected sel i = true) :
    clearedInput sel i r = { r with status := false } := by
  simp [clearedInput, edge, selected]

theorem clearedInput_of_kept (kept : r.level = true ∨ inputSelected sel i = false) : clearedInput sel i r = r := by
  have status : (r.status && !(!r.level && inputSelected sel i)) = r.status := by
    rcases kept with kept | kept <;> simp [kept]
  rw [clearedInput, status]

theorem State.setInput_input (s : State) (i : InputLine) : s.setInput i (s.input i) = s := by
  cases i <;> rfl

theorem State.clearEdge_eq (s : State) (sel : Byte) (i : InputLine) :
    s.clearEdge sel i = s.setInput i (clearedInput sel i (s.input i)) := by
  unfold State.clearEdge
  split
  · next h source =>
    have selects : inputSelected sel i = sel.getLsbD h.bit := by rw [inputSelected, source]
    split
    · next edge =>
      rw [Bool.and_eq_true, Bool.not_eq_true', ← selects] at edge
      rw [clearedInput_of_selected edge.2 edge.1]
    · next kept =>
      rw [Bool.and_eq_true, Bool.not_eq_true', ← selects, not_and_or, Bool.not_eq_true, Bool.not_eq_false] at kept
      rw [clearedInput_of_kept kept.symm, s.setInput_input]
  · next source =>
    rw [clearedInput_of_kept (.inr (by rw [inputSelected, source])), s.setInput_input]

/-! ### The interlock record -/

/-- The interlock record after CLEAR_INPUTS. -/
def Ilu.cleared (u : Ilu) (sel : Byte) : Ilu :=
  { u with
    inputs := { u.inputs with
      rlyBlock := clearedInput sel .rlyBlock u.inputs.rlyBlock
      rlyTrip := clearedInput sel .rlyTrip u.inputs.rlyTrip
      door := clearedInput sel .door u.inputs.door
      aux1 := clearedInput sel .aux1 u.inputs.aux1
      aux2 := clearedInput sel .aux2 u.inputs.aux2 }
    mapFault := u.mapFault && !sel.getLsbD 7 }

/-- Every input is cleared as its selection says; KEY_LOCAL and SUPPLY_WARN assert no source and stay. -/
theorem Ilu.input_cleared (u : Ilu) (sel : Byte) (i : InputLine) :
    inputOf (u.cleared sel).inputs i = clearedInput sel i (inputOf u.inputs i) := by
  cases i with
  | keyLocal | supplyWarn => exact (clearedInput_of_kept (.inr rfl)).symm
  | rlyBlock | rlyTrip | door | aux1 | aux2 => rfl

/-- CLEAR_INPUTS changes the interlock record alone. -/
theorem State.clearInputs_eq (s : State) (sel : Byte) : s.clearInputs sel = { s with ilu := s.ilu.cleared sel } := by
  simp only [State.clearInputs, sourceInputs, List.foldl_cons, List.foldl_nil, State.clearEdge_eq, State.setInput,
    State.input, withInput, inputOf, HaltSource.bit, Ilu.cleared]
  cases sel.getLsbD 7 with
  | true => simp only [if_true, Bool.not_true, Bool.and_false]
  | false => simp only [Bool.false_eq_true, if_false, Bool.not_false, Bool.and_true]

/-! ### The answer -/

/-- CLEAR_INPUTS of the link in control is accepted, answering the sources asserted afterwards. -/
theorem exec_clearInputs (free : s.portFree lk) (auth : s.mdc.authority = lk) :
    exec (.clearInputs lk tag [sel]) s
      = .next ((s.clearInputs sel).answering lk 0x30 tag (0x00 :: u8 (s.clearInputs sel).assertedSet)).settle := by
  refine settled_congr (takeRequest_effect _ _ _ _ free (by simp) ((controlled_inControl _ _ _ _ auth).trans ?_))
  rw [State.clearInputs_eq, State.clearInputs_eq]
  rfl

end Sys2Proof.Machine

open Sys2Proof Sys2Proof.Machine

/-- Settles O35: refused from the other link; from the link in control the interlock record cleared, all else kept. -/
theorem clearInputsTaken : Obligations.ClearInputsTaken := by
  refine fun s lk tag sel free => ⟨fun barred => ?_, fun auth => ⟨_, exec_clearInputs free auth, ?_⟩⟩
  · exact settled_congr (takeRequest_refuse .notInControl free (controlled_otherLink _ _ _ _ barred))
  · rw [State.clearInputs_eq]
    exact ⟨fun i => s.ilu.input_cleared sel i, rfl, rfl, rfl, rfl⟩
end

section
/-! The first checks of a request (R178 steps 1 and 2): its code looked up in the catalogue, and the link in control. -/

namespace Sys2Proof.Machine

open Sys2Proof

variable {s : State} {lk : Link} {code tag : Byte} {pl : List Byte} {cmd : Command}

/-! ### The code looked up (R178 step 1, R181) -/

theorem commandOf?_code (cmd : Command) : commandOf? cmd.code = some cmd := by
  cases cmd <;> rfl

theorem Command.code_mem_catalogue (cmd : Command) : cmd.code.toNat ∈ catalogueCodes := by
  cases cmd <;> decide

theorem commandOf?_unknown (unknown : code.toNat ∉ catalogueCodes) : commandOf? code = none :=
  List.find?_eq_none.mpr fun cmd _ same => unknown (eq_of_beq same ▸ cmd.code_mem_catalogue)

theorem requestBody_code (cmd : Command) : requestBody lk cmd.code pl = commandBody lk pl cmd := by
  funext u
  rw [requestBody, commandOf?_code]

theorem requestBody_unknown (unknown : code.toNat ∉ catalogueCodes) :
    requestBody lk code pl s = refuse .unknownCommand s := by
  rw [requestBody, commandOf?_unknown unknown]

theorem takeFrame_code (cmd : Command) :
    takeFrame lk cmd.code tag pl s = takeRequest lk cmd.code tag (commandBody lk pl cmd) s := by
  rw [takeFrame, requestBody_code]

/-- A request is carried out as the frame of its code, tag and payload: a row of the catalogue carries out the body of
its own command, and UNKNOWN_COMMAND that of whatever code it holds. -/
theorem exec_request {c : Instr} (request : requestOf? c = some (lk, code, tag, pl)) :
    exec c s = .next (takeFrame lk code tag pl s).settle := by
  cases c with
  | status | readConn | readTable | readPhases | readPlan | readQueue | readSlots | readHistory | readEvents
  | readInputs | getParam | queryModule | move | cancel | pin | unpin | hold | release | setAllowance | configConn
  | setClass | setParam | start | autoOn | autoOff | configure | resume | esRetry | clearEvents | clearInputs | setTime
  | restart =>
    cases request
    exact settled_congr (takeFrame_code _).symm
  | unknownCommand =>
    cases request
    rfl
  | _ => cases request

/-! ### The link in control (R163, R178 step 2) -/

/-- A gated command from the link not in control is refused before its gate is looked at. -/
theorem gated_otherLink {α : Type} {gate : State → Option Status} {arg : Option α} {effect : α → State → Answered}
    (other : s.mdc.authority ≠ lk) :
    gated lk gate arg effect (s.asking lk code tag) = refuse .notInControl (s.asking lk code tag) := by
  simp [gated, State.inControl, other]

theorem perConnection_otherLink {arg : Option ConnId} {effect : ConnId → State → Answered}
    (other : s.mdc.authority ≠ lk) :
    perConnection lk arg effect (s.asking lk code tag) = refuse .notInControl (s.asking lk code tag) :=
  controlled_otherLink s lk code tag other

/-- Every command of the in-control link looks at the authority first; the reads and UNPIN are none of them. -/
theorem commandBody_otherLink (mem : cmd ∈ controlledCommands) (other : s.mdc.authority ≠ lk) :
    commandBody lk pl cmd (s.asking lk code tag) = refuse .notInControl (s.asking lk code tag) := by
  unfold commandBody
  cases cmd with
  | move | configConn | setClass | start | autoOn | autoOff | configure | resume => exact gated_otherLink other
  | pin | hold | release => exact perConnection_otherLink other
  | cancel | setAllowance | setParam | esRetry | clearEvents | clearInputs | setTime | restart =>
    exact controlled_otherLink s lk code tag other
  | status | readConn | readTable | readPhases | readPlan | readQueue | readSlots | readHistory | readEvents
  | readInputs | getParam | queryModule | unpin => exact absurd mem (by decide)

end Sys2Proof.Machine

open Sys2Proof Sys2Proof.Machine

/-- Settles O19: each request as the frame of its code, refused by the first of R178's checks that it fails. -/
theorem firstChecksRefuse : Obligations.FirstChecksRefuse := by
  refine ⟨fun c s lk cmd tag pl request controlled free other => ?_, fun s lk code tag pl free unknown => ?_⟩
  · calc exec c s = .next (takeFrame lk cmd.code tag pl s).settle := exec_request request
      _ = .next (takeRequest lk cmd.code tag (commandBody lk pl cmd) s).settle := settled_congr (takeFrame_code cmd)
      _ = .next (s.answering lk cmd.code tag [0x03]).settle :=
        settled_congr (takeRequest_refuse .notInControl free (commandBody_otherLink controlled other))
  · exact settled_congr (takeRequest_refuse .unknownCommand free (requestBody_unknown unknown))
end

section
/-! The Summary Port (R189, R195, R196): a read by its edges, and the length and the check of a record. -/

namespace Sys2Proof.Machine

open Sys2Proof

variable {s : State}

/-! ### The edges of a read (R195) -/

theorem execAll_cons {c : Instr} {t : State} (cs : List Instr) (first : exec c s = .next t) :
    execAll (c :: cs) s = execAll cs t := by
  simp only [execAll, first]

theorem execAll_append {cs ds : List Instr} {t : State} (run : execAll cs s = .next t) :
    execAll (cs ++ ds) s = execAll ds t := by
  induction cs generalizing s with
  | nil => cases run; rfl
  | cons c cs ih =>
    cases first : exec c s with
    | next u =>
      rw [execAll_cons cs first] at run
      rw [List.cons_append, execAll_cons _ first, ih run]
    | fault r => cases r
    | refused r => simp only [execAll, first, reduceCtorEq] at run

/-- A falling edge of select latches the published record and goes to bit 0; the figures renewed after it stay
unlatched. -/
theorem exec_summarySelect (high : s.smp.selectLow = false) : ∃ t : State, exec .summarySelect s = .next t
    ∧ t.smp.latched = s.smp.published ∧ t.smp.bit = 0 ∧ t.smp.selectLow = true := by
  have falls : s.select = { s with smp := { s.smp with latched := s.smp.published, bit := 0, selectLow := true } } :=
    if_neg (by simp [high])
  refine ⟨s.select.settle, rfl, ?_⟩
  rw [falls]
  exact ⟨rfl, rfl, rfl⟩

/-- While select is low each clock edge goes one bit on, up to past 511, on the same copy. -/
theorem execAll_clockEdges (k : Nat) (low : s.smp.selectLow = true) (range : s.smp.bit ≤ 512) :
    ∃ t : State, execAll (List.replicate k .summaryClockFallingEdge) s = .next t
      ∧ t.smp.latched = s.smp.latched ∧ t.smp.bit = min 512 (s.smp.bit + k) ∧ t.smp.selectLow = true := by
  induction k generalizing s with
  | zero => exact ⟨s, rfl, rfl, (Nat.min_eq_right range).symm, low⟩
  | succ k ih =>
    have falls : s.clockFall = { s with smp := { s.smp with bit := min 512 (s.smp.bit + 1) } } := if_pos low
    have bit : s.clockFall.settle.smp.bit = min 512 (s.smp.bit + 1) := by rw [State.settle_bit, falls]
    have latched : s.clockFall.settle.smp.latched = s.smp.latched := by rw [State.settle_latched, falls]
    have still : s.clockFall.settle.smp.selectLow = true := by rw [State.settle_selectLow, falls]; exact low
    obtain ⟨t, run, copy, position, select⟩ := ih still (by omega)
    refine ⟨t, (execAll_cons _ rfl).trans run, copy.trans latched, ?_, select⟩
    rw [position, bit]
    omega

/-- The driven bit: of the byte at its place, most significant bit first, and 0 past bit 511. -/
theorem State.dataOut_low {k : Nat} (low : s.smp.selectLow = true) (position : s.smp.bit = min 512 k) :
    s.dataOut = some (((summaryBytes s.smp.latched)[k / 8]?.getD 0).getLsbD (7 - k % 8) && decide (k < 512)) := by
  rw [State.dataOut, if_pos low, position]
  by_cases inside : k < 512
  · rw [Nat.min_eq_right inside.le, if_pos (by omega), decide_eq_true inside, Bool.and_true, recordBit]
    cases (summaryBytes s.smp.latched)[k / 8]? with
    | some b => rfl
    | none => simp
  · rw [Nat.min_eq_left (Nat.le_of_not_lt inside), if_neg (by omega), decide_eq_false inside, Bool.and_false]

/-! ### The record on the wire (R189, R196) -/

theorem length_summaryBody (p : Published) : (summaryBody p).length = 62 := by
  simp [summaryBody, phaseFigureBytes, powerField]

theorem length_withCrc (body : List Byte) : (withCrc body).length = body.length + 2 := List.length_append

theorem relayAccepts_withCrc {body : List Byte} (length : body.length = 62) : relayAccepts (withCrc body) = true := by
  rw [relayAccepts, length_withCrc, length, withCrc, List.take_left' length, List.drop_left' length]
  exact beq_self_eq_true _

end Sys2Proof.Machine

open Sys2Proof Sys2Proof.Machine

/-- Settles O15: the edge of select, then one clock edge after another on the copy it latched. -/
theorem summaryReadWhole : Obligations.SummaryReadWhole := by
  refine ⟨fun s k high => ?_, fun p => ⟨?_, relayAccepts_withCrc (length_summaryBody p)⟩⟩
  · obtain ⟨u, select, latched, zero, low⟩ := exec_summarySelect high
    obtain ⟨t, clocks, copy, position, still⟩ := execAll_clockEdges k low (zero ▸ Nat.zero_le 512)
    rw [zero, Nat.zero_add] at position
    have published : t.smp.latched = s.smp.published := copy.trans latched
    refine ⟨t, t.deselect.settle, (execAll_cons _ select).trans clocks, published, position, ?driven, rfl, rfl, rfl,
      rfl, ?undriven⟩
    case driven =>
      rw [← published]
      exact State.dataOut_low still position
    case undriven =>
      rw [State.dataOut, high]
      rfl
  · rw [summaryBytes, length_withCrc, length_summaryBody]
end

section
/-! The link receiver (R175, R186): the bytes of a frame as far as they have come, the frame judged when it is whole,
and what a byte does to its port. -/

namespace Sys2Proof.Machine

open Sys2Proof

variable {s : State} {lk : Link} {code tag len b x y : Byte} {pl bytes rest more : List Byte} {now at' : Nat}

/-! ### The bytes of a frame as they stand -/

/-- Bytes after a start byte that complete no frame and have no length out of range. -/
def Unfinished : List Byte → Prop
  | [] => True
  | len :: rest => 2 ≤ len.toNat ∧ len.toNat ≤ 242 ∧ rest.length < len.toNat + 2

theorem Unfinished.of_append (h : Unfinished (bytes ++ more)) : Unfinished bytes := by
  cases bytes with
  | nil => trivial
  | cons len rest =>
    rw [List.cons_append] at h
    obtain ⟨low, high, short⟩ := h
    rw [List.length_append] at short
    exact ⟨low, high, by omega⟩

theorem frameSoFar_unfinished (h : Unfinished bytes) : frameSoFar bytes now = .receiving (.inFrame bytes now) := by
  cases bytes with
  | nil => rfl
  | cons len rest =>
    obtain ⟨low, high, short⟩ := h
    rw [frameSoFar, if_neg (by omega), if_pos short]

theorem frameSoFar_outOfRange (out : len.toNat < 2 ∨ 242 < len.toNat) :
    frameSoFar (len :: rest) now = .receiving .hunt := if_pos out

theorem frameSoFar_complete (low : 2 ≤ len.toNat) (high : len.toNat ≤ 242) (whole : rest.length = len.toNat + 2) :
    frameSoFar (len :: rest) now = judgeFrame (len :: rest) := by
  rw [frameSoFar, if_neg (by omega), if_neg (by omega)]

/-! ### A whole frame judged by its CRC -/

theorem judgeFrame_withCrc : judgeFrame (withCrc (len :: code :: tag :: pl)) = .frame code tag pl := by
  rw [judgeFrame, checkedBody?_withCrc]

theorem checkedBody?_badCrc (bad : be16 (crc16 bytes) ≠ [x, y]) : checkedBody? (bytes ++ [x, y]) = none := by
  have body : (bytes ++ [x, y]).dropLast.dropLast = bytes := by simp [List.dropLast_append_of_ne_nil]
  rw [checkedBody?, body]
  exact if_neg fun same => bad (List.append_cancel_left same)

theorem judgeFrame_badCrc (bad : be16 (crc16 bytes) ≠ [x, y]) : judgeFrame (bytes ++ [x, y]) = .receiving .hunt := by
  rw [judgeFrame, checkedBody?_badCrc bad]

/-! ### A byte at its port -/

theorem State.setReceiver_self (s : State) (lk : Link) : s.setReceiver lk (s.port lk).rx = s := s.setPort_port lk

@[simp] theorem State.setReceiver_rx (s : State) (lk : Link) (rx : Receiver) :
    ((s.setReceiver lk rx).port lk).rx = rx := by
  simp [State.setReceiver]

@[simp] theorem State.setReceiver_setReceiver (s : State) (lk : Link) (rx rx' : Receiver) :
    (s.setReceiver lk rx).setReceiver lk rx' = s.setReceiver lk rx' := by
  simp [State.setReceiver]

theorem State.takeByte_hunt (hunt : (s.port lk).rx = .hunt) :
    s.takeByte lk b = s.setReceiver lk (if b = 0x7E then .inFrame [] s.now else .hunt) := by
  rw [State.takeByte, hunt, receive, huntByte]

section
variable (inFrame : (s.port lk).rx = .inFrame bytes at') (soon : s.now - at' ≤ msToTicks 20)

include inFrame soon

theorem State.receive_inFrame : receive (s.port lk).rx b s.now = frameSoFar (bytes ++ [b]) s.now := by
  rw [inFrame, receive, if_neg (Nat.not_lt.mpr soon)]

theorem State.takeByte_receiving {rx : Receiver} (judged : frameSoFar (bytes ++ [b]) s.now = .receiving rx) :
    s.takeByte lk b = s.setReceiver lk rx := by
  rw [State.takeByte, State.receive_inFrame inFrame soon, judged]

theorem State.takeByte_frame (judged : frameSoFar (bytes ++ [b]) s.now = .frame code tag pl) :
    s.takeByte lk b = takeFrame lk code tag pl s := by
  rw [State.takeByte, State.receive_inFrame inFrame soon, judged]

end

/-! ### The frame handed on (R175, R176) -/

/-- A frame taken leaves nothing of what the receiver held. -/
theorem takeRequest_setReceiver (rx : Receiver) (body : State → Answered) :
    takeRequest lk code tag body (s.setReceiver lk rx) = takeRequest lk code tag body s := by
  simp [takeRequest, State.setReceiver, Port.asked, Port.hunting]

/-- A state whose statuses, outputs and summary are up to date stays as it is when it is settled. -/
theorem State.settle_of_upToDate (current : s.upToDate) : s.settle = s := by
  obtain ⟨conditions, alert, lamp, figures⟩ := current
  have statuses : s.statusesNow = s.evu.statuses := by
    rw [State.statusesNow, ← conditions, ← BitVec.and_or_distrib_left, BitVec.or_comm, BitVec.or_not_self,
      BitVec.and_allOnes]
  have summary : renewed s.smp.published s.figures = s.smp.published := if_pos figures
  have outputs : s.judgeOutputs = s := by
    rw [State.judgeOutputs, statuses, ← alert, ← lamp]
  rw [State.settle, outputs, State.renewSummary, summary]

theorem State.upToDate_setReceiver (current : s.upToDate) (rx : Receiver) : (s.setReceiver lk rx).upToDate := current

/-- A start byte and bytes that complete no frame leave a hunting receiver with those bytes, and nothing else
changed. -/
theorem execAll_unfinished (current : s.upToDate) (hunt : (s.port lk).rx = .hunt) (unfinished : Unfinished bytes) :
    execAll ((0x7E :: bytes).map (Instr.linkByteReceived lk)) s
      = .next (s.setReceiver lk (.inFrame bytes s.now)) := by
  have settled (rx : Receiver) : (s.setReceiver lk rx).settle = s.setReceiver lk rx :=
    State.settle_of_upToDate (State.upToDate_setReceiver current rx)
  induction bytes using List.reverseRecOn with
  | nil =>
    have start : s.takeByte lk 0x7E = s.setReceiver lk (.inFrame [] s.now) := State.takeByte_hunt hunt
    exact congrArg Host.Outcome.next ((congrArg State.settle start).trans (settled _))
  | append_singleton bytes b ih =>
    have received := ih unfinished.of_append
    have byte : (s.setReceiver lk (.inFrame bytes s.now)).takeByte lk b
        = s.setReceiver lk (.inFrame (bytes ++ [b]) s.now) := by
      refine (State.takeByte_receiving (s.setReceiver_rx lk _) ?_ (frameSoFar_unfinished unfinished)).trans ?_
      · simp
      · simp
    rw [← List.cons_append, List.map_append, execAll_append received]
    exact congrArg Host.Outcome.next ((congrArg State.settle byte).trans (settled _))

/-! ### The bytes of a frame (R186) -/

/-- The length, command, tag and payload of a frame: what its CRC covers. -/
def frameBody (code tag : Byte) (pl : List Byte) : List Byte := BitVec.ofNat 8 (pl.length + 2) :: code :: tag :: pl

theorem linkFrame_eq : linkFrame code tag pl = 0x7E :: withCrc (frameBody code tag pl) := rfl

/-- A message ends with the two bytes of its CRC. -/
theorem withCrc_eq (body : List Byte) : withCrc body
    = body ++ [(crc16 body).extractLsb' 8 8] ++ [(crc16 body).extractLsb' 0 8] := by
  rw [List.append_assoc]
  rfl

theorem toNat_frameLength (fits : pl.length ≤ 240) : (BitVec.ofNat 8 (pl.length + 2)).toNat = pl.length + 2 := by
  rw [BitVec.toNat_ofNat]
  omega

theorem unfinished_frameBody (fits : pl.length ≤ 240) (check : Byte) :
    Unfinished (frameBody code tag pl ++ [check]) := by
  have length := toNat_frameLength fits
  exact ⟨by omega, by omega, by simp [length]⟩

theorem frameSoFar_frame (fits : pl.length ≤ 240) :
    frameSoFar (withCrc (frameBody code tag pl)) now = .frame code tag pl := by
  have length := toNat_frameLength fits
  exact (frameSoFar_complete (by omega) (by omega) (by simp [length, be16])).trans judgeFrame_withCrc

end Sys2Proof.Machine

open Sys2Proof Sys2Proof.Machine

/-- Settles O16: each row carries out the body of its own code. -/
theorem requestRowsAreFrames : Obligations.RequestRowsAreFrames := fun _ _ _ _ _ _ request => exec_request request

/-- Settles O17: every byte but the last is kept in the receiver; the last completes the frame, whose CRC is right. -/
theorem frameBytesTakenAsRequest : Obligations.FrameBytesTakenAsRequest := by
  intro s lk code tag pl fits current hunt
  rw [linkFrame_eq, withCrc_eq, ← List.cons_append, List.map_append,
    execAll_append (execAll_unfinished current hunt (unfinished_frameBody fits _))]
  refine settled_congr ((State.takeByte_frame (s.setReceiver_rx lk _) (by simp) ?_).trans (takeRequest_setReceiver _ _))
  rw [← withCrc_eq]
  exact frameSoFar_frame fits
end

section
/-! What the carrying out of a request answers (R178, R179): OK, a refusal that changes nothing, or no result yet. -/

namespace Sys2Proof.Machine

open Sys2Proof

variable {s : State} {lk : Link} {code tag : Byte} {pl : List Byte}

/-! ### The three forms of an answer -/

/-- An answer to a request carried out in a state: OK with a payload; a refusal, which leaves the state as it was; or no
result yet, which leaves the ports as they were (R176). -/
inductive WholeAnswer (s : State) : Answered → Prop
  | ok (payload : List Byte) (t : State) : WholeAnswer s (okWith payload t)
  | refused (st : Status) : WholeAnswer s (refuse st s)
  | awaited (t : State) (ports : t.ports = s.ports) : WholeAnswer s (t, none)

namespace WholeAnswer

variable {α : Type} {arg : Option α} {n : ConnId}

theorem ite {P : Prop} [Decidable P] {x y : Answered} (hx : WholeAnswer s x) (hy : WholeAnswer s y) :
    WholeAnswer s (if P then x else y) := by
  split
  · exact hx
  · exact hy

theorem controlled {effect : α → State → Answered} (effects : ∀ a, WholeAnswer s (effect a s)) :
    WholeAnswer s (controlled lk arg effect s) := by
  refine ite ?_ (refused _)
  split
  · exact effects _
  · exact refused _

theorem gated {gate : State → Option Status} {effect : α → State → Answered}
    (effects : ∀ a, WholeAnswer s (effect a s)) : WholeAnswer s (gated lk gate arg effect s) := by
  refine ite ?_ (refused _)
  split
  · exact refused _
  · split
    · exact effects _
    · exact refused _

theorem readWith {reply : α → State → List Byte} : WholeAnswer s (readWith arg reply s) := by
  unfold Machine.readWith
  split
  · exact ok _ _
  · exact refused _

theorem perConnection {arg : Option ConnId} {effect : ConnId → State → Answered}
    (effects : ∀ n, WholeAnswer s (effect n s)) : WholeAnswer s (perConnection lk arg effect s) :=
  controlled fun n => (effects n).ite (refused _)

theorem unlessInSlot {effect : State → Answered} (whole : WholeAnswer s (effect s)) :
    WholeAnswer s (unlessInSlot n effect s) := (refused _).ite whole

/-! ### The requests of the catalogue -/

theorem doGetParam : WholeAnswer s (doGetParam pl s) := by
  unfold Machine.doGetParam
  split
  · split
    · exact ok _ _
    · exact refused _
  · exact refused _

theorem doQueryModule : WholeAnswer s (doQueryModule lk pl s) := by
  unfold Machine.doQueryModule
  split
  · exact refused _
  · exact (refused _).ite (awaited _ rfl)

theorem doMove : WholeAnswer s (doMove lk pl s) := gated fun _ => by
  split
  · exact refused _
  · exact ok _ _
  · exact refused _

theorem doCancel : WholeAnswer s (doCancel lk pl s) := controlled fun _ => by
  split
  · exact ok _ _
  · split
    · exact ok _ _
    · exact refused _

theorem doUnpin : WholeAnswer s (doUnpin lk pl s) := by
  refine ite ?_ (refused _)
  split
  · exact (ok _ _).ite (refused _)
  · exact refused _

theorem storeValue {p : Param} : WholeAnswer s (storeValue pl p s) := by
  unfold Machine.storeValue
  split
  · split
    · exact ok _ _
    · exact refused _
  · exact refused _

theorem commandBody (cmd : Command) : WholeAnswer s (commandBody lk pl cmd s) := by
  unfold Machine.commandBody
  cases cmd with
  | status | readConn | readTable | readPhases | readPlan | readQueue | readSlots | readHistory | readEvents
  | readInputs => exact readWith
  | getParam => exact doGetParam
  | queryModule => exact doQueryModule
  | move => exact doMove
  | cancel => exact doCancel
  | pin | hold | release => exact perConnection fun _ => unlessInSlot (ok _ _)
  | setAllowance => exact controlled fun _ => (ok _ _).ite (refused _)
  | configConn | setClass | autoOn | autoOff => exact gated fun _ => ok _ _
  | setParam => exact controlled fun _ => (refused _).ite storeValue
  | start => exact gated fun _ => (refused _).ite ((refused _).ite (ok _ _))
  | configure => exact gated fun _ => (ok _ _).ite ((ok _ _).ite (refused _))
  | resume => exact gated fun _ => (refused _).ite (ok _ _)
  | esRetry | clearEvents | clearInputs | setTime | restart => exact controlled fun _ => ok _ _
  | unpin => exact doUnpin

theorem requestBody : WholeAnswer s (requestBody lk code pl s) := by
  unfold Machine.requestBody
  split
  · exact commandBody _
  · exact refused _

end WholeAnswer

/-! ### The answer at its port (R176, R178) -/

/-- A port that has become answering with a result answers with the one just known. -/
theorem Port.answered_eq {p : Port} {reply r : List Byte}
    (h : (p.answered reply).answer = .answering code tag (some r)) : r = reply := by
  unfold Port.answered at h
  split at h
  · cases h; rfl
  · next free => rw [free] at h; cases h

theorem State.setReply_answer {reply : List Byte} :
    ((s.setReply lk reply).port lk).answer = ((s.port lk).answered reply).answer :=
  congrArg Port.answer (s.port_setPort_same lk _)

/-- A request that leaves its port answering another status than OK was refused: the status is all its reply, and
nothing but the port's answer has changed. -/
theorem takeRequest_of_error {body : State → Answered} {st : Byte} {rest : List Byte} (free : s.portFree lk)
    (whole : WholeAnswer (s.asking lk code tag) (body (s.asking lk code tag)))
    (answer : ((takeRequest lk code tag body s).port lk).answer = .answering code tag (some (st :: rest)))
    (error : st ≠ 0x00) : rest = [] ∧ takeRequest lk code tag body s = s.answering lk code tag [st] := by
  rw [takeRequest_of_free _ _ _ _ _ free] at answer ⊢
  generalize body (s.asking lk code tag) = r at whole answer ⊢
  cases whole with
  | ok payload t =>
    have reply := Port.answered_eq (State.setReply_answer.symm.trans answer)
    exact absurd (List.cons.inj reply).1 error
  | refused status =>
    have reply := Port.answered_eq (State.setReply_answer.symm.trans answer)
    obtain ⟨rfl, rfl⟩ := List.cons.inj reply
    exact ⟨rfl, s.setReply_asking lk code tag _⟩
  | awaited t ports =>
    have asked : (t.port lk).answer = .answering code tag none := by
      rw [State.port, ports]
      exact congrArg Port.answer (s.port_setPort_same lk _)
    rw [asked] at answer
    cases answer

theorem takeRequest_discarded {body : State → Answered} {cmd tg : Byte} {r : Option (List Byte)}
    (busy : (s.port lk).answer = .answering cmd tg r) :
    takeRequest lk code tag body s = s.setPort lk { s.port lk with rx := .hunt } := by
  rw [takeRequest, busy]
  rfl

end Sys2Proof.Machine

open Sys2Proof Sys2Proof.Machine

/-- Settles O18: a request is the taking of its frame, discarded at an answering port; at a free one an answer of
another status than OK is a refusal. -/
theorem requestsDiscardedOrRefusedWhole : Obligations.RequestsDiscardedOrRefusedWhole := by
  refine ⟨fun c s lk code tag pl cmd tg r request busy => ?_,
    fun c s t lk code tag pl st rest request free taken answer error => ?_⟩
  · exact (exec_request request).trans (settled_congr (takeRequest_discarded busy))
  · cases (exec_request request).symm.trans taken
    obtain ⟨alone, refused⟩ := takeRequest_of_error free WholeAnswer.requestBody answer error
    exact ⟨alone, congrArg State.settle refused⟩
end

section
/-! The events of a link port (R175, R177): a byte, a gap, and the end of a reply. -/

namespace Sys2Proof.Machine

open Sys2Proof

variable {s : State} {lk : Link}

theorem State.takeGap_inFrame {bytes : List Byte} {at' : Nat} (inFrame : (s.port lk).rx = .inFrame bytes at')
    (framingError : Bool) : s.takeGap lk framingError
      = (if framingError then s else s.atInstant (at' + msToTicks 20)).setReceiver lk .hunt := by
  rw [State.takeGap, inFrame]
  rfl

theorem Port.replied_of_known {p : Port} {cmd tag : Byte} {reply : List Byte}
    (known : p.answer = .answering cmd tag (some reply)) :
    p.replied = { p with answer := .free, lastReply := some (linkFrame cmd tag reply) } := by
  rw [Port.replied, known]

theorem Port.replied_of_awaited {p : Port} {cmd tag : Byte} (awaited : p.answer = .answering cmd tag none) :
    p.replied = p := by
  rw [Port.replied, awaited]

end Sys2Proof.Machine

open Sys2Proof Sys2Proof.Machine

/-- Settles O20: each event of a port by the equation of its operation. -/
theorem linkPortEvents : Obligations.LinkPortEvents := by
  refine ⟨fun s lk => ⟨fun b hunt other => ?noStart, fun hunt => ?start,
    fun at' len b more inFrame soon low high short => ?kept, fun at' len inFrame soon out => ?length,
    fun at' len x y more inFrame soon low high whole bad => ?crc, fun at' bytes inFrame => ⟨?gap, ?framing⟩⟩,
    fun s lk cmd tag => ⟨fun reply known => ?sent, fun awaited => ?unknown⟩⟩
  case noStart =>
    refine settled_congr ((State.takeByte_hunt hunt).trans ?_)
    rw [if_neg other, ← hunt, State.setReceiver_self]
  case start => exact settled_congr (State.takeByte_hunt hunt)
  case kept =>
    have unfinished : Unfinished (len :: more ++ [b]) := ⟨low, high, by simpa using short⟩
    exact settled_congr (State.takeByte_receiving inFrame soon (frameSoFar_unfinished unfinished))
  case length => exact settled_congr (State.takeByte_receiving inFrame soon (frameSoFar_outOfRange out))
  case crc =>
    refine settled_congr (State.takeByte_receiving inFrame soon ?_)
    rw [List.append_assoc, List.singleton_append]
    exact (frameSoFar_complete low high (by simp [whole])).trans (judgeFrame_badCrc bad)
  case gap => exact settled_congr (State.takeGap_inFrame inFrame false)
  case framing => exact settled_congr (State.takeGap_inFrame inFrame true)
  case sent => exact settled_congr (congrArg (s.setPort lk) (Port.replied_of_known known))
  case unknown =>
    exact settled_congr ((congrArg (s.setPort lk) (Port.replied_of_awaited awaited)).trans (s.setPort_port lk))
end

section
/-! The connection entry (R187): its packed bytes and its fields of two bytes. -/

namespace Sys2Proof.Machine

open Sys2Proof

/-! ### Packed bytes -/

theorem toNat_packedByte {n : Nat} (range : n < 256) : (BitVec.ofNat 8 n).toNat = n := by
  rw [BitVec.toNat_ofNat, Nat.mod_eq_of_lt range]

theorem getLsbD_packedByte {n k : Nat} {b : Bool} (place : k < 8) (bit : n / 2 ^ k % 2 = b.toNat) :
    (BitVec.ofNat 8 n).getLsbD k = b := by
  rw [BitVec.getLsbD_ofNat, decide_eq_true place, Bool.true_and, Nat.testBit_eq_decide_div_mod_eq, bit]
  cases b <;> rfl

/-! ### The ranges of the codes (R185) -/

theorem LinkState.code_le (x : LinkState) : LinkState.code x ≤ 2 := by
  cases x <;> decide

theorem Confirmed.code_le (x : Confirmed) : Confirmed.code x ≤ 5 := by
  rcases x with (_ | _ | _) | _ | _ <;> decide

theorem holdCode_le (x : Option HoldReason) : holdCode x ≤ 2 := by
  rcases x with _ | _ | _ <;> decide

theorem epochsSince_le (current : Word) (last : Option Word) : epochsSince current last ≤ 65535 := by
  cases last with
  | none => exact Nat.zero_le _
  | some m => exact Nat.min_le_left _ _

end Sys2Proof.Machine

open Sys2Proof Sys2Proof.Machine

/-- Settles O22: no field of the entry overflows its place, so each is read back from the byte it stands in. -/
theorem connectionEntryLayout : Obligations.ConnectionEntryLayout := by
  rintro s n ⟨allowance, moves, uncommanded, missed⟩
  have present := (s.conn n).present.toNat_le
  have dark := (s.conn n).dark.toNat_le
  have pin := (s.conn n).pin.toNat_le
  have fault := (s.conn n).fault.toNat_le
  have localOp := (s.conn n).localOp.toNat_le
  have linked := (s.conn n).recordLink.isSome.toNat_le
  have moved := (s.conn n).lastMove.isSome.toNat_le
  have timing := (s.conn n).timing.isLt
  have link := (s.conn n).link.code_le
  have phase := (s.conn n).phase.code_le
  have hold := holdCode_le (s.conn n).hold
  refine ⟨_, _, _, _, _, _, _, _, _, _, _, _, _, _, rfl, toNat_connNumber n, ?present, ?timing, ?link, ?phase, ?dark,
    ?pin, ?hold, ?fault, ?localOp, ?missed, rfl, ?moves, ?uncommanded, ?allowance, ?linked, ?moved, ?spare, half_be16 _,
    half_be16 _, half_be16 _, ?epochs, rfl⟩
  case present | dark | pin | fault | localOp | linked | moved => exact getLsbD_packedByte (by decide) (by omega)
  case timing | link | phase | hold | missed | moves | uncommanded | allowance | spare =>
    rw [toNat_packedByte (by omega)]
    omega
  case epochs =>
    rw [half_be16, BitVec.toNat_ofNat, Nat.mod_eq_of_lt (Nat.lt_succ_of_le (epochsSince_le _ _))]
    rfl
end

section
/-! SET_PARAM (R183): its checks in the order of log 19, and the value stored and echoed. -/

namespace Sys2Proof.Machine

open Sys2Proof

variable {s t : State} {lk : Link} {code tag x i : Byte} {v : Word} {p : Param}

/-- A request whose result is known leaves what its body left, its port answering with the result. -/
theorem takeRequest_known {body : State → Answered} {reply : List Byte} (free : s.portFree lk)
    (result : body (s.asking lk code tag) = (t, some reply)) :
    takeRequest lk code tag body s = t.setReply lk reply := by
  rw [takeRequest_of_free _ _ _ _ _ free, result]

theorem controlled_badArg {α : Type} {effect : α → State → Answered} (auth : s.mdc.authority = lk) :
    controlled lk none effect (s.asking lk code tag) = refuse .badArg (s.asking lk code tag) := by
  simp [controlled, State.inControl, auth]

theorem argSetParam_bytes (x i : Byte) (v : Word) : argSetParam (x :: i :: be32 v) = some (x, i, v.toInt) := by
  simp only [argSetParam, be32, word_be32]

/-! ### The value (R183, R184) -/

theorem storeValue_refused (refused : s.writeParam p v.toInt = none) :
    storeValue (x :: i :: be32 v) p s = refuse .badArg s := by
  simp only [storeValue, argSetParam_bytes, refused]

theorem storeValue_stored (stored : s.writeParam p v.toInt = some t) :
    storeValue (x :: i :: be32 v) p s = okWith (x :: i :: i32 (t.stored p)) t := by
  simp only [storeValue, argSetParam_bytes, stored]
  rfl

/-! ### The command in the asking state -/

theorem doSetParam_unnamed (auth : s.mdc.authority = lk) (unnamed : paramOf? x.toNat i.toNat = none) :
    doSetParam lk (x :: i :: be32 v) (s.asking lk code tag) = refuse .badArg (s.asking lk code tag) := by
  rw [doSetParam, argParam, unnamed, controlled_badArg auth]

/-- A parameter the table holds: its gate, then its value. -/
theorem doSetParam_named (auth : s.mdc.authority = lk) (named : paramOf? x.toNat i.toNat = some p) :
    doSetParam lk (x :: i :: be32 v) (s.asking lk code tag) =
      if p = .nominal ∧ s.modeName ≠ .config then refuse .wrongMode (s.asking lk code tag)
      else storeValue (x :: i :: be32 v) p (s.asking lk code tag) := by
  rw [doSetParam, argParam, named, controlled_inControl _ _ _ _ auth]
  simp only [Param.configOnly, beq_iff_eq, State.asking_modeName]

end Sys2Proof.Machine

open Sys2Proof Sys2Proof.Machine

/-- Settles O26: the number and index looked up, the gate of the nominal frequency, then the value. -/
theorem setParamStoresAndEchoes : Obligations.SetParamStoresAndEchoes := by
  intro s lk tag x i v free auth
  refine ⟨fun unnamed => ?_, fun named barred => ?_, fun p named opened => ⟨fun refused => ?_, fun t stored => ?_⟩⟩
  · exact settled_congr (takeRequest_refuse .badArg free (doSetParam_unnamed auth unnamed))
  · exact settled_congr (takeRequest_refuse .wrongMode free
      ((doSetParam_named auth named).trans (if_pos ⟨rfl, barred⟩)))
  all_goals
    have body := (doSetParam_named (v := v) (code := 0x28) (tag := tag) auth named).trans
      (if_neg fun gate => gate.2 (opened gate.1))
  · exact settled_congr (takeRequest_refuse .badArg free (body.trans (storeValue_refused refused)))
  · exact settled_congr (takeRequest_known free (body.trans (storeValue_stored stored)))
end

section
/-! What a command leaves of the Summary Port before it settles: all of it, but for power-on reset and the port's own edges
(R194, R195). -/

namespace Sys2Proof.Machine

open Sys2Proof

variable {s t u : State} {lk : Link} {pl : List Byte}

/-! ### The Summary Port as it was (R194, R195) -/

/-- The published record, the latched copy, the bit position and select are as they were. -/
def State.SmpKept (s t : State) : Prop := t.smp = s.smp

namespace State.SmpKept

theorem refl (s : State) : s.SmpKept s := rfl

/-- By the frame laws of what was done. -/
theorem of_frame (smp : t.smp = s.smp := by simp) : s.SmpKept t := smp

theorem trans (h : s.SmpKept t) (g : t.SmpKept u) : s.SmpKept u := Eq.trans g h

/-! ### Requests -/

theorem acceptMove {n : ConnId} {x y : Phase} : s.SmpKept (acceptMove lk n x y s).1 :=
  of_frame (t := s.makeRoom.accept n x y (Link.origin lk))

theorem restart (s : State) : s.SmpKept s.restart := by
  obtain ⟨v, abandoned, restarted⟩ := s.restart_eq
  obtain ⟨-, -, -, -, -, -, -, -, -, -, smp, -⟩ := abandoned.keeps
  exact (congrArg State.smp restarted).trans smp

theorem writeType {i : InputLine} {level : Bool} : s.SmpKept (s.writeType i level) := by
  unfold State.writeType
  dsimp only
  split
  · exact of_frame
  · exact of_frame

theorem writeParam {p : Param} {v : Int} (written : s.writeParam p v = some t) : s.SmpKept t := by
  have mapped {α : Type} {x : Option α} {f : α → State} (e : x.map f = some t) (hf : ∀ a, s.SmpKept (f a)) :
      s.SmpKept t := by
    obtain ⟨a, -, rfl⟩ := Option.map_eq_some_iff.mp e
    exact hf a
  cases p with
  | nominal | chatterHold | rescue | polarity => exact mapped written fun _ => rfl
  | inputType i =>
    obtain ⟨level, rfl⟩ := State.writeParam_inputType written
    exact writeType
  | _ => exact Option.some.inj written ▸ refl s

theorem doSetParam : s.SmpKept (doSetParam lk pl s).1 :=
  controlled_keeps (refl s) fun _ => answered_ite_keeps (refl s) <| by
    unfold storeValue
    split
    · split
      · next written => exact writeParam written
      · exact refl s
    · exact refl s

theorem doMove : s.SmpKept (doMove lk pl s).1 := gated_keeps (refl s) fun _ => by
  split
  · exact refl s
  · exact acceptMove
  · exact refl s

theorem doCancel : s.SmpKept (doCancel lk pl s).1 := controlled_keeps (refl s) fun _ => by
  split
  · next r _ => exact of_frame (t := s.endQueued r .cancelled)
  · split
    · next k _ => exact of_frame (t := s.cancelSlot k)
    · exact refl s

theorem doQueryModule : s.SmpKept (doQueryModule lk pl s).1 := by
  unfold Machine.doQueryModule
  split
  · exact refl s
  · exact answered_ite_keeps (refl s) (of_frame rfl)

theorem doGetParam : s.SmpKept (doGetParam pl s).1 := by
  unfold Machine.doGetParam
  split
  · split <;> exact refl s
  · exact refl s

theorem doUnpin : s.SmpKept (doUnpin lk pl s).1 := by
  refine answered_ite_keeps ?_ (refl s)
  split
  · exact answered_ite_keeps (of_frame rfl) (refl s)
  · exact refl s

theorem doRestart : s.SmpKept (doRestart lk pl s).1 := controlled_keeps (refl s) fun _ => restart s

/-- Every request of the catalogue. -/
theorem commandBody (c : Command) : s.SmpKept (commandBody lk pl c s).1 := by
  have moded {P : Prop} [Decidable P] {m : BaseMode} : s.SmpKept (if P then s else s.enterMode m) := by
    split
    · exact refl s
    · exact of_frame
  have begun : s.SmpKept (s.emptyHaltRecord.enterMode .manual) := of_frame
  cases c with
  | status | readConn | readTable | readPhases | readPlan | readQueue | readSlots | readHistory | readEvents
  | readInputs => exact readWith_keeps (refl s)
  | getParam => exact doGetParam
  | queryModule => exact doQueryModule
  | move => exact doMove
  | cancel => exact doCancel
  | pin | hold | release => exact perConnection_keeps (refl s) fun _ => unlessInSlot_keeps (refl s) (of_frame rfl)
  | setAllowance => exact controlled_keeps (refl s) fun _ => answered_ite_keeps (of_frame rfl) (refl s)
  | configConn | setClass => exact gated_keeps (refl s) fun _ => of_frame rfl
  | setParam => exact doSetParam
  | start => exact gated_keeps (refl s) fun _ => answered_ite_keeps (refl s) (answered_ite_keeps (refl s) begun)
  | autoOn | autoOff => exact gated_keeps (refl s) fun _ => moded
  | configure =>
    exact gated_keeps (refl s) fun _ => answered_ite_keeps (refl s) (answered_ite_keeps (of_frame rfl) (refl s))
  | resume => exact gated_keeps (refl s) fun _ => answered_ite_keeps (refl s) begun
  | esRetry =>
    refine controlled_keeps (refl s) fun _ => ?_
    dsimp only [okWith]
    split
    · exact of_frame
    · exact refl s
  | clearEvents => exact controlled_keeps (refl s) fun _ => of_frame rfl
  | clearInputs => exact controlled_keeps (refl s) fun sel => of_frame (t := s.clearInputs sel)
  | setTime => exact controlled_keeps (refl s) fun a => of_frame (t := s.setTime a.1 a.2)
  | restart => exact doRestart
  | unpin => exact doUnpin

/-- A frame, whatever its code (R178). -/
theorem takeFrame (lk : Link) (code tag : Byte) (pl : List Byte) : s.SmpKept (takeFrame lk code tag pl s) :=
  takeRequest_keeps (kept := s.SmpKept) (fun _ _ h => h) (fun u h => h.trans <| by
    unfold requestBody
    split
    · exact commandBody _
    · exact refl u) (refl s)

/-! ### Events of the links -/

theorem takeByte (lk : Link) (b : Byte) : s.SmpKept (s.takeByte lk b) := by
  unfold State.takeByte
  split
  · exact refl s
  · exact takeFrame lk _ _ _

theorem takeGap (lk : Link) (framingError : Bool) : s.SmpKept (s.takeGap lk framingError) := by
  unfold State.takeGap
  split
  · exact refl s
  · cases framingError <;> exact refl s

end State.SmpKept

@[simp] theorem State.toSlotInstant_smp (s : State) (k : SlotId) (instant : State → MoveRec → Option Nat) :
    (s.toSlotInstant k instant).smp = s.smp := by
  unfold State.toSlotInstant
  split <;> rfl

/-! ### Every command settles (R193, R194) -/

/-- A command answers a state it has settled, in which it had left the Summary Port as it was. -/
def State.SettlesSmpKept (s : State) (r : Host.Outcome State Fault Refusal) : Prop :=
  ∃ u : State, r = .next u.settle ∧ s.SmpKept u

theorem State.SmpKept.settles (h : s.SmpKept u) : s.SettlesSmpKept (.next u.settle) := ⟨u, rfl, h⟩

namespace State.SettlesSmpKept

/-- By the frame laws of what the command did. -/
theorem of_frame (smp : u.smp = s.smp := by simp) : s.SettlesSmpKept (.next u.settle) := SmpKept.settles smp

theorem ite {P : Prop} [Decidable P] {x y : Host.Outcome State Fault Refusal}
    (hx : s.SettlesSmpKept x) (hy : s.SettlesSmpKept y) : s.SettlesSmpKept (if P then x else y) := by
  split
  · exact hx
  · exact hy

end State.SettlesSmpKept

/-- Every command but power-on reset and the port's own edges. -/
theorem exec_settlesSmpKept (c : Instr) (notReset : ∀ lines mV low, c ≠ .powerOnReset lines mV low)
    (notSelect : c ≠ .summarySelect) (notDeselect : c ≠ .summaryDeselect)
    (notClock : c ≠ .summaryClockFallingEdge) : s.SettlesSmpKept (exec c s) := by
  have unchanged : s.SettlesSmpKept (.next s.settle) := (State.SmpKept.refl s).settles
  cases request : requestOf? c with
  | some r =>
    obtain ⟨lk, code, tag, pl⟩ := r
    rw [exec_request request]
    exact (State.SmpKept.takeFrame lk code tag pl).settles
  | none =>
    cases c with
    | powerOnReset lines mV low => exact absurd rfl (notReset lines mV low)
    | summarySelect => exact absurd rfl notSelect
    | summaryDeselect => exact absurd rfl notDeselect
    | summaryClockFallingEdge => exact absurd rfl notClock
    | linkFrameDiscarded lk b | linkByteReceived lk b => exact (State.SmpKept.takeByte lk b).settles
    | linkGapTimeout lk framingError => exact (State.SmpKept.takeGap lk framingError).settles
    | replySent lk => exact State.SettlesSmpKept.of_frame (u := s.setPort lk (s.port lk).replied) rfl
    | acceptedCrossing p v i | samplePair p v i => exact State.SettlesSmpKept.of_frame (u := s.takeSample p v i)
    | noCrossingLoss p => exact unchanged.ite .of_frame
    | neutralWindowEnd samples => exact .ite .of_frame unchanged
    | secondTick => exact State.SettlesSmpKept.of_frame (u := s.tick)
    | dayRollover => exact .ite .of_frame unchanged
    | epochEnd => exact State.SettlesSmpKept.of_frame (u := s.takeOwedEnd)
    | debounceComplete i b | inputSample i b => exact State.SettlesSmpKept.of_frame (u := s.sampleInput i b)
    | supplyClearingTimeout =>
      simp only [exec, execSupplyClearingTimeout]
      split
      · exact .of_frame
      · exact unchanged
      · exact unchanged
    | storeVoltageRenewal mV =>
      simp only [exec, execStoreVoltageRenewal]
      exact .of_frame
    | chargeTimeout =>
      simp only [exec, execChargeTimeout]
      split
      · exact .of_frame
      · exact unchanged
      · exact unchanged
      · exact unchanged
    | recoveryEnd =>
      simp only [exec, execRecoveryEnd]
      split
      · exact .ite .of_frame unchanged
      · exact unchanged
    | frameBoundary =>
      simp only [exec, execFrameBoundary]
      split
      · exact .of_frame
      · exact unchanged
    | unitStart => exact .ite (.ite .of_frame .of_frame) unchanged
    | pollReply m | actuationReply m | passThroughReply m =>
      exact State.SettlesSmpKept.of_frame (u := s.takeMessage m)
    | transactionMissed => exact State.SettlesSmpKept.of_frame (u := s.missTransaction)
    | gapPoint k | orphanDeadline k | darkDeadline k =>
      simp only [exec, execGapPoint, execOrphanDeadline, execDarkDeadline]
      split
      · exact .ite .of_frame .of_frame
      · exact .of_frame
    | admission => exact State.SettlesSmpKept.of_frame (u := s.takeAdmission)
    | _ => cases request

theorem State.select_published (s : State) : s.select.smp.published = s.smp.published := by
  unfold State.select
  split <;> rfl

theorem State.clockFall_published (s : State) : s.clockFall.smp.published = s.smp.published := by
  unfold State.clockFall
  split <;> rfl

/-- Every command settles what it leaves, and none but power-on reset has touched the published record before that. -/
theorem exec_settles (c : Instr) (s : State) : ∃ u : State, exec c s = .next u.settle
    ∧ ((∀ lines mV low, c ≠ .powerOnReset lines mV low) → u.smp.published = s.smp.published) := by
  by_cases reset : ∃ lines mV low, c = .powerOnReset lines mV low
  · obtain ⟨lines, mV, low, rfl⟩ := reset
    exact ⟨powerOn lines mV low s, rfl, fun notReset => absurd rfl (notReset lines mV low)⟩
  by_cases select : c = .summarySelect
  · exact select ▸ ⟨s.select, rfl, fun _ => s.select_published⟩
  by_cases deselect : c = .summaryDeselect
  · exact deselect ▸ ⟨s.deselect, rfl, fun _ => rfl⟩
  by_cases clock : c = .summaryClockFallingEdge
  · exact clock ▸ ⟨s.clockFall, rfl, fun _ => s.clockFall_published⟩
  have notReset lines mV low (e : c = .powerOnReset lines mV low) : False := reset ⟨lines, mV, low, e⟩
  obtain ⟨u, settled, kept⟩ := exec_settlesSmpKept (s := s) c notReset select deselect clock
  exact ⟨u, settled, fun _ => congrArg Smp.published kept⟩

end Sys2Proof.Machine

open Sys2Proof Sys2Proof.Machine

/-- Settles O14: what such a command leaves of the port before it settles is all of it, and settling renews the published
record alone. -/
theorem readSeesOneCopy : Obligations.ReadSeesOneCopy := by
  intro c s t notReset notSelect notDeselect notClock e
  obtain ⟨u, settled, kept⟩ := exec_settlesSmpKept (s := s) c notReset notSelect notDeselect notClock
  obtain rfl : u.settle = t := Host.Outcome.next.inj (settled.symm.trans e)
  have smp : u.smp = s.smp := kept
  rw [State.settle_latched, State.settle_bit, State.settle_selectLow, smp]
  exact ⟨rfl, rfl, rfl⟩
end

section
/-! What settling makes of the statuses, the outputs and the summary (R191, R193, R194). -/

namespace Sys2Proof.Machine

open Sys2Proof

/-! ### The statuses and the outputs (R191, R193) -/

theorem EventKind.bit_lt (e : EventKind) : e.bit < 16 := by
  cases e <;> decide

theorem EventKind.getLsbD_mask (e : EventKind) (i : Nat) : e.mask.getLsbD i = decide (e.bit = i) := by
  have power : e.mask = BitVec.twoPow 16 e.bit := rfl
  rw [power, BitVec.getLsbD_twoPow, decide_eq_true e.bit_lt, Bool.true_and]

theorem getLsbD_conditionMask (e : EventKind) : conditionMask.getLsbD e.bit = decide (e ∈ conditionKinds) := by
  cases e <;> rfl

/-- A condition status is the condition of its kind. -/
theorem State.getLsbD_conditionBits (s : State) {e : EventKind} (kind : e ∈ conditionKinds) :
    s.conditionBits.getLsbD e.bit = s.condition e := by
  have status (f : EventKind) : (if s.condition f then f.mask else 0 : Half).getLsbD e.bit
      = (s.condition f && decide (f.bit = e.bit)) := by
    cases s.condition f
    · exact BitVec.getLsbD_zero
    · exact f.getLsbD_mask e.bit
  simp only [State.conditionBits, BitVec.getLsbD_or, status]
  simp only [conditionKinds, List.mem_cons, List.not_mem_nil, or_false] at kind
  rcases kind with rfl | rfl | rfl | rfl | rfl | rfl | rfl <;> simp [EventKind.bit]

theorem State.getLsbD_statusesNow (s : State) {e : EventKind} (kind : e ∈ conditionKinds) :
    s.statusesNow.getLsbD e.bit = s.condition e := by
  rw [State.statusesNow, BitVec.getLsbD_or, BitVec.getLsbD_and, BitVec.getLsbD_not, getLsbD_conditionMask,
    decide_eq_true kind, s.getLsbD_conditionBits kind]
  simp

/-- An output is asserted exactly while some status is set that is a member of its mask (R193). -/
theorem outputOf_iff (statuses mask : Half) :
    outputOf statuses mask = true ↔ ∃ i, i < 16 ∧ statuses.getLsbD i = true ∧ mask.getLsbD i = true := by
  have member (i : Nat) : (statuses &&& mask).getLsbD i = true ↔ statuses.getLsbD i = true ∧ mask.getLsbD i = true := by
    rw [BitVec.getLsbD_and, Bool.and_eq_true]
  rw [outputOf, bne_iff_ne, ← not_iff_not, not_not]
  simp only [← member, not_exists, not_and, Bool.not_eq_true]
  exact ⟨fun none i _ => none ▸ BitVec.getLsbD_zero, fun none => BitVec.eq_of_getLsbD_eq fun i inside =>
    (none i inside).trans BitVec.getLsbD_zero.symm⟩

/-! ### The figures (R194) -/

/-- Every present record is of one confirmed phase, or NONE, or UNKNOWN. -/
theorem countConfirmed_partition (cs : List Conn) :
    countConfirmed cs (.on .A) + countConfirmed cs (.on .B) + countConfirmed cs (.on .C) + countConfirmed cs .off
      + countConfirmed cs .unknown = cs.countP (·.present) := by
  induction cs with
  | nil => rfl
  | cons c cs ih =>
    simp only [countConfirmed, List.countP_cons] at ih ⊢
    cases c.present with
    | false => simpa using ih
    | true =>
      cases c.phase with
      | on p => cases p <;> simp <;> omega
      | off | unknown => simp; omega

/-- The number rises by 1 exactly where a figure differs. -/
theorem renewed_number (p : Published) (f : Figures) :
    (renewed p f).number = if f = p.figures then p.number else p.number + 1 := by
  unfold renewed
  by_cases same : p.figures = f
  · rw [if_pos same, if_pos same.symm]
  · rw [if_neg same, if_neg (Ne.symm same)]

end Sys2Proof.Machine

open Sys2Proof Sys2Proof.Machine

/-- Settles O5: the state a command answers is settled. -/
theorem outputsFollowStatuses : Obligations.OutputsFollowStatuses := by
  intro c s t e
  obtain ⟨u, settled, -⟩ := exec_settles c s
  obtain rfl : u.settle = t := Host.Outcome.next.inj (settled.symm.trans e)
  exact ⟨fun _ kind => u.getLsbD_statusesNow kind, outputOf_iff _ _, outputOf_iff _ _⟩

/-- Settles O6: the state a command answers is settled, from the record published before; the counts are of a
partition. -/
theorem publishedRecordCurrent : Obligations.PublishedRecordCurrent := by
  intro c s t e
  obtain ⟨u, settled, published⟩ := exec_settles c s
  obtain rfl : u.settle = t := Host.Outcome.next.inj (settled.symm.trans e)
  refine ⟨renewed_figures _ _, fun notReset => ?_, countConfirmed_partition _⟩
  rw [State.settle_published, State.settle_figures, renewed_number, published notReset]
end

section
/-! CLEAR_EVENTS (R192): the statuses left, bit by bit, and the answer at a free port. -/

namespace Sys2Proof.Machine

open Sys2Proof

variable {s : State} {lk : Link} {tag : Byte} {sel : Half}

theorem argEvents_be16 (sel : Half) : argEvents (be16 sel) = some sel := congrArg some (half_be16 sel)

/-- The bits of the condition kinds. -/
theorem getLsbD_conditionMask_eq_any :
    ∀ i < 16, conditionMask.getLsbD i = conditionKinds.any fun e => e.bit == i := by
  decide

/-- A selected edge status becomes clear, every other status stays (R192). -/
theorem getLsbD_clearedStatuses (statuses sel : Half) {i : Nat} (inside : i < 16) :
    (clearedStatuses statuses sel).getLsbD i
      = (statuses.getLsbD i && !(sel.getLsbD i && !conditionKinds.any fun e => e.bit == i)) := by
  simp only [clearedStatuses, BitVec.getLsbD_and, BitVec.getLsbD_not, inside, decide_true, Bool.true_and,
    getLsbD_conditionMask_eq_any i inside]

/-- CLEAR_EVENTS of the link in control is accepted, answering the statuses left. -/
theorem exec_clearEvents (free : s.portFree lk) (auth : s.mdc.authority = lk) :
    exec (.clearEvents lk tag (be16 sel)) s
      = .next ((s.clearEvents sel).answering lk 0x2F tag (0x00 :: be16 (clearedStatuses s.evu.statuses sel))).settle :=
  settled_congr (takeRequest_effect _ _ _ _ free rfl (by
    rw [doClearEvents, argEvents_be16, controlled_inControl _ _ _ _ auth]
    rfl))

end Sys2Proof.Machine

open Sys2Proof Sys2Proof.Machine

/-- Settles O34: refused from the other link; from the link in control the selected edge statuses cleared and the rest
answered. -/
theorem clearEventsTaken : Obligations.ClearEventsTaken := by
  refine fun s lk tag sel free => ⟨fun barred => ?_, fun auth =>
    ⟨clearedStatuses s.evu.statuses sel, fun _ inside => getLsbD_clearedStatuses _ _ inside, exec_clearEvents free auth⟩⟩
  exact settled_congr (takeRequest_refuse .notInControl free (controlled_otherLink _ _ _ _ barred))
end

section
/-! The step (log 1). -/

open Sys2Proof Sys2Proof.Machine

/-- Settles O1: the queue is not empty, so `step` takes its second branch. -/
theorem stepRunsTheFrontCommand : Obligations.StepRunsTheFrontCommand := by
  intro c rest s front
  simp only [step, front]
end
